-- ==== Sys2Proof/Word.lean ====
section
/-! DEFINITION. The base types every other file uses: a byte of the branch link, the numbers of the
cabinet's fixed things, and a table of fixed length. -/

namespace Sys2Proof

/-- A byte of the branch link (R168, R169). -/
abbrev Byte := BitVec 8

/-- A compartment. The manual's number 1-192 is the value plus one (R16). -/
abbrev CompId := Fin 192

/-- A key index, 0-383 (R1). -/
abbrev KeyId := Fin 384

/-- A contract slot, 0-511 (R56). -/
abbrev Slot := Fin 512

/-- A vehicle group, 0-15 for A-P. -/
abbrev Group := Fin 16

/-- A panel. The manual's number 1-8 is the value plus one (R16). -/
abbrev Panel := Fin 8

/-- A place of the badge table, 0-63 (R142). -/
abbrev BadgePlace := Fin 64

/-- The numbers below `n`, in order. -/
def fins (n : Nat) : List (Fin n) :=
  (List.range n).pmap (fun i h => ⟨i, h⟩) fun _ h => List.mem_range.mp h

/-- A table of exactly `n` rows, held as a list: plain data, read and written at a `Fin n`. -/
structure Table (α : Type) (n : Nat) where
  rows : List α
  size : rows.length = n
  deriving DecidableEq, Repr

namespace Table

variable {α : Type} {n : Nat}

/-- The row at place `i`. -/
def get (t : Table α n) (i : Fin n) : α :=
  t.rows[i.val]'(t.size.symm ▸ i.isLt)

/-- The table with the row at place `i` replaced. -/
def set (t : Table α n) (i : Fin n) (a : α) : Table α n :=
  ⟨t.rows.set i.val a, by rw [List.length_set, t.size]⟩

/-- The table with `f` applied to the row at place `i`. -/
def modify (t : Table α n) (i : Fin n) (f : α → α) : Table α n :=
  t.set i (f (t.get i))

/-- The table with `f` applied to every row. -/
def map {β : Type} (t : Table α n) (f : α → β) : Table β n :=
  ⟨t.rows.map f, by rw [List.length_map, t.size]⟩

/-- The table whose rows are all `a`. -/
def replicate (n : Nat) (a : α) : Table α n :=
  ⟨List.replicate n a, List.length_replicate⟩

/-- The table of two tables' rows, joined place by place. -/
def zipWith {β γ : Type} (f : α → β → γ) (t : Table α n) (u : Table β n) : Table γ n :=
  ⟨List.zipWith f t.rows u.rows, by rw [List.length_zipWith, t.size, u.size, Nat.min_self]⟩

/-- The places, in order, whose row satisfies `p`. -/
def places (t : Table α n) (p : α → Bool) : List (Fin n) :=
  ((fins n).zip t.rows).filterMap fun x => if p x.2 then some x.1 else none

/-- The first place whose row satisfies `p`. -/
def find (t : Table α n) (p : α → Bool) : Option (Fin n) :=
  match t.rows.findIdx? p with
  | some i => if h : i < n then some ⟨i, h⟩ else none
  | none => none

end Table

end Sys2Proof
end

