-- ==== Sys2Proof/Syntax.lean ====
section
/-! DEFINITION. The commands the block takes: one constructor for each row of the opcode table. -/

namespace Sys2Proof

/-- What the completion of a read reports (R43): the compartment that was read, and the found list F. -/
structure ReadResult where
  comp : CompId
  tags : List Nat
  deriving DecidableEq, Repr

/-- A command. A link request is the completion, in the receiver, of a sound frame of its kind: its
operands are the frame's TAG and body bytes (R169, R172). Every other command is an event of the
field, of a timer, of the line or of the power supply, with what the event carries. -/
inductive Instr where
  -- the part's overall state, clock, mode and starts
  | status (tg : Byte) (body : List Byte)
  | setClock (tg : Byte) (body : List Byte)
  | setMode (tg : Byte) (body : List Byte)
  | restart (tg : Byte) (body : List Byte)
  | purge (tg : Byte) (body : List Byte)
  | timebase (tg : Byte) (body : List Byte)
  -- key messages
  | keyEnrol (tg : Byte) (body : List Byte)
  | keyEdit (tg : Byte) (body : List Byte)
  | keyRemove (tg : Byte) (body : List Byte)
  | keyQuery (tg : Byte) (body : List Byte)
  | keyHold (tg : Byte) (body : List Byte)
  | keyChecked (tg : Byte) (body : List Byte)
  | availQuery (tg : Byte) (body : List Byte)
  -- contract messages
  | issue (tg : Byte) (body : List Byte)
  | amend (tg : Byte) (body : List Byte)
  | handout (tg : Byte) (body : List Byte)
  | cancel (tg : Byte) (body : List Byte)
  | resume (tg : Byte) (body : List Byte)
  | forceClose (tg : Byte) (body : List Byte)
  | retire (tg : Byte) (body : List Byte)
  | contractQuery (tg : Byte) (body : List Byte)
  | listLate (tg : Byte) (body : List Byte)
  -- compartment and scan messages
  | openRelease (tg : Byte) (body : List Byte)
  | cancelRelease (tg : Byte) (body : List Byte)
  | service (tg : Byte) (body : List Byte)
  | compartmentQuery (tg : Byte) (body : List Byte)
  | rescan (tg : Byte) (body : List Byte)
  -- drop box messages
  | dropQuery (tg : Byte) (body : List Byte)
  | dropEmptied (tg : Byte) (body : List Byte)
  -- notice and attention messages
  | fetch (tg : Byte) (body : List Byte)
  | consume (tg : Byte) (body : List Byte)
  | attentionQuery (tg : Byte) (body : List Byte)
  | acknowledge (tg : Byte) (body : List Byte)
  -- forecast and store messages
  | forecastQuery (tg : Byte) (body : List Byte)
  | storeRead (tg : Byte) (body : List Byte)
  | storeStage (tg : Byte) (body : List Byte)
  | storeCommit (tg : Byte) (body : List Byte)
  | profileLock (tg : Byte) (body : List Byte)
  -- the line
  | unknownKind (kind tg : Byte) (body : List Byte)
  | frameDiscard (len kind tg : Byte) (body : List Byte) (check : Byte)
  | overrun (kind tg : Byte) (body : List Byte)
  | badLength (b : Byte)
  | stopBitError
  | idleTimerExpiry
  | frameSent
  -- power, store write and time
  | powerUp (backupLost : Bool)
  | storeWriteComplete
  | minuteEvent
  | latenessScanVisit
  -- doors and scans
  | doorOpened (n : CompId)
  | doorClosed (n : CompId)
  | windowExpiry (n : CompId)
  | holdExpiry (n : CompId)
  | scanCompletion (found : ReadResult)
  -- the kiosk
  | digitKey (d : Fin 10)
  | clearKey
  | okKey
  | tagAtPad (keyTag : Nat)
  | badgePresented (badge : Nat)
  | callButtonPressed
  | callButtonReleased
  | longPress
  | interDigitExpiry
  | lockoutExpiry
  | staffTimerExpiry
  | resultHoldExpiry
  | briefPromptExpiry
  -- the drop box
  | chuteRead (keyTag : Option Nat)
  | staffDoorOpened
  | staffDoorClosed
  -- the pager, single bytes and the end of power
  | pagerPulseEnd
  | byteReceived (b : Byte)
  | powerLoss
  deriving DecidableEq, Repr

end Sys2Proof
end

