-- ==== Sys2Proof/Decode.lean ====
section
/-! DEFINITION. The command a word spells by the table's bits. -/

namespace Sys2Proof

/-- No row of spec/opcode_table.json gives any bits, so no word spells a command: the commands reach the
block as events and as whole frames, and the frames' own bytes are read by the receiver (R170, R172). -/
def decodeTableWord (_nbits _w : Nat) : Option Instr := none

end Sys2Proof
end

