-- ==== Sys2Proof/Config.lean ====
section
/-! DEFINITION. What the manual leaves open and the model leaves free: constants without a body, so that
nothing in Lean can evaluate them or prove a value of them. -/

namespace Sys2Proof.Config

/-- Whether, at an idle transmitter, a reply goes ahead of an attention frame that becomes ready in the
same event (R175: "Either may be taken first"). Free, drawn with the model's counter (log 3, DESIGN CHOICE). -/
opaque replyFirst : Nat → Bool

/-- The rank by which timers that end in one tick deliver their expiries (R24, R86, R89, R94: either may
be taken first). Free, drawn with the model's counter (log 2, DEDUCED). -/
opaque expiryRank : Nat → Instr → Nat

end Sys2Proof.Config
end

