-- ==== Sys2Proof/Machine/State.lean ====
section
/-! DEFINITION. Every piece of state the manual gives the KC192, block by block (00_scope section 3), the
state after reset, and the reasons a step could stop. -/

namespace Sys2Proof.Machine

/-! ### Key table (Chapter 1) -/

/-- R1. -/
inductive Transmission where | auto | manual
  deriving DecidableEq, Repr

/-- R1. -/
inductive Energy where | petrol | diesel | hybrid | electric
  deriving DecidableEq, Repr

/-- R1. -/
inductive CheckMark where | checked | unchecked
  deriving DecidableEq, Repr

/-- Where a key is, by the records (R1, section 1.2). -/
inductive Location where
  | compartment (n : CompId)
  | out (contract : Nat)
  | drop
  | staffHand
  | missing
  deriving DecidableEq, Repr

/-- An enrolled key (R1). The index is the record's place. -/
structure KeyRecord where
  tag : Nat
  /-- The label's characters, trailing spaces removed (R7). -/
  label : List Byte
  group : Group
  transmission : Transmission
  energy : Energy
  seats : Nat
  location : Location
  mark : CheckMark
  hold : Bool
  promisedTo : Option Nat
  idleSince : Nat
  deriving DecidableEq, Repr

/-- The key table: 384 places and the sixteen availability lists (R1, R5). -/
structure KeyTable where
  places : Table (Option KeyRecord) 384
  lists : Table (List KeyId) 16
  deriving DecidableEq, Repr

/-! ### Compartment controller (Chapter 2) -/

/-- R16, section 2.2. -/
inductive DoorState where
  | locked | waiting | unlatched | opened | leftOpen | forcedOpen | scanning | unknown
  deriving DecidableEq, Repr

/-- R16. -/
inductive Service where | inService | outOfService
  deriving DecidableEq, Repr

/-- An item of a compartment's contents (R16). -/
inductive Item where
  | key (k : KeyId)
  | foreign (tag : Nat)
  deriving DecidableEq, Repr

/-- R18. -/
inductive Origin where | kiosk | link
  deriving DecidableEq, Repr

/-- A release's purpose with what it is present for: contract and key for PICKUP and RETURN, badge number
for STAFF (R18). -/
inductive Purpose where
  | pickup (contract : Nat) (key : KeyId)
  | ret (contract : Nat) (key : KeyId)
  | staff (badge : Nat)
  | link
  deriving DecidableEq, Repr

/-- A release record (R18). -/
structure Release where
  purpose : Purpose
  origin : Origin
  deriving DecidableEq, Repr

/-- A compartment record (R16) with its window and hold timers in ticks remaining (R32). -/
structure Compartment where
  door : DoorState
  service : Service
  contents : List Item
  known : Bool
  forced : Bool
  reservation : Option Nat
  release : Option Release
  window : Option Nat
  hold : Option Nat
  deriving DecidableEq, Repr

/-- The compartment table, the release queue (R21) and the two latch channels (R22). -/
structure Compartments where
  table : Table Compartment 192
  queue : List CompId
  channel1 : Option CompId
  channel2 : Option CompId
  deriving DecidableEq, Repr

/-! ### Inventory scanner (Chapter 3) -/

/-- R40. -/
inductive ScanClass where | door | sweep
  deriving DecidableEq, Repr

/-- The purpose an entry carries (R40). -/
inductive Carried where | nothing | forced | release
  deriving DecidableEq, Repr

/-- R40. -/
structure ScanEntry where
  comp : CompId
  cls : ScanClass
  carried : Carried
  reading : Bool
  deriving DecidableEq, Repr

/-- The scan list and the sweep-in-progress flag (R40, R45). -/
structure Scanner where
  list : List ScanEntry
  sweeping : Bool
  deriving DecidableEq, Repr

/-! ### Contract controller (Chapter 4) -/

/-- R56, section 4.2. -/
inductive ContractState where
  | ticket | suspended | picking | out | returning | closed | lapsed | void
  deriving DecidableEq, Repr

/-- What a contract entitles to (R57). A wish of `none` is ANY. -/
inductive Entitlement where
  | specific (k : KeyId)
  | cls (group : Group) (transmission : Option Transmission) (energy : Option Energy)
      (minSeats upgrade : Nat)
  deriving DecidableEq, Repr

/-- R56. -/
inductive Route where | compartment | stray | drop | forceClosed
  deriving DecidableEq, Repr

/-- A lateness standing (R56, R119), in the order NONE < SOON < LATE1 < LATE2 < LATE3. -/
inductive Tier where | none | soon | late1 | late2 | late3
  deriving DecidableEq, Repr

/-- A contract record (R56). The slot is the record's place. -/
structure Contract where
  number : Nat
  state : ContractState
  entitlement : Entitlement
  code : Option Nat
  windowStart : Option Nat
  windowEnd : Option Nat
  due : Nat
  grace : Option Nat
  key : Option KeyId
  grantedGroup : Option Group
  handoutMinute : Option Nat
  returnMinute : Option Nat
  route : Option Route
  tier : Tier
  reminderBase : Nat
  attempts : Nat
  lateHours : Option Nat
  deriving DecidableEq, Repr

/-- The contract table and the pickup-code index (R56, R58). The index is kept sorted by code. -/
structure ContractTable where
  slots : Table (Option Contract) 512
  codes : List (Nat × Slot)
  deriving DecidableEq, Repr

/-! ### Kiosk controller (Chapter 5) -/

/-- The kiosk state (R84). -/
inductive KioskMode where | idle | codeEntry | waitDoor | staff | lockout | calling
  deriving DecidableEq, Repr

/-- R84. -/
inductive WaitKind where | pickup | ret
  deriving DecidableEq, Repr

/-- The prompts of section 5.8. -/
inductive Prompt where
  | welcome | enterCode | codeNotValid | notYet | expired | seeCounter | noVehicle | pleaseWait
  | openDoor (n : CompId) | returnTo (n : CompId) | tagNotRecognised | useDropBox
  | cabinetFullSeeCounter | lockedOut | callingStaff | staffReady | notPermitted | outOfService
  | thankYou
  deriving DecidableEq, Repr

/-- The kiosk controller's state (R84). A timer is its ticks remaining while it runs. -/
structure Kiosk where
  mode : KioskMode
  digits : List (Fin 10)
  wrongCodes : Nat
  waited : Option (CompId × WaitKind)
  /-- Badge number and level. -/
  badge : Option (Nat × Nat)
  /-- The compartments of the STAFF releases that this staff session asked for and whose OPENED, EXPIRED or
  CANCELLED the kiosk has not been told yet (R18, R94, R95; log 17, DEDUCED). -/
  opens : List CompId
  interDigit : Option Nat
  lockout : Option Nat
  staffTimer : Option Nat
  resultHold : Option Nat
  brief : Option Nat
  press : Option Nat
  prompt : Prompt
  deriving DecidableEq, Repr

/-! ### Drop box controller (Chapter 6) -/

/-- R101. -/
inductive Flap where | opened | locked
  deriving DecidableEq, Repr

/-- The staff door, by its switch (R101). -/
inductive StaffDoor where | closed | opened
  deriving DecidableEq, Repr

/-- An entry of the drop list (R101). -/
structure DropEntry where
  tag : Option Nat
  key : Option KeyId
  minute : Option Nat
  contract : Option Nat
  deriving DecidableEq, Repr

/-- R101. -/
structure DropBox where
  entries : List DropEntry
  flap : Flap
  staffDoor : StaffDoor
  deriving DecidableEq, Repr

/-! ### Overdue monitor (Chapters 7 and 8) -/

/-- R113. -/
inductive ClockState where | notSet | stale | running
  deriving DecidableEq, Repr

/-- The lateness scan's state (R123). -/
structure LatenessScan where
  scanning : Bool
  minute : Nat
  nextSlot : Nat
  pendingStart : Option Nat
  deriving DecidableEq, Repr

/-- The five counts of open contracts by stored tier (R127). -/
structure TierCounts where
  none : Nat
  soon : Nat
  late1 : Nat
  late2 : Nat
  late3 : Nat
  deriving DecidableEq, Repr

/-- A bucket of the forecast: R_b, K_b, P_b and Free_b (R131). -/
structure Bucket where
  returns : Nat
  pickups : Nat
  occupied : Nat
  free : Nat
  deriving DecidableEq, Repr

/-- The forecast result (R131). -/
structure Forecast where
  computed : Bool
  minute : Nat
  reserve : Nat
  counted : Nat
  occupied : Nat
  dropKeys : Nat
  start : Nat
  buckets : List Bucket
  short : Bool
  firstShort : Option Nat
  deficit : Option Nat
  stale : Bool
  deriving DecidableEq, Repr

/-- The branch clock, the lateness scan, the tier counts and the forecast (R113, R123, R127, R131). -/
structure Overdue where
  clock : ClockState
  value : Nat
  scan : LatenessScan
  counts : TierCounts
  forecast : Forecast
  deriving DecidableEq, Repr

/-! ### Access controller (Chapter 9) -/

/-- R147. -/
inductive BranchMode where | staffed | unstaffed | lockdown
  deriving DecidableEq, Repr

/-! ### Notice unit (Chapter 10) -/

/-- The notice kinds, in code order (R156). -/
inductive NoticeKind where
  | handoutDone | handoutFailed | returnDone | returnFailed | keyMissing | keyToStaff | foreignTag
  | forcedDoor | doorLeftOpen | tierRaised | reminder | ticketLapsed | ticketSuspended
  | codeLockout | staffCall | accessDenied | capacityShort | capacityClear | dropFull
  | dropEmptied | dropForeign | sweepDone | storeWritten | storeDamaged | start
  deriving DecidableEq, Repr

/-- What a notice holds besides its sequence number (R155). -/
structure NoticeBody where
  kind : NoticeKind
  minute : Option Nat
  comp : Option CompId := none
  key : Option KeyId := none
  contract : Option Nat := none
  tag : Option Nat := none
  detailA : Nat := 0
  detailB : Nat := 0
  deriving DecidableEq, Repr

/-- R155. -/
structure Notice where
  seq : Nat
  body : NoticeBody
  deriving DecidableEq, Repr

/-- The ten attention causes in priority order (R160). -/
inductive Cause where
  | forcedDoor | doorLeftOpen | late3Present | dropFull | capacityShort | staffCall | keyAnomaly
  | latePresent | noticeOverflow | noticesWaiting
  deriving DecidableEq, Repr

/-- R164. -/
inductive Beacon where | off | steady | flash
  deriving DecidableEq, Repr

/-- The notice unit's state (R157, R160, R164, R165). `pending` lists the pending causes in priority
order; `pager` holds the ticks remaining of a pulse while the contact is closed. -/
structure NoticeUnit where
  ring : List Notice
  nextSeq : Nat
  overflow : Bool
  pending : List Cause
  callLatch : Bool
  missing : Nat
  foreign : Nat
  beacon : Beacon
  pager : Option Nat
  deriving DecidableEq, Repr

/-! ### Branch store (Chapter 12; records of Chapters 7, 9, 10) -/

/-- The PROFILE record (R179). The link speed is its code 0-5. -/
structure Profile where
  speed : Nat
  divisor : Nat
  window : Nat
  hold : Nat
  reserve : Nat
  trigger : Nat
  modeAtStart : BranchMode
  deriving DecidableEq, Repr

/-- A GROUP record (R117). -/
structure GroupPolicy where
  grace : Nat
  lead : Nat
  t2 : Nat
  t3 : Nat
  reminder : Nat
  checkOnReturn : Bool
  deriving DecidableEq, Repr

/-- A PANEL record (R144). -/
structure PanelSetting where
  pickup : Bool
  ret : Bool
  openLevel : Nat
  deriving DecidableEq, Repr

/-- The ALERT record's settings of one cause (R163). -/
structure CauseSetting where
  beacon : Beacon
  pager : Bool
  report : Bool
  deriving DecidableEq, Repr

/-- An occupied place of the badge table (R142). -/
structure Badge where
  number : Nat
  level : Nat
  enabled : Bool
  label : List Byte
  deriving DecidableEq, Repr

/-- A non-volatile record: its contents, and whether its check value agrees with them (R179; log 6, DESIGN
CHOICE). -/
structure Stored (α : Type) where
  contents : α
  sound : Bool
  deriving DecidableEq, Repr

/-- A working copy, and whether it is the default because the record was found damaged at the last start
(the source byte of R180). -/
structure Working (α : Type) where
  value : α
  isDefault : Bool
  deriving DecidableEq, Repr

/-- The ninety records of the branch store (R179). -/
structure StoredRecords where
  profile : Stored Profile
  groups : Table (Stored GroupPolicy) 16
  panels : Table (Stored PanelSetting) 8
  alert : Stored (Table CauseSetting 10)
  badges : Table (Stored (Option Badge)) 64
  deriving DecidableEq, Repr

/-- The working copies of the ninety records (R179). -/
structure WorkingRecords where
  profile : Working Profile
  groups : Table (Working GroupPolicy) 16
  panels : Table (Working PanelSetting) 8
  alert : Working (Table CauseSetting 10)
  badges : Table (Working (Option Badge)) 64
  deriving DecidableEq, Repr

/-- New contents of one record, as the staging record holds them (R181). -/
inductive StoreRecord where
  | profile (p : Profile)
  | group (g : Group) (p : GroupPolicy)
  | panel (n : Panel) (p : PanelSetting)
  | alert (a : Table CauseSetting 10)
  | badge (p : BadgePlace) (b : Option Badge)
  deriving DecidableEq, Repr

/-- The branch store (R153, R179, R181, R182). -/
structure Store where
  stored : StoredRecords
  working : WorkingRecords
  staging : Option StoreRecord
  busy : Bool
  lock : Bool
  deriving DecidableEq, Repr

/-! ### Link controller (Chapter 11) -/

/-- The receive state with the frame under assembly (R170): in COLLECT and CHECK, LEN and the bytes
collected so far, KIND first. -/
inductive Receiver where
  | hunt
  | length
  | collect (len : Nat) (bytes : List Byte)
  | check (len : Nat) (bytes : List Byte)
  deriving DecidableEq, Repr

/-- What the end of a reply's sending brings about, besides the reply leaving the queue: the start that
RESTART or PURGE asked for (R185), or the rate change of TIMEBASE (R184). -/
inductive ReplyEffect where
  | nothing
  | start (cold : Bool)
  | rate
  deriving DecidableEq, Repr

/-- A reply (R172): kind, TAG, body with the status byte first. -/
structure Reply where
  kind : Byte
  tag : Byte
  body : List Byte
  effect : ReplyEffect
  deriving DecidableEq, Repr

/-- A frame's KIND, TAG and body (R169); SYNC, LEN and CHECK follow from them. -/
structure Frame where
  kind : Byte
  tag : Byte
  body : List Byte
  deriving DecidableEq, Repr

/-- What the transmitter sends (R175): nothing, an attention frame, or the oldest reply of the queue. -/
inductive Transmitter where
  | idle
  | attention (frame : Frame)
  | reply
  deriving DecidableEq, Repr

/-- The link controller's state (R166, R168, R170, R171, R173, R175, R184). -/
structure Link where
  receiver : Receiver
  idle : Option Nat
  error : Bool
  replies : List Reply
  tx : Transmitter
  lastReported : Option Cause
  mark : Bool
  speed : Nat
  lineDivisor : Nat
  deriving DecidableEq, Repr

/-- The time base (R183, R184). -/
structure TimeBase where
  divisor : Nat
  ticks : Nat
  once : Bool
  deriving DecidableEq, Repr

/-! ### The whole part -/

/-- The KC192. `startPending` is the start that RESTART (`some false`) or PURGE (`some true`) has asked
for (R185); `doorPins` and `staffDoorPin` are the switches, `true` for open (R38, R112); `free` counts the
free values drawn and `pending` holds the commands that wait: both are the model's own. -/
structure State where
  keys : KeyTable
  compartments : Compartments
  scanner : Scanner
  contracts : ContractTable
  kiosk : Kiosk
  drop : DropBox
  overdue : Overdue
  mode : BranchMode
  notices : NoticeUnit
  store : Store
  link : Link
  timeBase : TimeBase
  startPending : Option Bool
  powered : Bool
  doorPins : Table Bool 192
  staffDoorPin : Bool
  free : Nat
  pending : List Instr
  deriving DecidableEq, Repr

/-- The reasons a step could fault: none. Every command of the table answers a next state in every state;
what the manual refuses is a reply or a prompt. -/
inductive Fault where
  deriving DecidableEq, Repr

/-- The reasons a step could be refused. -/
inductive Refusal where
  /-- Raised by `exec` for a command that has no meaning yet: none is left (safe). -/
  | notModelled (mnemonic : String)
  deriving DecidableEq, Repr

/-! ### Reset: a cold start by power of a part as it leaves the factory (log 5, DESIGN CHOICE) -/

/-- Default of R179. -/
def Profile.default : Profile :=
  { speed := 1, divisor := 10000, window := 20, hold := 120, reserve := 8, trigger := 8,
    modeAtStart := .staffed }

/-- Default of R117. -/
def GroupPolicy.default : GroupPolicy :=
  { grace := 30, lead := 60, t2 := 180, t3 := 1440, reminder := 240, checkOnReturn := false }

/-- Default of R144. -/
def PanelSetting.default : PanelSetting := { pickup := true, ret := true, openLevel := 2 }

/-- Defaults of R163, in priority order. -/
def CauseSetting.defaults : Table CauseSetting 10 :=
  ⟨[⟨.flash, true, true⟩, ⟨.flash, true, true⟩, ⟨.steady, false, true⟩, ⟨.steady, true, true⟩,
    ⟨.steady, false, true⟩, ⟨.flash, true, true⟩, ⟨.off, false, true⟩, ⟨.off, false, true⟩,
    ⟨.off, false, true⟩, ⟨.off, false, true⟩], rfl⟩

/-- The branch store's records as the part leaves the factory (R179). -/
def StoredRecords.factory : StoredRecords :=
  { profile := ⟨.default, true⟩
    groups := .replicate 16 ⟨.default, true⟩
    panels := .replicate 8 ⟨.default, true⟩
    alert := ⟨CauseSetting.defaults, true⟩
    badges := .replicate 64 ⟨none, true⟩ }

/-- The working copies a start takes from the factory's records (R179). -/
def WorkingRecords.factory : WorkingRecords :=
  { profile := ⟨.default, false⟩
    groups := .replicate 16 ⟨.default, false⟩
    panels := .replicate 8 ⟨.default, false⟩
    alert := ⟨CauseSetting.defaults, false⟩
    badges := .replicate 64 ⟨none, false⟩ }

/-- A compartment after a cold start with its door found closed (R38). -/
def Compartment.cold : Compartment :=
  { door := .unknown, service := .inService, contents := [], known := false, forced := false,
    reservation := none, release := none, window := none, hold := none }

/-- The kiosk after a start in a mode other than LOCKDOWN (R100). -/
def Kiosk.start : Kiosk :=
  { mode := .idle, digits := [], wrongCodes := 0, waited := none, badge := none, opens := [],
    interDigit := none, lockout := none, staffTimer := none, resultHold := none, brief := none,
    press := none, prompt := .welcome }

/-- The forecast result after a cold start (R141). -/
def Forecast.cold : Forecast :=
  { computed := false, minute := 0, reserve := 0, counted := 0, occupied := 0, dropKeys := 0,
    start := 0, buckets := List.replicate 16 ⟨0, 0, 0, 0⟩, short := false, firstShort := none,
    deficit := none, stale := true }

/-- The START notice of a cold start by power (R156, R186 step 6). -/
def Notice.coldPowerStart : Notice :=
  { seq := 0, body := { kind := .start, minute := none } }

/-- The machine right after reset: the state a cold start by power leaves (R186) in a part as it leaves
the factory (R179), with every door and the staff door found closed (log 5, DESIGN CHOICE). -/
def State.reset : State :=
  { keys := { places := .replicate 384 none, lists := .replicate 16 [] }
    compartments :=
      { table := .replicate 192 Compartment.cold, queue := [], channel1 := none, channel2 := none }
    scanner :=
      { list := (fins 192).map fun n => ⟨n, .sweep, .nothing, n == 0⟩
        sweeping := true }
    contracts := { slots := .replicate 512 none, codes := [] }
    kiosk := Kiosk.start
    drop := { entries := [], flap := .locked, staffDoor := .closed }
    overdue :=
      { clock := .notSet, value := 0
        scan := { scanning := false, minute := 0, nextSlot := 0, pendingStart := none }
        counts := ⟨0, 0, 0, 0, 0⟩
        forecast := Forecast.cold }
    mode := .staffed
    notices :=
      { ring := [Notice.coldPowerStart], nextSeq := 1, overflow := false, pending := [],
        callLatch := false, missing := 0, foreign := 0, beacon := .off, pager := none }
    store :=
      { stored := .factory, working := .factory, staging := none, busy := false, lock := false }
    link :=
      { receiver := .hunt, idle := none, error := false, replies := [], tx := .idle,
        lastReported := none, mark := false, speed := 1, lineDivisor := 10000 }
    timeBase := { divisor := 10000, ticks := 0, once := false }
    startPending := none
    powered := true
    doorPins := .replicate 192 false
    staffDoorPin := false
    free := 0
    pending := [] }

end Sys2Proof.Machine
end

