-- ==== Sys2Proof/Machine/Operands.lean ====
section
/-! DEFINITION. The codings of request and reply bodies (R7, R33, R60, R155, R158, R176, R179): byte order,
enumerations, optional fields and records. -/

namespace Sys2Proof.Machine

/-! ### Bytes and fields -/

/-- The number a field's bytes spell, most significant byte first (R169). -/
def fromBytes (bs : List Byte) : Nat :=
  bs.foldl (fun acc b => acc * 256 + b.toNat) 0

/-- A number in `n` bytes, most significant byte first (R169). -/
def toBytes : Nat → Nat → List Byte
  | 0, _ => []
  | n + 1, x => BitVec.ofNat 8 (x / 256 ^ n) :: toBytes n x

/-- A number below 256 in one byte. -/
def byte (x : Nat) : Byte := BitVec.ofNat 8 x

/-- Yes or no in one byte. -/
def flagByte (b : Bool) : Byte := if b then 1 else 0

/-- The number in the `len` bytes of a body from place `off` on. -/
def field (body : List Byte) (off len : Nat) : Nat :=
  fromBytes ((body.drop off).take len)

/-- An optional field of `n` bytes: a present byte, then the field, 0 when absent (R176). -/
def optBytes (n : Nat) : Option Nat → List Byte
  | none => 0 :: List.replicate n 0
  | some x => 1 :: toBytes n x

/-- The optional field whose present byte stands at `off`: absent when the present byte is 0. -/
def optField (body : List Byte) (off len : Nat) : Option Nat :=
  if field body off 1 = 0 then none else some (field body (off + 1) len)

/-- The number 1-192 of a compartment. -/
def compNumber (n : CompId) : Nat := n.val + 1

/-- The compartment of a number, when it is 1-192. -/
def compOfNumber (x : Nat) : Option CompId :=
  if h : 1 ≤ x ∧ x ≤ 192 then some ⟨x - 1, by omega⟩ else none

/-- The panel of a compartment: ((number - 1) div 24) + 1 (R16), as its place. -/
def panelOf (n : CompId) : Panel := ⟨n.val / 24, by omega⟩

/-- A table index carried in a field, when it lies in the table. -/
def indexOf (n x : Nat) : Option (Fin n) :=
  if h : x < n then some ⟨x, h⟩ else none

/-! ### Status codes (R176) -/

inductive Status where
  | ok | accepted | badFormat | unknownKind | badValue | notFound | tableFull | codeInUse
  | keyClaimed | notChecked | notAvailable | wrongState | busy | queueFull | isProtected
  | clockNotSet | onceOnly
  deriving DecidableEq, Repr

def Status.code : Status → Nat
  | .ok => 0 | .accepted => 1 | .badFormat => 2 | .unknownKind => 3 | .badValue => 4
  | .notFound => 5 | .tableFull => 6 | .codeInUse => 7 | .keyClaimed => 8 | .notChecked => 9
  | .notAvailable => 10 | .wrongState => 11 | .busy => 12 | .queueFull => 13 | .isProtected => 14
  | .clockNotSet => 15 | .onceOnly => 16

/-! ### Enumerations of the key messages (R7) -/

def Transmission.code : Transmission → Nat | .auto => 0 | .manual => 1

def Transmission.ofCode : Nat → Option Transmission
  | 0 => some .auto | 1 => some .manual | _ => none

def Energy.code : Energy → Nat
  | .petrol => 0 | .diesel => 1 | .hybrid => 2 | .electric => 3

def Energy.ofCode : Nat → Option Energy
  | 0 => some .petrol | 1 => some .diesel | 2 => some .hybrid | 3 => some .electric | _ => none

def CheckMark.code : CheckMark → Nat | .checked => 0 | .unchecked => 1

def Location.code : Location → Nat
  | .compartment _ => 0 | .out _ => 1 | .drop => 2 | .staffHand => 3 | .missing => 4

/-- The compartment number of a location, 0 unless it is COMPARTMENT (R11). -/
def Location.compField : Location → Nat
  | .compartment n => compNumber n | _ => 0

/-- The contract number of a location, 0 unless it is OUT (R11). -/
def Location.contractField : Location → Nat
  | .out c => c | _ => 0

/-! ### Labels (R7) -/

/-- A label field is valid: eight bytes in 20h-7Eh, the first not 20h. -/
def labelValid (bs : List Byte) : Bool :=
  bs.length == 8 && bs.all (fun b => 0x20 ≤ b.toNat && b.toNat ≤ 0x7E) && bs.head? != some 0x20

/-- The label: the bytes with trailing spaces removed. -/
def labelOf (bs : List Byte) : List Byte :=
  (bs.reverse.dropWhile (· == 0x20)).reverse

/-- A label in eight bytes, space-padded (R176). -/
def labelBytes (l : List Byte) : List Byte :=
  l ++ List.replicate (8 - l.length) 0x20

/-! ### Enumerations of the compartment messages (R33) -/

def DoorState.code : DoorState → Nat
  | .locked => 0 | .waiting => 1 | .unlatched => 2 | .opened => 3 | .leftOpen => 4
  | .forcedOpen => 5 | .scanning => 6 | .unknown => 7

def Service.code : Service → Nat | .inService => 0 | .outOfService => 1

def Origin.code : Origin → Nat | .kiosk => 0 | .link => 1

def Purpose.code : Purpose → Nat
  | .pickup _ _ => 0 | .ret _ _ => 1 | .staff _ => 2 | .link => 3

/-- The contract a release names, if its purpose has one (R18). -/
def Purpose.contract? : Purpose → Option Nat
  | .pickup c _ => some c | .ret c _ => some c | .staff _ => none | .link => none

/-- The key a release names, if its purpose has one (R18). -/
def Purpose.key? : Purpose → Option KeyId
  | .pickup _ k => some k | .ret _ k => some k | .staff _ => none | .link => none

/-- The badge number of a STAFF release (R18). -/
def Purpose.badge? : Purpose → Option Nat
  | .staff b => some b | _ => none

/-- An item in six bytes (R37). -/
def Item.bytes : Item → List Byte
  | .key k => 0 :: toBytes 5 k.val
  | .foreign t => 1 :: toBytes 5 t

/-- Four places of six bytes in read order, unused places all 0 (R37). -/
def itemsBytes (items : List Item) : List Byte :=
  (items.flatMap Item.bytes ++ List.replicate 24 0).take 24

/-- The current release in thirteen bytes (R37). -/
def releaseBytes : Option Release → List Byte
  | none => List.replicate 13 0
  | some r =>
    [1, byte r.purpose.code, byte r.origin.code] ++ toBytes 4 (r.purpose.contract?.getD 0)
      ++ toBytes 2 ((r.purpose.key?.map Fin.val).getD 0) ++ toBytes 4 (r.purpose.badge?.getD 0)

/-! ### Codings of the contract messages (R60) -/

def ContractState.code : ContractState → Nat
  | .ticket => 0 | .suspended => 1 | .picking => 2 | .out => 3 | .returning => 4 | .closed => 5
  | .lapsed => 6 | .void => 7

def Tier.code : Tier → Nat
  | .none => 0 | .soon => 1 | .late1 => 2 | .late2 => 3 | .late3 => 4

def Route.code : Route → Nat
  | .compartment => 0 | .stray => 1 | .drop => 2 | .forceClosed => 3

/-- A transmission wish: 0 AUTO, 1 MANUAL, 2 ANY. The outer `none` is a value out of range. -/
def transmissionWish : Nat → Option (Option Transmission)
  | 0 => some (some .auto) | 1 => some (some .manual) | 2 => some none | _ => none

/-- An energy wish: 0 PETROL to 3 ELECTRIC, 4 ANY. -/
def energyWish : Nat → Option (Option Energy)
  | 0 => some (some .petrol) | 1 => some (some .diesel) | 2 => some (some .hybrid)
  | 3 => some (some .electric) | 4 => some none | _ => none

/-- An entitlement in six bytes (R60). -/
def Entitlement.bytes : Entitlement → List Byte
  | .specific k => 0 :: toBytes 2 k.val ++ [0, 0, 0]
  | .cls g t e m u =>
    [1, byte g.val, byte ((t.map Transmission.code).getD 2), byte ((e.map Energy.code).getD 4),
      byte m, byte u]

/-- A CLASS entitlement from the five bytes after the kind byte, when every field lies in its range
(R57, R60). -/
def classEntitlement (body : List Byte) (off : Nat) : Option Entitlement :=
  match indexOf 16 (field body off 1), transmissionWish (field body (off + 1) 1),
      energyWish (field body (off + 2) 1) with
  | some g, some t, some e =>
    if field body (off + 3) 1 ≤ 9 ∧ field body (off + 4) 1 ≤ 2 then
      some (.cls g t e (field body (off + 3) 1) (field body (off + 4) 1))
    else none
  | _, _, _ => none

/-! ### Notices (R156, R158) -/

def NoticeKind.code : NoticeKind → Nat
  | .handoutDone => 1 | .handoutFailed => 2 | .returnDone => 3 | .returnFailed => 4
  | .keyMissing => 5 | .keyToStaff => 6 | .foreignTag => 7 | .forcedDoor => 8
  | .doorLeftOpen => 9 | .tierRaised => 10 | .reminder => 11 | .ticketLapsed => 12
  | .ticketSuspended => 13 | .codeLockout => 14 | .staffCall => 15 | .accessDenied => 16
  | .capacityShort => 17 | .capacityClear => 18 | .dropFull => 19 | .dropEmptied => 20
  | .dropForeign => 21 | .sweepDone => 22 | .storeWritten => 23 | .storeDamaged => 24
  | .start => 25

/-- A notice in 27 bytes (R158). -/
def Notice.bytes (n : Notice) : List Byte :=
  toBytes 2 n.seq ++ [byte n.body.kind.code] ++ optBytes 4 n.body.minute
    ++ optBytes 1 (n.body.comp.map compNumber) ++ optBytes 2 (n.body.key.map Fin.val)
    ++ optBytes 4 n.body.contract ++ optBytes 5 n.body.tag ++ [byte n.body.detailA]
    ++ toBytes 2 n.body.detailB

/-! ### Causes, modes and clock states -/

def Cause.code : Cause → Nat
  | .forcedDoor => 1 | .doorLeftOpen => 2 | .late3Present => 3 | .dropFull => 4
  | .capacityShort => 5 | .staffCall => 6 | .keyAnomaly => 7 | .latePresent => 8
  | .noticeOverflow => 9 | .noticesWaiting => 10

/-- The ten causes in priority order (R160). -/
def Cause.all : List Cause :=
  [.forcedDoor, .doorLeftOpen, .late3Present, .dropFull, .capacityShort, .staffCall, .keyAnomaly,
    .latePresent, .noticeOverflow, .noticesWaiting]

/-- A cause's place in the ALERT record (R163, R179). -/
def Cause.place : Cause → Fin 10
  | .forcedDoor => 0 | .doorLeftOpen => 1 | .late3Present => 2 | .dropFull => 3
  | .capacityShort => 4 | .staffCall => 5 | .keyAnomaly => 6 | .latePresent => 7
  | .noticeOverflow => 8 | .noticesWaiting => 9

/-- A cause or none in one byte (R162). -/
def causeByte : Option Cause → Byte
  | none => 0
  | some c => byte c.code

def Beacon.code : Beacon → Nat | .off => 0 | .steady => 1 | .flash => 2

def Beacon.ofCode : Nat → Option Beacon
  | 0 => some .off | 1 => some .steady | 2 => some .flash | _ => none

def BranchMode.code : BranchMode → Nat | .staffed => 0 | .unstaffed => 1 | .lockdown => 2

def BranchMode.ofCode : Nat → Option BranchMode
  | 0 => some .staffed | 1 => some .unstaffed | 2 => some .lockdown | _ => none

def ClockState.code : ClockState → Nat | .notSet => 0 | .stale => 1 | .running => 2

def Flap.code : Flap → Nat | .opened => 0 | .locked => 1

def StaffDoor.code : StaffDoor → Nat | .closed => 0 | .opened => 1

/-- A yes/no byte of a request, when it is 0 or 1. -/
def yesNo : Nat → Option Bool
  | 0 => some false | 1 => some true | _ => none

/-! ### Drop list entries (R111) and buckets (R140) -/

def DropEntry.bytes (e : DropEntry) : List Byte :=
  optBytes 5 e.tag ++ optBytes 2 (e.key.map Fin.val) ++ optBytes 4 e.minute ++ optBytes 4 e.contract

def Bucket.bytes (b : Bucket) : List Byte :=
  toBytes 2 b.returns ++ toBytes 2 b.pickups ++ [byte b.occupied, byte b.free]

/-! ### Branch store records (R179, R181) -/

def Profile.bytes (p : Profile) : List Byte :=
  [byte p.speed] ++ toBytes 2 p.divisor ++ [byte p.window] ++ toBytes 2 p.hold
    ++ [byte p.reserve, byte p.trigger, byte p.modeAtStart.code]

def GroupPolicy.bytes (p : GroupPolicy) : List Byte :=
  toBytes 2 p.grace ++ [byte p.lead] ++ toBytes 2 p.t2 ++ toBytes 2 p.t3 ++ toBytes 2 p.reminder
    ++ [flagByte p.checkOnReturn]

def PanelSetting.bytes (p : PanelSetting) : List Byte :=
  [flagByte p.pickup, flagByte p.ret, byte p.openLevel]

def CauseSetting.bytes (c : CauseSetting) : List Byte :=
  [byte c.beacon.code, flagByte c.pager, flagByte c.report]

def alertBytes (a : Table CauseSetting 10) : List Byte :=
  a.rows.flatMap CauseSetting.bytes

/-- A badge place: an empty place has every byte after the first 0. -/
def badgeBytes : Option Badge → List Byte
  | none => List.replicate 15 0
  | some b =>
    [1] ++ toBytes 4 b.number ++ [byte b.level, if b.enabled then 0 else 1] ++ labelBytes b.label

/-- The PROFILE record a staged body gives from `off` on, when every field is in range (R181). -/
def profileOf (body : List Byte) (off : Nat) : Option Profile :=
  match BranchMode.ofCode (field body (off + 8) 1) with
  | none => none
  | some m =>
    let p : Profile :=
      { speed := field body off 1, divisor := field body (off + 1) 2
        window := field body (off + 3) 1, hold := field body (off + 4) 2
        reserve := field body (off + 6) 1, trigger := field body (off + 7) 1, modeAtStart := m }
    if p.speed ≤ 5 ∧ (2000 ≤ p.divisor ∧ p.divisor ≤ 50000) ∧ (5 ≤ p.window ∧ p.window ≤ 60)
        ∧ (15 ≤ p.hold ∧ p.hold ≤ 600) ∧ p.reserve ≤ 48
        ∧ (p.trigger = 1 ∨ p.trigger = 8 ∨ p.trigger = 32 ∨ p.trigger = 96) then some p
    else none

/-- The GROUP record a staged body gives (R117, R181). -/
def groupPolicyOf (body : List Byte) (off : Nat) : Option GroupPolicy :=
  match yesNo (field body (off + 9) 1) with
  | none => none
  | some chk =>
    let p : GroupPolicy :=
      { grace := field body off 2, lead := field body (off + 2) 1, t2 := field body (off + 3) 2
        t3 := field body (off + 5) 2, reminder := field body (off + 7) 2, checkOnReturn := chk }
    if p.grace ≤ 720 ∧ p.lead ≤ 240 ∧ (1 ≤ p.t2 ∧ p.t2 ≤ 20160) ∧ (1 ≤ p.t3 ∧ p.t3 ≤ 20160)
        ∧ p.t2 < p.t3 ∧ (p.reminder = 0 ∨ (30 ≤ p.reminder ∧ p.reminder ≤ 1440)) then some p
    else none

/-- The PANEL record a staged body gives (R144). -/
def panelSettingOf (body : List Byte) (off : Nat) : Option PanelSetting :=
  match yesNo (field body off 1), yesNo (field body (off + 1) 1) with
  | some pk, some rt =>
    if 1 ≤ field body (off + 2) 1 ∧ field body (off + 2) 1 ≤ 3 then
      some { pickup := pk, ret := rt, openLevel := field body (off + 2) 1 }
    else none
  | _, _ => none

/-- The settings of one cause, from three bytes (R163, R179). -/
def causeSettingOf (body : List Byte) (off : Nat) : Option CauseSetting :=
  match Beacon.ofCode (field body off 1), yesNo (field body (off + 1) 1),
      yesNo (field body (off + 2) 1) with
  | some b, some p, some r => some { beacon := b, pager := p, report := r }
  | _, _, _ => none

/-- The settings of `n` causes in succession. -/
def causeSettingsOf (body : List Byte) : Nat → Nat → Option (List CauseSetting)
  | 0, _ => some []
  | n + 1, off =>
    match causeSettingOf body off, causeSettingsOf body n (off + 3) with
    | some c, some cs => some (c :: cs)
    | _, _ => none

/-- The ALERT record a staged body gives (R163). -/
def alertOf (body : List Byte) (off : Nat) : Option (Table CauseSetting 10) :=
  match causeSettingsOf body 10 off with
  | some cs => if h : cs.length = 10 then some ⟨cs, h⟩ else none
  | none => none

/-- The BADGE place a staged body gives (R143): the outer `none` is a value out of range. The bytes after
an occupied byte of 0 are not examined. -/
def badgeOf (body : List Byte) (off : Nat) : Option (Option Badge) :=
  match field body off 1 with
  | 0 => some none
  | 1 =>
    let label := (body.drop (off + 7)).take 8
    if field body (off + 1) 4 ≠ 0 ∧ (1 ≤ field body (off + 5) 1 ∧ field body (off + 5) 1 ≤ 3)
        ∧ field body (off + 6) 1 ≤ 1 ∧ labelValid label = true then
      some (some
        { number := field body (off + 1) 4, level := field body (off + 5) 1
          enabled := field body (off + 6) 1 == 0, label := labelOf label })
    else none
  | _ => none

/-! ### Frames (R169, R175) -/

/-- The bytes of a frame: SYNC, LEN, KIND, TAG, body and the CHECK byte that makes the sum 0. -/
def frameBytes (kind tg : Byte) (body : List Byte) : List Byte :=
  let len := byte (body.length + 2)
  [0xA5, len, kind, tg] ++ body ++ [- (body.foldl (· + ·) (len + kind + tg))]

/-- A frame's bytes on the line (R169). -/
def Frame.bytes (f : Frame) : List Byte := frameBytes f.kind f.tag f.body

/-- A reply as a frame (R169, R172). -/
def Reply.frame (r : Reply) : Frame := ⟨r.kind, r.tag, r.body⟩

/-- The frame the transmitter sends: the attention frame begun, or the oldest reply (R175). -/
def Link.sending (l : Link) : Option Frame :=
  match l.tx with
  | .idle => none
  | .attention f => some f
  | .reply => l.replies.head?.map Reply.frame

/-- The bytes the transmitter sends, in order, nothing while the line is idle (R169, R175). -/
def Link.lineBytes (l : Link) : List Byte := (l.sending.map Frame.bytes).getD []

end Sys2Proof.Machine
end

