-- ==== Sys2Proof/Machine/Ops.lean ====
section
/-! DEFINITION. The named operations on the records of the part: the updates of State, the key table and
its availability lists, compartments, releases and latch channels, the scan list, the notice ring, the
kiosk's display, the drop list, and the outcomes of releases. Every family of commands is written over
them. -/

namespace Sys2Proof.Machine

/-! ### Updates, one for each block's state -/

def State.withKeys (s : State) (x : KeyTable) : State := { s with keys := x }
def State.withCompartments (s : State) (x : Compartments) : State := { s with compartments := x }
def State.withScanner (s : State) (x : Scanner) : State := { s with scanner := x }
def State.withContracts (s : State) (x : ContractTable) : State := { s with contracts := x }
def State.withKiosk (s : State) (x : Kiosk) : State := { s with kiosk := x }
def State.withDrop (s : State) (x : DropBox) : State := { s with drop := x }
def State.withOverdue (s : State) (x : Overdue) : State := { s with overdue := x }
def State.withMode (s : State) (x : BranchMode) : State := { s with mode := x }
def State.withNotices (s : State) (x : NoticeUnit) : State := { s with notices := x }
def State.withStore (s : State) (x : Store) : State := { s with store := x }
def State.withLink (s : State) (x : Link) : State := { s with link := x }
def State.withTimeBase (s : State) (x : TimeBase) : State := { s with timeBase := x }
def State.withStartPending (s : State) (x : Option Bool) : State := { s with startPending := x }
def State.withPowered (s : State) (x : Bool) : State := { s with powered := x }
def State.withDoorPins (s : State) (x : Table Bool 192) : State := { s with doorPins := x }
def State.withStaffDoorPin (s : State) (x : Bool) : State := { s with staffDoorPin := x }
def State.withFree (s : State) (x : Nat) : State := { s with free := x }
def State.withPending (s : State) (x : List Instr) : State := { s with pending := x }

/-! ### Lengths of the timers (R84, R165, R170), in ticks of nominally 1 ms (R183; log 20, PRESUMED) -/

/-- Seconds in ticks. -/
def seconds (x : Nat) : Nat := x * 1000

def interDigitTicks : Nat := seconds 15
def lockoutTicks : Nat := seconds 120
def staffTicks : Nat := seconds 60
def resultHoldTicks : Nat := seconds 5
def briefTicks : Nat := seconds 5
def pressTicks : Nat := seconds 2
def pagerTicks : Nat := seconds 2
def idleTicks : Nat := 50

/-! ### Reading the records -/

/-- The record at a key place, `none` for a free place (R1). -/
def State.key (s : State) (k : KeyId) : Option KeyRecord := s.keys.places.get k

/-- A compartment's record (R16). -/
def State.comp (s : State) (n : CompId) : Compartment := s.compartments.table.get n

/-- The record in a contract slot, `none` for a free slot (R56). -/
def State.slot (s : State) (sl : Slot) : Option Contract := s.contracts.slots.get sl

/-- The key whose enrolled record holds a tag number (R1). -/
def State.keyOfTag (s : State) (tag : Nat) : Option KeyId :=
  s.keys.places.find fun r => r.any fun k => k.tag == tag

/-- The occupied slot that holds a contract number (R56). -/
def State.slotOf (s : State) (number : Nat) : Option Slot :=
  s.contracts.slots.find fun r => r.any fun c => c.number == number

/-- The contract of a number, if an occupied slot holds it. -/
def State.contract (s : State) (number : Nat) : Option Contract :=
  (s.slotOf number).bind s.slot

/-- The state of the contract of a number. -/
def State.contractState (s : State) (number : Nat) : Option ContractState :=
  (s.contract number).map Contract.state

/-- The present minute: the clock's value while RUNNING, absent otherwise (R113). -/
def State.present (s : State) : Option Nat :=
  if s.overdue.clock = .running then some s.overdue.value else none

/-- The minute a key that joins a list by an event takes: the present minute, or 0 (R6). -/
def State.joinMinute (s : State) : Nat := s.present.getD 0

/-- The working copy of a compartment's panel setting (R144). -/
def State.panel (s : State) (n : CompId) : PanelSetting :=
  (s.store.working.panels.get (panelOf n)).value

/-- The policy of a group (R117). -/
def State.policy (s : State) (g : Group) : GroupPolicy := (s.store.working.groups.get g).value

/-- The prompt of IDLE: WELCOME, or OUT_OF_SERVICE in LOCKDOWN (R85, R92). -/
def State.idlePrompt (s : State) : Prompt :=
  if s.mode = .lockdown then .outOfService else .welcome

/-! ### Writing one record -/

def State.modifyKey (s : State) (k : KeyId) (f : KeyRecord → KeyRecord) : State :=
  s.withKeys { s.keys with places := s.keys.places.modify k (Option.map f) }

def State.modifyComp (s : State) (n : CompId) (f : Compartment → Compartment) : State :=
  s.withCompartments { s.compartments with table := s.compartments.table.modify n f }

def State.modifySlot (s : State) (sl : Slot) (f : Contract → Contract) : State :=
  s.withContracts { s.contracts with slots := s.contracts.slots.modify sl (Option.map f) }

/-- Applies `f` to the contract of a number, where an occupied slot holds it. -/
def State.modifyContract (s : State) (number : Nat) (f : Contract → Contract) : State :=
  match s.slotOf number with
  | some sl => s.modifySlot sl f
  | none => s

/-! ### The notice ring (R157) -/

/-- A notice joins the tail with the next sequence number, or is lost at a full ring and sets the overflow
flag (R157). -/
def NoticeUnit.enter (u : NoticeUnit) (b : NoticeBody) : NoticeUnit :=
  if u.ring.length < 128 then
    { u with ring := u.ring ++ [{ seq := u.nextSeq, body := b }], nextSeq := (u.nextSeq + 1) % 65536 }
  else { u with overflow := true }

def State.enter (s : State) (b : NoticeBody) : State := s.withNotices (s.notices.enter b)

/-! ### Claims and the availability lists (R5, R6, R57) -/

/-- A contract holds a specific claim on key `k`: SPECIFIC for `k` and in TICKET or SUSPENDED, or in
PICKING with another key that HANDOUT named (R57). -/
def Contract.claims (c : Contract) (k : KeyId) : Bool :=
  match c.entitlement with
  | .cls .. => false
  | .specific e =>
    e == k && match c.state with
      | .ticket => true
      | .suspended => true
      | .picking => c.key != some k
      | .out => false
      | .returning => false
      | .closed => false
      | .lapsed => false
      | .void => false

/-- A live contract names key `k` (R57, R10): by its claim, or as its promised or handed key. -/
def Contract.names (c : Contract) (k : KeyId) : Bool :=
  c.claims k || match c.state with
    | .picking => c.key == some k
    | .out => c.key == some k
    | .returning => c.key == some k
    | .ticket => false
    | .suspended => false
    | .closed => false
    | .lapsed => false
    | .void => false

/-- Some contract holds a specific claim on the key (condition 5 of R5). -/
def State.claimed (s : State) (k : KeyId) : Bool :=
  s.contracts.slots.rows.any fun r => r.any fun c => c.claims k

/-- A live contract names the key (R57). -/
def State.named (s : State) (k : KeyId) : Bool :=
  s.contracts.slots.rows.any fun r => r.any fun c => c.names k

/-- Condition 1 of R5: the key is the single item of an in-service compartment whose contents are known. -/
def State.aloneInService (s : State) (k : KeyId) (loc : Location) : Bool :=
  match loc with
  | .compartment n =>
    (s.comp n).service == .inService && (s.comp n).known && (s.comp n).contents == [.key k]
  | _ => false

/-- Conditions 1 to 4 of R5. -/
def State.dispensable (s : State) (k : KeyId) : Bool :=
  (s.key k).any fun r =>
    s.aloneInService k r.location && !r.hold && r.mark == .checked && r.promisedTo.isNone

/-- The conditions of R5 for a key to be in its group's availability list. -/
def State.available (s : State) (k : KeyId) : Bool := s.dispensable k && !s.claimed k

/-- A key's idle-since, 0 for a free place. -/
def KeyTable.idle (t : KeyTable) (k : KeyId) : Nat := ((t.places.get k).map KeyRecord.idleSince).getD 0

/-- The order of an availability list: idle-since, then index (R5). -/
def KeyTable.before (t : KeyTable) (a b : KeyId) : Bool :=
  t.idle a < t.idle b || (t.idle a == t.idle b && a.val < b.val)

/-- Places a key after every key that stands before it (R6). -/
def KeyTable.place (t : KeyTable) (k : KeyId) : List KeyId → List KeyId
  | [] => [k]
  | x :: xs => if t.before x k then x :: t.place k xs else k :: x :: xs

/-- A key joins the list of group `g`. -/
def KeyTable.join (t : KeyTable) (g : Group) (k : KeyId) : KeyTable :=
  { t with lists := t.lists.modify g (t.place k) }

/-- A key leaves the list of group `g`; its neighbours close up (R4). -/
def KeyTable.leave (t : KeyTable) (g : Group) (k : KeyId) : KeyTable :=
  { t with lists := t.lists.modify g (·.filter (· != k)) }

/-- The key stands in its group's list. -/
def State.inList (s : State) (k : KeyId) : Bool :=
  (s.key k).any fun r => (s.keys.lists.get r.group).contains k

/-- Re-examines a key against R5: it joins its group's list with idle-since `m`, leaves it, or stays as it
is (R5, R6). -/
def State.reexamine (s : State) (m : Nat) (k : KeyId) : State :=
  match s.key k with
  | none => s
  | some r =>
    match s.available k, s.inList k with
    | true, false =>
      let s' := s.modifyKey k fun r => { r with idleSince := m }
      s'.withKeys (s'.keys.join r.group k)
    | false, true => s.withKeys (s.keys.leave r.group k)
    | true, true => s
    | false, false => s

/-- Re-examines several keys in turn. -/
def State.reexamineAll (s : State) (m : Nat) (ks : List KeyId) : State :=
  ks.foldl (fun s k => s.reexamine m k) s

/-- The keys among a list of items. -/
def keysOf (items : List Item) : List KeyId :=
  items.filterMap fun i => match i with
    | .key k => some k
    | .foreign _ => none

/-! ### The flap and the drop list (R101, R102) -/

/-- The state the flap takes: OPEN in UNSTAFFED with fewer than 48 entries and the staff door closed
(R102). -/
def flapFor (mode : BranchMode) (count : Nat) (door : StaffDoor) : Flap :=
  if mode = .unstaffed ∧ count < 48 ∧ door = .closed then .opened else .locked

/-- Recomputes the flap (R102). -/
def State.recomputeFlap (s : State) : State :=
  s.withDrop { s.drop with flap := flapFor s.mode s.drop.entries.length s.drop.staffDoor }

/-- An entry joins the tail of the drop list and the flap is recomputed (R103). -/
def State.appendDrop (s : State) (e : DropEntry) : State :=
  (s.withDrop { s.drop with entries := s.drop.entries ++ [e] }).recomputeFlap

/-- A key's entry leaves the drop list from any position and the flap is recomputed (R110). -/
def State.removeDrop (s : State) (k : KeyId) : State :=
  (s.withDrop { s.drop with entries := s.drop.entries.filter fun e => e.key != some k }).recomputeFlap

/-! ### Key locations (R2) -/

/-- Writes a key's location, and with it the old location's other record (R2): the contents of the
compartment it leaves, or its drop list entry when it leaves DROP for a compartment. -/
def State.moveKey (s : State) (k : KeyId) (loc : Location) : State :=
  match s.key k with
  | none => s
  | some r =>
    let s' : State := match r.location, loc with
      | .compartment m, _ =>
        if loc = Location.compartment m then s
        else s.modifyComp m fun c => { c with contents := c.contents.filter (· != Item.key k) }
      | .drop, .compartment _ => s.removeDrop k
      | _, _ => s
    s'.modifyKey k fun r => { r with location := loc }

/-! ### The scan list (R40-R45) -/

/-- A compartment holds an entry on the scan list (R40). -/
def Scanner.holds (sc : Scanner) (n : CompId) : Bool := sc.list.any fun e => e.comp == n

/-- The list without a compartment's entry. -/
def Scanner.without (sc : Scanner) (n : CompId) : List ScanEntry := sc.list.filter fun e => e.comp != n

/-- LOCKED, or SCANNING for a compartment that holds a scan list entry (R17). -/
def State.lockedDoor (s : State) (n : CompId) : DoorState :=
  if s.scanner.holds n then .scanning else .locked

/-- A SWEEP request (R41): met by an entry the compartment holds, else a SWEEP entry at the tail; a
compartment in LOCKED becomes SCANNING (R17). -/
def State.requestSweep (s : State) (n : CompId) : State :=
  if s.scanner.holds n then s
  else
    let s' := s.withScanner
      { s.scanner with list := s.scanner.list ++ [⟨n, .sweep, .nothing, false⟩] }
    if (s.comp n).door = .locked then s'.modifyComp n fun c => { c with door := .scanning } else s'

/-- A DOOR request (R41): an entry at the tail of the DOOR class, carrying what the closing gives; an
entry the compartment already holds is promoted. -/
def State.requestDoor (s : State) (n : CompId) (carried : Carried) : State :=
  let rest := s.scanner.without n
  s.withScanner { s.scanner with
    list := rest.filter (·.cls == .door) ++ [⟨n, .door, carried, false⟩]
      ++ rest.filter (·.cls == .sweep) }

/-- Withdraws a compartment's entry; a read of it in flight is abandoned (R25, R42). -/
def State.withdrawEntry (s : State) (n : CompId) : State :=
  s.withScanner { s.scanner with list := s.scanner.without n }

/-- The scanner may read a compartment in this door state (section 2.2, R42). -/
def DoorState.readable : DoorState → Bool
  | .scanning => true
  | .unknown => true
  | .locked => false
  | .waiting => false
  | .unlatched => false
  | .opened => false
  | .leftOpen => false
  | .forcedOpen => false

/-- Marks the first entry whose compartment can be read. -/
def markFirst (can : CompId → Bool) : List ScanEntry → List ScanEntry
  | [] => []
  | e :: es => if can e.comp then { e with reading := true } :: es else e :: markFirst can es

/-- Starts a read at the first readable entry when no read is in flight (R42). -/
def State.startRead (s : State) : State :=
  if s.scanner.list.any (·.reading) then s
  else s.withScanner
    { s.scanner with list := markFirst (fun n => (s.comp n).door.readable) s.scanner.list }

/-- The number of compartments whose contents are not known (R45). -/
def State.unknownCount (s : State) : Nat := s.compartments.table.rows.countP fun c => !c.known

/-- Ends the sweep in progress when the list holds no SWEEP entry, with a SWEEP_DONE notice (R45). -/
def State.sweepCheck (s : State) : State :=
  if s.scanner.sweeping && !(s.scanner.list.any fun e => e.cls == .sweep) then
    (s.withScanner { s.scanner with sweeping := false }).enter
      { kind := .sweepDone, minute := s.present, detailB := s.unknownCount }
  else s

/-- The sweep condition, then the next read, as R43 orders them. -/
def State.scanStep (s : State) : State := s.sweepCheck.startRead

/-! ### The release queue and the latch channels (R20-R22) -/

/-- A release stands in the priority class: purpose STAFF or origin LINK (R21). -/
def Release.priority (r : Release) : Bool :=
  match r.purpose, r.origin with
  | .staff _, _ => true
  | _, .link => true
  | _, .kiosk => false

/-- A compartment's waiting request is of the priority class. -/
def State.priorityAt (s : State) (n : CompId) : Bool := (s.comp n).release.any Release.priority

/-- A request joins the release queue: a priority request ahead of the first renter request, a renter
request at the tail (R21). -/
def State.enqueue (s : State) (n : CompId) (priority : Bool) : State :=
  let q := s.compartments.queue
  s.withCompartments { s.compartments with
    queue := if priority then q.takeWhile s.priorityAt ++ [n] ++ q.dropWhile s.priorityAt
      else q ++ [n] }

/-- Grants a free channel, channel 1 first, to the head of a non-empty queue (R22): the door becomes
UNLATCHED and the window timer starts with the length W. -/
def State.grantOne (s : State) : State :=
  match s.compartments.queue with
  | [] => s
  | n :: rest =>
    let started := fun (s : State) => s.modifyComp n fun c =>
      { c with door := .unlatched, window := some (seconds s.store.working.profile.value.window) }
    match s.compartments.channel1, s.compartments.channel2 with
    | none, _ =>
      started (s.withCompartments { s.compartments with queue := rest, channel1 := some n })
    | some _, none =>
      started (s.withCompartments { s.compartments with queue := rest, channel2 := some n })
    | some _, some _ => s

/-- The arbiter: grants for each of the two channels that is free while requests wait (R22). -/
def State.arbitrate (s : State) : State := s.grantOne.grantOne

/-- Turns a compartment's latch off and frees its channel; its window timer stops (R22, R32). -/
def State.freeChannel (s : State) (n : CompId) : State :=
  let cs := s.compartments
  (s.withCompartments { cs with
    channel1 := if cs.channel1 = some n then none else cs.channel1
    channel2 := if cs.channel2 = some n then none else cs.channel2 }).modifyComp n
      fun c => { c with window := none }

/-- The channel a compartment holds: 1, 2, or 0 for none (R37). -/
def State.channelOf (s : State) (n : CompId) : Nat :=
  if s.compartments.channel1 = some n then 1
  else if s.compartments.channel2 = some n then 2 else 0

/-- The position in the release queue counted from 1, or 0 (R37). -/
def State.queuePosition (s : State) (n : CompId) : Nat :=
  match s.compartments.queue.findIdx? (· == n) with
  | some i => i + 1
  | none => 0

/-- A release request (R20): refused WRONG_STATE or QUEUE_FULL with nothing changed, or taken. -/
def State.requestRelease (s : State) (n : CompId) (r : Release) : Except Status State :=
  if (s.comp n).service ≠ .inService ∨ (s.comp n).door ≠ .locked then .error .wrongState
  else if 16 ≤ s.compartments.queue.length then .error .queueFull
  else
    let s' := s.modifyComp n fun c =>
      { c with
        release := some r, door := .waiting
        reservation := match r.purpose with
          | .ret contract _ => some contract
          | _ => c.reservation }
    .ok (s'.enqueue n r.priority).arbitrate

/-! ### The kiosk's display and its return to IDLE (R85, R90) -/

/-- The kiosk enters IDLE: digits emptied, waited compartment and badge absent, the timers of the other
states and the hold stopped, and no release left to a staff session (R94). The press timer runs on (R84). -/
def Kiosk.toIdle (k : Kiosk) (p : Prompt) : Kiosk :=
  { k with
    mode := .idle, digits := [], waited := none, badge := none, opens := [], interDigit := none
    lockout := none, staffTimer := none, resultHold := none, brief := none, prompt := p }

/-- The kiosk enters IDLE with a result prompt, which the result hold keeps for 5 s (R85). -/
def Kiosk.toIdleResult (k : Kiosk) (p : Prompt) : Kiosk :=
  { k.toIdle p with resultHold := some resultHoldTicks }

/-- The outcomes of a release that the kiosk acts on (R18, R90). -/
inductive ReleaseOutcome where | opened | expired | cancelled
  deriving DecidableEq, Repr

/-- The kiosk is told an outcome of a renter release at compartment `n`: it acts in WAIT_DOOR, for its
waited compartment (R90). -/
def Kiosk.renterOutcome (k : Kiosk) (idlePrompt : Prompt) (n : CompId) (o : ReleaseOutcome) : Kiosk :=
  if k.mode = .waitDoor ∧ k.waited.map Prod.fst = some n then
    match o with
    | .opened => k.toIdleResult .thankYou
    | .expired => k.toIdle idlePrompt
    | .cancelled => k.toIdle idlePrompt
  else k

/-- The kiosk is told an outcome of the STAFF release of compartment `n`: for a release of the session it is
in, the prompt returns to STAFF_READY; one of a session that has ended has no effect (R94, R95; log 17,
DEDUCED). -/
def Kiosk.staffOutcome (k : Kiosk) (n : CompId) : Kiosk :=
  if k.mode = .staff ∧ n ∈ k.opens then
    { k with prompt := .staffReady, opens := k.opens.filter (· != n) }
  else k

/-! ### Pickups and returns that fail (R51, R72, R77) -/

/-- The reasons a pickup or return fails, as detail A (R60). -/
inductive FailReason where | notTaken | expired | cancelled | notPlaced
  deriving DecidableEq, Repr

def FailReason.code : FailReason → Nat
  | .notTaken => 0 | .expired => 1 | .cancelled => 2 | .notPlaced => 3

/-- Clears the promise a key holds (R4, R52, R72). -/
def State.clearPromise (s : State) (k : KeyId) : State :=
  s.modifyKey k fun r => { r with promisedTo := none }

/-- A contract in PICKING falls back: attempts rise, key and granted group become absent, HANDOUT_FAILED is
entered, and the contract is TICKET or, at three attempts, SUSPENDED with a TICKET_SUSPENDED notice (R51
step 5, R72 steps 2-4). -/
def State.fallBack (s : State) (number : Nat) (k : KeyId) (n : CompId) (reason : FailReason) : State :=
  match s.contract number with
  | none => s
  | some c =>
    if c.state = .picking then
      let attempts := c.attempts + 1
      let s1 := s.modifyContract number fun c =>
        { c with
          state := if attempts < 3 then .ticket else .suspended
          attempts := attempts, key := none, grantedGroup := none }
      let s2 := s1.enter
        { kind := .handoutFailed, minute := s.present, comp := some n, key := some k
          contract := some number, detailA := reason.code, detailB := attempts }
      if attempts < 3 then s2
      else s2.enter
        { kind := .ticketSuspended, minute := s.present, key := some k, contract := some number
          detailB := 3 }
    else s

/-- A PICKUP release ended EXPIRED or CANCELLED (R72); `n` is the compartment the notices name. No effect
unless the contract is in PICKING. -/
def State.pickupFailed (s : State) (number : Nat) (k : KeyId) (n : CompId) (reason : FailReason) :
    State :=
  if s.contractState number = some .picking then
    ((s.fallBack number k n reason).clearPromise k).reexamine s.joinMinute k
  else s

/-- A return failed: a contract in RETURNING returns to OUT and RETURN_FAILED is entered (R77, R51 step 6).
No effect unless the contract is in RETURNING. -/
def State.returnFailed (s : State) (number : Nat) (k : KeyId) (n : CompId) (reason : FailReason) :
    State :=
  if s.contractState number = some .returning then
    (s.modifyContract number fun c => { c with state := .out }).enter
      { kind := .returnFailed, minute := s.present, comp := some n, key := some k
        contract := some number, detailA := reason.code }
  else s

/-! ### The end of a release before its door opens (R18, R24, R30) -/

def ReleaseOutcome.reason : ReleaseOutcome → FailReason
  | .opened => .notTaken
  | .expired => .expired
  | .cancelled => .cancelled

/-- Tells a release's owner that it ended before its door opened: the contract controller (R72, R77), which
passes it to the kiosk (R90); the kiosk for a STAFF release (R95); nobody for a LINK release. `named` is the
compartment the notices name (R46, R72). -/
def State.tellEnded (s : State) (n : CompId) (r : Release) (o : ReleaseOutcome) (named : CompId) :
    State :=
  match r.purpose with
  | .pickup c k =>
    let s' := s.pickupFailed c k named o.reason
    s'.withKiosk (s'.kiosk.renterOutcome s'.idlePrompt n o)
  | .ret c k =>
    let s' := s.returnFailed c k named o.reason
    s'.withKiosk (s'.kiosk.renterOutcome s'.idlePrompt n o)
  | .staff _ => s.withKiosk (s.kiosk.staffOutcome n)
  | .link => s

/-- Tells the kiosk, as owner or through the contract controller, that a door opened under its release
(R23, R90, R95). -/
def State.tellOpened (s : State) (n : CompId) (r : Release) : State :=
  match r.purpose with
  | .pickup _ _ => s.withKiosk (s.kiosk.renterOutcome s.idlePrompt n .opened)
  | .ret _ _ => s.withKiosk (s.kiosk.renterOutcome s.idlePrompt n .opened)
  | .staff _ => s.withKiosk (s.kiosk.staffOutcome n)
  | .link => s

/-- Removes a compartment's release record; a RETURN release's reservation is cleared with it (R19). -/
def Compartment.withoutRelease (c : Compartment) : Compartment :=
  { c with
    release := none
    reservation := match c.release.map Release.purpose with
      | some (.ret _ _) => none
      | _ => c.reservation }

/-- A release ends EXPIRED or CANCELLED: its record is removed, a RETURN release's reservation is cleared,
and its owner is told (R18, R19). `named` is the compartment the notices name. -/
def State.endRelease (s : State) (n : CompId) (o : ReleaseOutcome) (named : CompId := n) : State :=
  let s' := s.modifyComp n Compartment.withoutRelease
  match (s.comp n).release with
  | some r => s'.tellEnded n r o named
  | none => s'

/-- A cancel that reaches a release (R30): in WAITING the request leaves the queue, in UNLATCHED the channel
is freed and the arbiter grants; the door becomes LOCKED or SCANNING and the release ends CANCELLED. `none`
when it is refused, because the door state is another. `named` is the compartment the notices name. -/
def State.cancelRelease (s : State) (n : CompId) (named : CompId := n) : Option State :=
  match (s.comp n).door with
  | .waiting =>
    let s1 := s.withCompartments
      { s.compartments with queue := s.compartments.queue.filter (· != n) }
    let s2 := s1.modifyComp n fun c => { c with door := s.lockedDoor n }
    some (s2.endRelease n .cancelled named)
  | .unlatched =>
    let s1 := (s.freeChannel n).modifyComp n fun c => { c with door := s.lockedDoor n }
    some (s1.arbitrate.endRelease n .cancelled named)
  | .locked => none
  | .opened => none
  | .leftOpen => none
  | .forcedOpen => none
  | .scanning => none
  | .unknown => none

/-- The compartment reserved for the RETURN release of a contract (R79). -/
def State.returnComp (s : State) (number : Nat) : Option CompId :=
  s.compartments.table.find fun c =>
    c.reservation == some number && match c.release.map Release.purpose with
      | some (.ret c' _) => c' == number
      | _ => false

/-- The compartment whose current release is the PICKUP of a contract (R73). -/
def State.pickupComp (s : State) (number : Nat) : Option CompId :=
  s.compartments.table.find fun c => match c.release.map Release.purpose with
    | some (.pickup c' _) => c' == number
    | _ => false

/-- Cancels the RETURN release of a contract closed by another route; when the cancel is refused, the
return reservation is cleared and the release runs on (R48, R79, R80). -/
def State.cancelReturn (s : State) (number : Nat) : State :=
  match s.returnComp number with
  | none => s
  | some m =>
    match s.cancelRelease m with
    | some s' => s'
    | none => s.modifyComp m fun c => { c with reservation := none }

/-- A key's promise is withdrawn because the key turned up elsewhere: the pickup that held it is cancelled;
a refused cancel leaves the release to run on (R3, R49, R73). The notices of a cancel made in the
reconciliation of compartment `n` name `n` (R46, `some n`; log 19, DEDUCED), those of one made by a chute read
the pickup's own compartment (R72, `none`). -/
def State.withdrawPromise (s : State) (k : KeyId) (scanned : Option CompId) : State :=
  match (s.key k).bind KeyRecord.promisedTo with
  | none => s
  | some number =>
    let s1 := s.modifyKey k fun r => { r with promisedTo := none }
    match s1.pickupComp number with
    | none => s1
    | some m => (s1.cancelRelease m (scanned.getD m)).getD s1

/-! ### The pickup-code index (R58) -/

/-- The slot a pickup code maps to. -/
def ContractTable.codeSlot (t : ContractTable) (code : Nat) : Option Slot :=
  (t.codes.find? fun p => p.1 == code).map Prod.snd

/-- A code enters the index, which is kept sorted by code. -/
def insertCode (code : Nat) (sl : Slot) : List (Nat × Slot) → List (Nat × Slot)
  | [] => [(code, sl)]
  | p :: ps => if p.1 < code then p :: insertCode code sl ps else (code, sl) :: p :: ps

/-- A slot's code enters the index, when it has one. -/
def State.addCode (s : State) (sl : Slot) (code : Option Nat) : State :=
  match code with
  | none => s
  | some c => s.withContracts { s.contracts with codes := insertCode c sl s.contracts.codes }

/-- A slot's code leaves the index. -/
def State.dropCode (s : State) (sl : Slot) : State :=
  s.withContracts { s.contracts with codes := s.contracts.codes.filter fun p => p.2 != sl }

/-! ### Forced flags (R26) -/

/-- Clears every compartment's forced flag (R26). -/
def State.clearForced (s : State) : State :=
  s.withCompartments { s.compartments with
    table := s.compartments.table.map fun c => { c with forced := false } }

end Sys2Proof.Machine
end

