-- ==== Sys2Proof/Machine/Flags.lean ====
section
/-! DEFINITION. The attention causes and everything that follows them in the same event (R160-R166): the
counts behind them, the beacon, the pager, the frame-waiting mark; and the transmitter's choice of its next
frame (R175). -/

namespace Sys2Proof.Machine

/-! ### The counts behind the causes -/

/-- A contract is open: OUT or RETURNING (R56). -/
def Contract.isOpen (c : Contract) : Bool := c.state == .out || c.state == .returning

/-- The number of open contracts at a stored tier (R127). -/
def State.tierCount (s : State) (t : Tier) : Nat :=
  s.contracts.slots.rows.countP fun r => r.any fun c => c.isOpen && c.tier == t

/-- The five per-tier counts, from the table (R127). -/
def State.tierCounts (s : State) : TierCounts :=
  { none := s.tierCount .none, soon := s.tierCount .soon, late1 := s.tierCount .late1
    late2 := s.tierCount .late2, late3 := s.tierCount .late3 }

/-- The number of enrolled keys whose location is MISSING (R160). -/
def State.missingCount (s : State) : Nat :=
  s.keys.places.rows.countP fun r => r.any fun k => k.location == .missing

/-- An item is foreign (R16). -/
def Item.isForeign : Item → Bool
  | .foreign _ => true
  | .key _ => false

/-- The number of compartments whose contents hold a foreign item (R160). -/
def State.foreignCount (s : State) : Nat :=
  s.compartments.table.rows.countP fun c => c.contents.any Item.isForeign

/-- Brings the per-tier counts and the two counts of KEY_ANOMALY to what the records hold after the event
(R127, R160). -/
def State.recount (s : State) : State :=
  (s.withOverdue { s.overdue with counts := s.tierCounts }).withNotices
    { s.notices with missing := s.missingCount, foreign := s.foreignCount }

/-! ### The causes (R160) -/

/-- The condition of each cause (R160). -/
def State.holds (s : State) : Cause → Bool
  | .forcedDoor => s.compartments.table.rows.any Compartment.forced
  | .doorLeftOpen => s.compartments.table.rows.any fun c => c.door == .leftOpen
  | .late3Present => 0 < s.overdue.counts.late3
  | .dropFull => 48 ≤ s.drop.entries.length
  | .capacityShort => s.overdue.forecast.short
  | .staffCall => s.notices.callLatch
  | .keyAnomaly => 0 < s.notices.missing || 0 < s.notices.foreign
  | .latePresent => 0 < s.overdue.counts.late1 + s.overdue.counts.late2
  | .noticeOverflow => s.notices.overflow
  | .noticesWaiting => s.store.working.profile.value.trigger ≤ s.notices.ring.length

/-- The settings of a cause in the ALERT working copy (R163). -/
def State.setting (s : State) (c : Cause) : CauseSetting := s.store.working.alert.value.get c.place

/-- The highest pending cause (R162). -/
def State.highest (s : State) : Option Cause := s.notices.pending.head?

/-- The highest pending cause whose report setting is yes (R166). -/
def State.highestReport (s : State) : Option Cause :=
  s.notices.pending.find? fun c => (s.setting c).report

/-- The beacon mode of the highest pending cause whose mode is not OFF (R164). -/
def State.beaconFor (s : State) : Beacon :=
  match s.notices.pending.find? fun c => (s.setting c).beacon != .off with
  | some c => (s.setting c).beacon
  | none => .off

/-- The pager after an event: a pulse of 2 s is requested when a pager-enabled cause has become pending in
UNSTAFFED; a request during a pulse is merged with it (R165). -/
def State.pagerAfter (s : State) (before : List Cause) : Option Nat :=
  let called := s.mode == .unstaffed
    && s.notices.pending.any fun c => !before.contains c && (s.setting c).pager
  match s.notices.pager with
  | some t => some t
  | none => if called then some pagerTicks else none

/-- Brings the pending set to the conditions as they stand at the event's end. -/
def State.examine (s : State) : State :=
  s.withNotices { s.notices with pending := Cause.all.filter s.holds }

/-- The frame-waiting mark is set when the highest pending report-enabled cause differs from the last
reported one; a mark set earlier stays (R166). -/
def State.markFrame (s : State) : State :=
  s.withLink { s.link with
    mark := s.link.mark || s.highestReport != s.link.lastReported }

/-- Re-examines the causes at the end of an event, as one change: counts, pending set, beacon, pager and
frame-waiting mark (R160, R164-R166; log 11, DEDUCED). -/
def State.attend (s : State) : State :=
  let s1 := s.recount.examine
  (s1.withNotices { s1.notices with
    beacon := s1.beaconFor
    pager := s1.pagerAfter s.notices.pending }).markFrame

/-! ### The transmitter (R166, R175) -/

/-- The body of an attention frame: the highest pending report-enabled cause, then one byte per cause
(R175). -/
def State.attentionBody (s : State) : List Byte :=
  causeByte s.highestReport :: Cause.all.map fun c => flagByte (s.notices.pending.contains c)

/-- The attention frame of the causes as they stand: KIND FEh, TAG 0 (R166, R175, R176). -/
def State.attentionFrame (s : State) : Frame := ⟨0xFE, 0, s.attentionBody⟩

/-- Begins an attention frame: the last reported cause takes the cause it carries and the mark is cleared
(R166). -/
def State.sendAttention (s : State) : State :=
  s.withLink { s.link with
    tx := .attention s.attentionFrame, lastReported := s.highestReport, mark := false }

/-- Begins the oldest reply, when there is one (R175). -/
def State.sendReply (s : State) : State :=
  if s.link.replies.isEmpty then s else s.withLink { s.link with tx := .reply }

/-- The transmitter, when it is free, chooses the next frame (R175): the attention frame when the mark is
set and the cause still differs from the last reported one, else the oldest reply. A mark whose cause no
longer differs is cleared in the same choice. `freed` says that the transmitter became free in this event;
otherwise a mark and a reply that both wait became ready together, and which goes first is free (log 3,
DESIGN CHOICE). -/
def State.transmit (freed : Bool) (s : State) : State :=
  if s.link.tx ≠ .idle then s
  else if s.link.mark = false then s.sendReply
  else if s.highestReport = s.link.lastReported then
    (s.withLink { s.link with mark := false }).sendReply
  else if freed ∨ s.link.replies = [] then s.sendAttention
  else
    let s' := s.withFree (s.free + 1)
    if Config.replyFirst s.free then s'.sendReply else s'.sendAttention

/-- The end of an event that can move a cause: the causes (R160), then the transmitter (R175). -/
def State.settle (s : State) : State := s.attend.transmit false

/-- The end of an event that can also move the scan list: the sweep condition and the next read (R42, R45)
come first. -/
def State.finish (s : State) : State := s.scanStep.settle

/-- An event is taken only while the part has power (log 4, DESIGN CHOICE); `t` is the state it leaves. -/
def State.taken (s t : State) : Host.Outcome State Fault Refusal :=
  .next (if s.powered then t else s)

end Sys2Proof.Machine
end

