-- ==== Sys2Proof/Machine/Overdue.lean ====
section
/-! DEFINITION. Overdue supervision and the forecast (Chapters 7 and 8): the lateness computation, the
stored tier and reminders, closure's final lateness, the lateness scan and the return capacity forecast. -/

namespace Sys2Proof.Machine

/-- The last minute of the branch clock (R113). -/
def lastMinute : Nat := 4294967295

/-! ### The lateness computation (R118-R120) -/

/-- The policy that governs a contract: that of the present group of the key in its key field (R118). A
contract the monitor evaluates always holds a key; without one the granted group serves (log 31, DESIGN
CHOICE). -/
def State.policyOf (s : State) (c : Contract) : GroupPolicy :=
  match c.key.bind s.key with
  | some k => s.policy k.group
  | none => s.policy (c.grantedGroup.getD 0)

/-- E, the minute at which lateness begins: the due minute plus the grace, absent past the clock's top
(R119). -/
def latenessMinute (p : GroupPolicy) (c : Contract) : Option Nat :=
  let e := c.due + c.grace.getD p.grace
  if lastMinute < e then none else some e

/-- S, the minute at which SOON begins: the due minute less the lead, 0 when the lead exceeds it (R119). -/
def soonMinute (p : GroupPolicy) (c : Contract) : Nat := c.due - p.lead

/-- The computed tier at minute `m` (R119). -/
def computedTier (p : GroupPolicy) (c : Contract) (m : Nat) : Tier :=
  if m < soonMinute p c then .none
  else match latenessMinute p c with
    | none => .soon
    | some e =>
      if m < e then .soon
      else if m - e < p.t2 then .late1
      else if m - e < p.t3 then .late2
      else .late3

/-- The late hours at minute `m` (R120). -/
def lateHours (p : GroupPolicy) (c : Contract) (m : Nat) : Nat :=
  match latenessMinute p c with
  | none => 0
  | some e => if m < e then 0 else min ((m - e + 59) / 60) 9999

/-- The greater of two tiers (R119). -/
def Tier.max (a b : Tier) : Tier := if a.code < b.code then b else a

/-! ### Stored tier and reminders (R121, R122) -/

/-- A TIER_RAISED notice (R121, R156). -/
def State.enterRaised (s : State) (m : Nat) (c : Contract) (old new : Tier) (hours : Nat) : State :=
  s.enter
    { kind := .tierRaised, minute := some m, key := c.key, contract := some c.number
      detailA := 10 * old.code + new.code, detailB := hours }

/-- The tier step of a visit (R121). -/
def State.tierStep (s : State) (sl : Slot) (m : Nat) : State :=
  match s.slot sl with
  | none => s
  | some c =>
    let p := s.policyOf c
    let new := computedTier p c m
    if c.tier.code < new.code then
      (s.modifySlot sl fun c => { c with tier := new, reminderBase := m }).enterRaised m c c.tier new
        (lateHours p c m)
    else s

/-- The reminder step of a visit (R122). -/
def State.reminderStep (s : State) (sl : Slot) (m : Nat) : State :=
  match s.slot sl with
  | none => s
  | some c =>
    let p := s.policyOf c
    if c.tier.code < Tier.late1.code ∨ p.reminder = 0 then s
    else if m < c.reminderBase then s.modifySlot sl fun c => { c with reminderBase := m }
    else if p.reminder ≤ m - c.reminderBase then
      (s.modifySlot sl fun c => { c with reminderBase := m }).enter
        { kind := .reminder, minute := some m, key := c.key, contract := some c.number
          detailA := c.tier.code, detailB := lateHours p c m }
    else s

/-- A ticket lapses at a visit (R125). -/
def State.lapse (s : State) (sl : Slot) (m : Nat) : State :=
  match s.slot sl with
  | none => s
  | some c =>
    let entitled : Option KeyId := match c.entitlement with
      | .specific k => some k
      | .cls .. => none
    let s1 := (s.modifySlot sl fun c => { c with state := .lapsed }).dropCode sl
    let s2 := match entitled with
      | some k => s1.reexamine s.joinMinute k
      | none => s1
    s2.enter
      { kind := .ticketLapsed, minute := some m, key := entitled, contract := some c.number
        detailA := if c.state = .ticket then 0 else 1 }

/-- A ticket's window end is before the scan minute (R124). -/
def Contract.windowPassed (c : Contract) (m : Nat) : Bool := c.windowEnd.any fun e => e < m

/-- The visit of a slot, in the state it holds at that moment (R124). -/
def State.visitSlot (s : State) (sl : Slot) (m : Nat) : State :=
  match s.slot sl with
  | none => s
  | some c =>
    match c.state with
    | .out => (s.tierStep sl m).reminderStep sl m
    | .returning => (s.tierStep sl m).reminderStep sl m
    | .ticket => if c.windowPassed m then s.lapse sl m else s
    | .suspended => if c.windowPassed m then s.lapse sl m else s
    | .picking => s
    | .closed => s
    | .lapsed => s
    | .void => s

/-! ### Closure (R78, R129) -/

/-- Closes an open contract with a route and a return minute; `comp` is the compartment RETURN_DONE names
for the routes COMPARTMENT and STRAY (R78, R129, R156). No effect on a contract that is not open. -/
def State.closeContract (s : State) (number : Nat) (route : Route) (returnMinute : Option Nat)
    (comp : Option CompId) : State :=
  match s.contract number with
  | none => s
  | some c =>
    if c.isOpen then
      let p := s.policyOf c
      let final := match returnMinute with
        | some m => c.tier.max (computedTier p c m)
        | none => c.tier
      let hours := returnMinute.map (lateHours p c)
      (s.modifyContract number fun c =>
        { c with
          state := .closed, route := some route, returnMinute := returnMinute, tier := final
          lateHours := hours }).enter
        { kind := .returnDone, minute := returnMinute, comp := comp, key := c.key
          contract := some number, detailA := 10 * route.code + final.code
          detailB := hours.getD 0xFFFF }
    else s

/-! ### The forecast (R132-R138) -/

/-- A counted compartment: in service, in a panel that allows renter return (R132). -/
def State.counted (s : State) (n : CompId) : Bool :=
  (s.comp n).service == .inService && (s.panel n).ret

/-- A counted compartment is free: contents known and empty, no return reservation (R132). -/
def Compartment.isFree (c : Compartment) : Bool :=
  c.known && c.contents.isEmpty && c.reservation.isNone

/-- C (R132). -/
def State.forecastC (s : State) : Nat := (fins 192).countP s.counted

/-- Occ (R132). -/
def State.forecastOcc (s : State) : Nat :=
  (fins 192).countP fun n => s.counted n && !(s.comp n).isFree

/-- Dq: drop list entries with a key index (R133). -/
def State.forecastDq (s : State) : Nat := s.drop.entries.countP fun e => e.key.isSome

/-- A minute falls in bucket `b` of a forecast made at `m0`: it counts in bucket 0 when it is before `m0`
(R134-R136). -/
def inBucket (m0 b x : Nat) : Bool :=
  (m0 + 30 * b ≤ x && x ≤ m0 + 30 * b + 29) || (b == 0 && x < m0)

/-- R_b: open contracts whose due minute falls in the bucket (R135). -/
def State.forecastR (s : State) (m0 b : Nat) : Nat :=
  s.contracts.slots.rows.countP fun r => r.any fun c => c.isOpen && inBucket m0 b c.due

/-- A ticket counts in K_b by its entitlement: CLASS always, SPECIFIC when its key is in a counted
compartment (R136). -/
def State.pickupCounts (s : State) (e : Entitlement) : Bool :=
  match e with
  | .cls .. => true
  | .specific k => match (s.key k).map KeyRecord.location with
    | some (.compartment n) => s.counted n
    | _ => false

/-- K_b: tickets whose pickup is expected in the bucket; an absent window start counts in bucket 0
(R136). -/
def State.forecastK (s : State) (m0 b : Nat) : Nat :=
  s.contracts.slots.rows.countP fun r => r.any fun c =>
    c.state == .ticket && s.pickupCounts c.entitlement
      && match c.windowStart with
        | none => b == 0
        | some w => inBucket m0 b w

/-- The projection (R137): the occupancy after each bucket, clamped to 0-C at each step. -/
def projection (c : Nat) : Nat → List (Nat × Nat) → List Bucket
  | _, [] => []
  | p, (r, k) :: rest =>
    let p' := min c (p + r - k)
    { returns := r, pickups := k, occupied := p', free := c - p' } :: projection c p' rest

/-- The first bucket whose Free_b is below the reserve, with its Free_b (R138). -/
def firstShort (reserve : Nat) : Nat → List Bucket → Option (Nat × Nat)
  | _, [] => none
  | b, x :: xs => if x.free < reserve then some (b, x.free) else firstShort reserve (b + 1) xs

/-- The smallest Free_b over the buckets (R138). -/
def smallestFree (bs : List Bucket) : Nat := (bs.map Bucket.free).foldl min 255

/-- The forecast at minute `m0`, from the records as they stand (R131-R138). -/
def State.forecastAt (s : State) (m0 : Nat) : Forecast :=
  let c := s.forecastC
  let start := min c (s.forecastOcc + s.forecastDq)
  let buckets := projection c start
    ((List.range 16).map fun b => (s.forecastR m0 b, s.forecastK m0 b))
  let reserve := s.store.working.profile.value.reserve
  let first := firstShort reserve 0 buckets
  { computed := true, minute := m0, reserve := reserve, counted := c, occupied := s.forecastOcc
    dropKeys := s.forecastDq, start := start, buckets := buckets, short := first.isSome
    firstShort := first.map Prod.fst, deficit := first.map fun x => reserve - x.2, stale := false }

/-- Computes the forecast at `m0`, replaces the held result, and enters CAPACITY_SHORT or CAPACITY_CLEAR
when the short field differs from the one held (R138, R139). -/
def State.computeForecast (s : State) (m0 : Nat) : State :=
  let f := s.forecastAt m0
  let s' := s.withOverdue { s.overdue with forecast := f }
  match s.overdue.forecast.short, f.short with
  | false, true => s'.enter
      { kind := .capacityShort, minute := some m0, detailA := f.firstShort.getD 0
        detailB := f.deficit.getD 0 }
  | true, false => s'.enter
      { kind := .capacityClear, minute := some m0, detailB := smallestFree f.buckets }
  | true, true => s'
  | false, false => s'

/-! ### The lateness scan (R123, R126) -/

/-- A scan is requested with a minute: it starts, or becomes the pending start of the scan in flight
(R123). -/
def State.requestScan (s : State) (m : Nat) : State :=
  let sc := s.overdue.scan
  s.withOverdue { s.overdue with
    scan := if sc.scanning then { sc with pendingStart := some m }
      else { sc with scanning := true, minute := m, nextSlot := 0 } }

/-- The end of a scan: its forecast, then the pending start or IDLE (R126). -/
def State.endScan (s : State) : State :=
  let s' := s.computeForecast s.overdue.scan.minute
  let sc := s'.overdue.scan
  s'.withOverdue { s'.overdue with
    scan := match sc.pendingStart with
      | some m => { scanning := true, minute := m, nextSlot := 0, pendingStart := none }
      | none => { sc with scanning := false } }

/-- One visit of the scan in flight (R123, R124, R126). -/
def State.visit (s : State) : State :=
  let sc := s.overdue.scan
  if sc.scanning then
    match indexOf 512 sc.nextSlot with
    | none => s
    | some sl =>
      let s1 := s.visitSlot sl sc.minute
      let s2 := s1.withOverdue { s1.overdue with
        scan := { s1.overdue.scan with nextSlot := sc.nextSlot + 1 } }
      if sc.nextSlot + 1 = 512 then s2.endScan else s2
  else s

end Sys2Proof.Machine
end

