-- ==== Sys2Proof/Machine/Pickup.lean ====
section
/-! DEFINITION. Starting pickups and returns (sections 4.4 and 4.6): class selection, the promise, the
pickup release, and return allocation. -/

namespace Sys2Proof.Machine

/-! ### Class selection (R67) -/

/-- A key meets the wishes of a CLASS entitlement (conditions 3 to 5 of R67). -/
def KeyRecord.meets (r : KeyRecord) (t : Option Transmission) (e : Option Energy) (seats : Nat) : Bool :=
  (t.isNone || t == some r.transmission) && (e.isNone || e == some r.energy) && seats ≤ r.seats

/-- The key's compartment, when its location is one. -/
def State.keyComp (s : State) (k : KeyId) : Option CompId :=
  match (s.key k).map KeyRecord.location with
  | some (.compartment n) => some n
  | _ => none

/-- The key stands behind a LOCKED door in an eligible compartment (conditions 1 and 2 of R67). -/
def State.reachable (s : State) (eligible : CompId → Bool) (k : KeyId) : Bool :=
  (s.keyComp k).any fun n => (s.comp n).door == .locked && eligible n

/-- The groups class selection takes: g, g+1, …, g+u, stopping at P (R67). -/
def groupsFrom (g : Group) (u : Nat) : List Group :=
  (List.range (u + 1)).filterMap fun i => indexOf 16 (g.val + i)

/-- The first key of a group's list that can be chosen (R67). -/
def State.selectIn (s : State) (eligible : CompId → Bool) (t : Option Transmission) (e : Option Energy)
    (seats : Nat) (g : Group) : Option KeyId :=
  (s.keys.lists.get g).find? fun k =>
    s.reachable eligible k && (s.key k).any fun r => r.meets t e seats

/-- Class selection (R67): the first key of the first group that yields one. -/
def State.select (s : State) (eligible : CompId → Bool) (g : Group) (t : Option Transmission)
    (e : Option Energy) (seats u : Nat) : Option KeyId :=
  (groupsFrom g u).findSome? (s.selectIn eligible t e seats)

/-! ### The promise and the pickup (R4, R68) -/

/-- The key table can grant a contract the promise of a key (R4): the key is in its list, or outside it only
by the contract's own specific claim. A key that left a PICKING contract by a refused cancel (R73) and rejoined
its list is granted too, while that contract still names it (R57; log 40, DEDUCED). -/
def State.grantable (s : State) (number : Nat) (k : KeyId) : Bool :=
  s.inList k || (s.dispensable k && (s.contract number).any fun c => c.claims k)

/-- Grants a promise: the promise field takes the contract number and the key leaves its list, its
idle-since kept (R4). -/
def State.grantPromise (s : State) (number : Nat) (k : KeyId) : Option State :=
  match s.key k with
  | none => none
  | some r =>
    if s.grantable number k then
      let s' := s.modifyKey k fun r => { r with promisedTo := some number }
      some (s'.withKeys (s'.keys.leave r.group k))
    else none

/-- How a pickup starts (R68). -/
inductive PickupStart where
  /-- the release was taken for this compartment -/
  | started (n : CompId) (s : State)
  /-- the release was refused and the pickup undone -/
  | undone (s : State)
  /-- the promise was refused: as if no key had been found -/
  | noKey

/-- Starts the pickup of key `k` for a contract (R68). When the release request is refused the pickup is
undone: the contract returns to TICKET, the promise is cleared and the key is re-examined. -/
def State.startPickup (s : State) (number : Nat) (k : KeyId) (origin : Origin) : PickupStart :=
  match s.grantPromise number k, s.key k, s.keyComp k with
  | some s1, some r, some n =>
    let s2 := s1.modifyContract number fun c =>
      { c with state := .picking, key := some k, grantedGroup := some r.group }
    match s2.requestRelease n ⟨.pickup number k, origin⟩ with
    | .ok s3 => .started n s3
    | .error _ =>
      let s3 := s2.modifyContract number fun c =>
        { c with state := .ticket, key := none, grantedGroup := none }
      .undone ((s3.clearPromise k).reexamine s.joinMinute k)
  | _, _, _ => .noKey

/-! ### Pickup at the kiosk (R70, R71) -/

/-- The contract controller's answer to a pickup code (R70). -/
inductive CodeAnswer where
  | notMatched
  | matched (p : Prompt)
  | started (n : CompId)
  deriving DecidableEq, Repr

/-- A started pickup's answer, `without` when no key could be promised. -/
def PickupStart.answer (r : PickupStart) (s : State) (without : Prompt) : CodeAnswer × State :=
  match r with
  | .started n s' => (.started n, s')
  | .undone s' => (.matched .pleaseWait, s')
  | .noKey => (.matched without, s)

/-- The prompt a SPECIFIC kiosk pickup of key `k` draws before it can start, `none` when all hold (R71). -/
def State.specificObstacle (s : State) (k : KeyId) : Option Prompt :=
  match s.key k, s.keyComp k with
  | some r, some n =>
    let c := s.comp n
    if c.service ≠ .inService ∨ c.contents ≠ [.key k] then some .seeCounter
    else if r.mark = .unchecked ∨ r.hold = true then some .seeCounter
    else if (s.panel n).pickup = false then some .seeCounter
    else if c.known = false ∨ c.door ≠ .locked then some .pleaseWait
    else none
  | _, _ => some .seeCounter

/-- A pickup from the kiosk for a ticket whose window holds (R70, R71). -/
def State.kioskPickup (s : State) (c : Contract) : CodeAnswer × State :=
  match c.entitlement with
  | .specific k =>
    match s.specificObstacle k with
    | some p => (.matched p, s)
    | none => (s.startPickup c.number k .kiosk).answer s .seeCounter
  | .cls g t e seats u =>
    match s.select (fun n => (s.panel n).pickup) g t e seats u with
    | none => (.matched .noVehicle, s)
    | some k => (s.startPickup c.number k .kiosk).answer s .noVehicle

/-- The contract controller's answer to a six-digit code, tested in the order of R70. -/
def State.answerCode (s : State) (code : Nat) : CodeAnswer × State :=
  match (s.contracts.codeSlot code).bind s.slot with
  | none => (.notMatched, s)
  | some c =>
    match c.state with
    | .suspended => (.matched .seeCounter, s)
    | .picking => (.matched .pleaseWait, s)
    | .ticket =>
      if s.present.any fun m => c.windowStart.any fun w => m < w then (.matched .notYet, s)
      else if s.present.any fun m => c.windowEnd.any fun w => w < m then (.matched .expired, s)
      else s.kioskPickup c
    | .out => (.notMatched, s)
    | .returning => (.notMatched, s)
    | .closed => (.notMatched, s)
    | .lapsed => (.notMatched, s)
    | .void => (.notMatched, s)

/-! ### Returns at the kiosk (R75, R76) -/

/-- The contract a tag's return is recognised for: the tag names an enrolled key that is OUT with a
contract in OUT (R75). -/
def State.recognised (s : State) (tag : Nat) : Option (Nat × KeyId) :=
  match s.keyOfTag tag with
  | none => none
  | some k =>
    match (s.key k).map KeyRecord.location with
    | some (.out c) => if s.contractState c = some .out then some (c, k) else none
    | _ => none

/-- A compartment that return allocation can offer (R76). -/
def State.allocatable (s : State) (n : CompId) : Bool :=
  let c := s.comp n
  c.service == .inService && c.door == .locked && c.known && c.contents.isEmpty
    && c.reservation.isNone && (s.panel n).ret

/-- The lowest-numbered compartment that can be offered (R76). -/
def State.allocation (s : State) : Option CompId := (fins 192).find? s.allocatable

/-- The contract controller's answer to a tag at the pad (R76, R91). -/
inductive ReturnAnswer where
  | taken (n : CompId)
  | refused (p : Prompt)
  deriving DecidableEq, Repr

/-- A return at the pad: recognition, allocation, the RETURN release and the reservation, in one event
(R75, R76). -/
def State.answerTag (s : State) (tag : Nat) : ReturnAnswer × State :=
  match s.recognised tag with
  | none => (.refused .tagNotRecognised, s)
  | some (number, k) =>
    match s.allocation with
    | none =>
      (.refused (if s.mode = .unstaffed ∧ s.drop.flap = .opened then .useDropBox
        else .cabinetFullSeeCounter), s)
    | some n =>
      match s.requestRelease n ⟨.ret number k, .kiosk⟩ with
      | .error _ => (.refused .pleaseWait, s)
      | .ok s' => (.taken n, s'.modifyContract number fun c => { c with state := .returning })

end Sys2Proof.Machine
end

