-- ==== Sys2Proof/Machine/Reconcile.lean ====
section
/-! DEFINITION. Reconciliation (sections 3.4 and 3.5): the nine steps applied at a scan completion. -/

namespace Sys2Proof.Machine

/-- The purpose a scan is reconciled against (R46). -/
inductive ScanPurpose where
  | nothing
  | forced
  | pickup (contract : Nat) (key : KeyId)
  | ret (contract : Nat) (key : KeyId)
  | staff
  | link
  deriving DecidableEq, Repr

/-- The contract a purpose carries (R47). -/
def ScanPurpose.contract? : ScanPurpose → Option Nat
  | .pickup c _ => some c
  | .ret c _ => some c
  | .nothing => none
  | .forced => none
  | .staff => none
  | .link => none

/-- The purpose is the carried return of that very contract (R48). -/
def ScanPurpose.isReturnOf (p : ScanPurpose) (number : Nat) : Bool :=
  match p with
  | .ret c _ => c == number
  | .pickup _ _ => false
  | .nothing => false
  | .forced => false
  | .staff => false
  | .link => false

/-- The purpose p of R46: from the entry, and for RELEASE from the compartment's current release. A RETURN
whose contract is not in RETURNING is taken as none. -/
def State.scanPurpose (s : State) (n : CompId) (carried : Carried) : ScanPurpose :=
  match carried with
  | .nothing => .nothing
  | .forced => .forced
  | .release =>
    match (s.comp n).release.map Release.purpose with
    | none => .nothing
    | some (.pickup c k) => .pickup c k
    | some (.ret c k) => if s.contractState c = some .returning then .ret c k else .nothing
    | some (.staff _) => .staff
    | some .link => .link

/-- The inputs of one reconciliation (R46): the compartment, the found list F, the contents Q before it,
the scan minute and the purpose. -/
structure ScanInput where
  comp : CompId
  found : List Nat
  before : List Item
  minute : Option Nat
  purpose : ScanPurpose
  deriving DecidableEq, Repr

/-! ### Step 1: keys no longer found (R47, R74) -/

/-- The handout of key `k` to a contract is complete (R47 case 1, R74): the contract goes from PICKING to
OUT, its code leaves the index, the key's location becomes OUT, and a claim kept on another entitled key
ends. That key is re-examined here, in step 1, and so before steps 2 to 9 (log 42, DESIGN CHOICE). -/
def State.handoutDone (s : State) (i : ScanInput) (number : Nat) (k : KeyId) : State :=
  match s.slotOf number with
  | none => s
  | some sl =>
    let s1 := (s.modifySlot sl fun c => { c with state := .out, handoutMinute := i.minute }).dropCode sl
    let s2 := s1.moveKey k (.out number)
    let s3 := s2.enter
      { kind := .handoutDone, minute := i.minute, comp := some i.comp, key := some k
        contract := some number }
    match (s.slot sl).map Contract.entitlement with
    | some (.specific e) => if e = k then s3 else s3.reexamine (i.minute.getD 0) e
    | _ => s3

/-- Step 1 for one key of Q whose tag is not in F, by the first case of R47 that applies. -/
def State.keyGone (s : State) (i : ScanInput) (k : KeyId) : State :=
  let missing := (s.moveKey k .missing).enter
    { kind := .keyMissing, minute := i.minute, comp := some i.comp, key := some k
      contract := i.purpose.contract? }
  let toStaff := (s.moveKey k .staffHand).enter
    { kind := .keyToStaff, minute := i.minute, comp := some i.comp, key := some k }
  match i.purpose with
  | .pickup c k' =>
    if k' = k ∧ s.contractState c = some .picking then s.handoutDone i c k else missing
  | .staff => toStaff
  | .link => toStaff
  | .ret _ _ => missing
  | .forced => missing
  | .nothing => missing

/-- A key's tag is in the found list. -/
def State.found (s : State) (i : ScanInput) (k : KeyId) : Bool :=
  (s.key k).any fun r => i.found.contains r.tag

/-- Step 1 (R47), in Q's order. -/
def State.step1 (s : State) (i : ScanInput) : State :=
  ((keysOf i.before).filter fun k => (s.key k).isSome && !s.found i k).foldl
    (fun s k => s.keyGone i k) s

/-! ### Step 2: known keys found (R48, R49) -/

/-- What step 2 remembers for the later steps: the keys whose contracts it closed, with the route (R53),
and the compartments that lost a key (R49). -/
structure FoundLog where
  closed : List (KeyId × Route)
  lost : List CompId
  deriving DecidableEq, Repr

/-- Step 2 for one found key, by its prior location (R48, R49). -/
def State.keyFound (s : State) (i : ScanInput) (log : FoundLog) (k : KeyId) : State × FoundLog :=
  match (s.key k).map KeyRecord.location with
  | none => (s, log)
  | some (.out c) =>
    if i.purpose.isReturnOf c then
      (((s.closeContract c .compartment i.minute (some i.comp)).moveKey k (.compartment i.comp)),
        { log with closed := log.closed ++ [(k, .compartment)] })
    else
      ((((s.closeContract c .stray i.minute (some i.comp)).cancelReturn c).moveKey k
          (.compartment i.comp)),
        { log with closed := log.closed ++ [(k, .stray)] })
  | some (.compartment m) =>
    if m = i.comp then (s, log)
    else
      (((s.moveKey k (.compartment i.comp)).requestSweep m).withdrawPromise k (some i.comp),
        { log with lost := log.lost ++ [m] })
  | some .drop => (s.moveKey k (.compartment i.comp), log)
  | some .staffHand => (s.moveKey k (.compartment i.comp), log)
  | some .missing => (s.moveKey k (.compartment i.comp), log)

/-- The enrolled keys of F, in read order. -/
def State.foundKeys (s : State) (found : List Nat) : List KeyId := found.filterMap s.keyOfTag

/-- Step 2 (R48, R49), in F's read order. -/
def State.step2 (s : State) (i : ScanInput) : State × FoundLog :=
  (s.foundKeys i.found).foldl (fun p k => p.1.keyFound i p.2 k) (s, ⟨[], []⟩)

/-! ### Steps 3 and 4: unknown tags and contents (R50) -/

/-- Step 3 (R50): a FOREIGN_TAG notice for each unknown tag that Q did not hold as a foreign item. -/
def State.step3 (s : State) (i : ScanInput) : State :=
  (i.found.filter fun t => (s.keyOfTag t).isNone && !i.before.contains (.foreign t)).foldl
    (fun s t => s.enter
      { kind := .foreignTag, minute := i.minute, comp := some i.comp, tag := some t }) s

/-- A found tag as an item: the enrolled key's index, or a foreign item (R50). -/
def State.itemOf (s : State) (t : Nat) : Item :=
  match s.keyOfTag t with
  | some k => .key k
  | none => .foreign t

/-- Step 4 (R50): the contents become the items of F in read order, marked known. -/
def State.step4 (s : State) (i : ScanInput) : State :=
  s.modifyComp i.comp fun c => { c with contents := i.found.map s.itemOf, known := true }

/-! ### Steps 5 to 7: the carried purpose and the clean-up (R51, R52) -/

/-- Step 5 (R51): a pickup that step 1 did not complete falls back with reason NOT_TAKEN. -/
def State.step5 (s : State) (i : ScanInput) : State :=
  match i.purpose with
  | .pickup c k => s.fallBack c k i.comp .notTaken
  | _ => s

/-- Step 6 (R51): a return that step 2 did not close fails with reason NOT_PLACED. -/
def State.step6 (s : State) (i : ScanInput) : State :=
  match i.purpose with
  | .ret c k => s.returnFailed c k i.comp .notPlaced
  | _ => s

/-- The key of a compartment's current release. -/
def State.releaseKey (s : State) (n : CompId) : Option KeyId :=
  (s.comp n).release.bind fun r => r.purpose.key?

/-- Step 7 (R52): clears any promise on the current release's key, the release and the reservation; the door
becomes LOCKED. -/
def State.step7 (s : State) (n : CompId) : State :=
  let s' := match s.releaseKey n with
    | some k => s.clearPromise k
    | none => s
  s'.modifyComp n fun c => { c with release := none, reservation := none, door := .locked }

/-! ### Steps 8 and 9: check marks and availability (R53) -/

/-- Step 8 (R53) for one key whose contract step 2 closed. -/
def State.markReturned (s : State) (k : KeyId) (route : Route) : State :=
  match s.key k with
  | none => s
  | some r =>
    if route = .stray ∨ (s.policy r.group).checkOnReturn then
      s.modifyKey k fun r => { r with mark := .unchecked }
    else s

/-- Step 8 (R53). -/
def State.step8 (s : State) (log : FoundLog) : State :=
  log.closed.foldl (fun s p => s.markReturned p.1 p.2) s

/-- Step 9 (R53): re-examines every key the reconciliation touched; `releaseKey` is the key of the release
that step 7 removed. -/
def State.step9 (s : State) (i : ScanInput) (log : FoundLog) (releaseKey : Option KeyId) : State :=
  let lost := log.lost.flatMap fun m => keysOf (s.comp m).contents
  s.reexamineAll (i.minute.getD 0)
    (keysOf i.before ++ s.foundKeys i.found ++ releaseKey.toList ++ lost)

/-- Reconciliation, taken whole (R46). -/
def State.reconcile (s : State) (i : ScanInput) : State :=
  let (s2, log) := (s.step1 i).step2 i
  ((((((s2.step3 i).step4 i).step5 i).step6 i).step7 i.comp).step8 log).step9 i log
    (s.releaseKey i.comp)

/-- The found list F as the reader reports it: at most four tag numbers, none twice (R43; log 10, DESIGN
CHOICE). -/
def foundList (tags : List Nat) : List Nat := (tags.reverse.dedup.reverse).take 4

/-- Compartment `n` is being read (R42). -/
def ScanEntry.reads (n : CompId) (e : ScanEntry) : Bool := e.reading && e.comp == n

/-- The completion of the read of compartment `n` (R43). When `n` is not being read, its read was abandoned by an
opening taken first, and the found list is discarded (R42, R43; log 14, DEDUCED). -/
def State.completeRead (s : State) (n : CompId) (tags : List Nat) : State :=
  match s.scanner.list.find? (·.reads n) with
  | none => s
  | some e =>
    let s1 := s.withdrawEntry e.comp
    s1.reconcile
      { comp := e.comp, found := foundList tags, before := (s.comp e.comp).contents
        minute := s.present, purpose := s1.scanPurpose e.comp e.carried }

end Sys2Proof.Machine
end

