-- ==== Sys2Proof/Machine/DropBox.lean ====
section
/-! DEFINITION. The drop box (Chapter 6): chute reads, a full list, and the emptying of the box. -/

namespace Sys2Proof.Machine

/-! ### Emptying (R108) -/

/-- Why the box was emptied, as detail A of DROP_EMPTIED (R108). -/
inductive EmptyReason where | staffDoor | message | start
  deriving DecidableEq, Repr

def EmptyReason.code : EmptyReason → Nat | .staffDoor => 0 | .message => 1 | .start => 2

/-- A dropped key goes from DROP to STAFF_HAND (R108). -/
def State.takeFromDrop (s : State) (k : KeyId) : State :=
  s.modifyKey k fun r => if r.location = .drop then { r with location := .staffHand } else r

/-- Empties the drop list: every key goes to STAFF_HAND, oldest first, every entry is removed, and the flap
is recomputed (R108). -/
def State.clearDrop (s : State) : State :=
  let s' := (s.drop.entries.filterMap DropEntry.key).foldl State.takeFromDrop s
  (s'.withDrop { s'.drop with entries := [] }).recomputeFlap

/-- The DROP_EMPTIED notice for `count` entries removed (R108). -/
def State.enterEmptied (s : State) (reason : EmptyReason) (count : Nat) : State :=
  s.enter { kind := .dropEmptied, minute := s.present, detailA := reason.code, detailB := count }

/-- Empties the drop list with its notice (R108). -/
def State.emptyDrop (s : State) (reason : EmptyReason) : State :=
  s.clearDrop.enterEmptied reason s.drop.entries.length

/-! ### Chute reads (R103-R107) -/

/-- A DROP_FOREIGN notice (R106): reason 0 UNKNOWN_TAG, 1 UNREAD, 2 FLAP_LOCKED. -/
def State.enterForeign (s : State) (minute : Option Nat) (tag : Option Nat) (reason : Nat) : State :=
  s.enter
    { kind := .dropForeign, minute := minute, tag := tag, detailA := reason
      detailB := s.drop.entries.length }

/-- The DROP_FULL notice of an entry that brought the count to 48 (R107). -/
def State.enterFull (s : State) (minute : Option Nat) : State :=
  if s.drop.entries.length = 48 then
    s.enter { kind := .dropFull, minute := minute, detailB := 48 }
  else s

/-- The key's location becomes DROP and its check mark UNCHECKED (R104, R105). -/
def State.keyDropped (s : State) (k : KeyId) : State :=
  (s.moveKey k .drop).modifyKey k fun r => { r with mark := .unchecked }

/-- A drop return of an open contract, after its entry is appended (R104). -/
def State.dropReturn (s : State) (k : KeyId) (number : Nat) (minute : Option Nat) : State :=
  (((s.closeContract number .drop minute none).cancelReturn number).keyDropped k).reexamine s.joinMinute
    k

/-- A chute read of a key in any other location, after its entry is appended (R105): a key that leaves a
compartment leaves a SWEEP request there, its promise is withdrawn, and the keys still in the compartment
are re-examined with the key itself. -/
def State.dropOther (s : State) (k : KeyId) (loc : Location) : State :=
  let s1 := s.keyDropped k
  match loc with
  | .compartment m =>
    let s2 := (s1.requestSweep m).withdrawPromise k none
    s2.reexamineAll s.joinMinute (k :: keysOf (s2.comp m).contents)
  | .out _ => s1
  | .drop => s1
  | .staffHand => s1
  | .missing => s1

/-- A chute read of an enrolled key: its entry, then R104 or R105. -/
def State.dropKey (s : State) (tag : Nat) (k : KeyId) (minute : Option Nat) : State :=
  match (s.key k).map KeyRecord.location with
  | none => s
  | some (.out c) =>
    (s.appendDrop { tag := some tag, key := some k, minute := minute, contract := some c }).dropReturn
      k c minute
  | some loc =>
    (s.appendDrop { tag := some tag, key := some k, minute := minute, contract := none }).dropOther
      k loc

/-- A chute read, in the first case of R103 that applies. The DROP_FULL notice is the event's last: R104 puts
it after RETURN_DONE, and the model puts it after the notices of a pickup cancelled by the read too (log 39,
DESIGN CHOICE). -/
def State.chute (s : State) (tag : Option Nat) : State :=
  let minute := s.present
  if s.drop.flap = .locked then s.enterForeign minute tag 2
  else match tag with
    | none =>
      ((s.appendDrop { tag := none, key := none, minute := minute, contract := none }).enterForeign
        minute none 1).enterFull minute
    | some t =>
      if s.drop.entries.any fun e => e.tag == some t then s
      else match s.keyOfTag t with
        | none =>
          ((s.appendDrop
            { tag := some t, key := none, minute := minute, contract := none }).enterForeign minute
              (some t) 0).enterFull minute
        | some k => (s.dropKey t k minute).enterFull minute

end Sys2Proof.Machine
end

