-- ==== Sys2Proof/Machine/Start.lean ====
section
/-! DEFINITION. Starts (R186): cold and warm, by power and by message, each taken whole in one event. -/

namespace Sys2Proof.Machine

/-! ### Step 1: ending what was in flight (R186 step 1, R178) -/

/-- A compartment with its timers stopped and no release or reservation (R39). -/
def Compartment.atRest (c : Compartment) : Compartment :=
  { c with reservation := none, release := none, window := none, hold := none }

/-- Every timer stops, every latch turns off, the pager contact opens, the scans are abandoned, the store
and the link return to rest (R186 step 1, R55, R130, R178). -/
def State.endFlight (s : State) : State :=
  { s with
    compartments :=
      { table := s.compartments.table.map Compartment.atRest, queue := [], channel1 := none
        channel2 := none }
    scanner := { list := [], sweeping := false }
    overdue := { s.overdue with
      scan := { s.overdue.scan with scanning := false, nextSlot := 0, pendingStart := none } }
    notices := { s.notices with pager := none }
    store := { s.store with busy := false, staging := none }
    link := { s.link with
      receiver := .hunt, idle := none, error := false, replies := [], tx := .idle }
    timeBase := { s.timeBase with once := false, ticks := 0 }
    startPending := none }

/-! ### Step 2: the branch store (R179) -/

/-- The working copy a start takes of a record: as stored, or the default of a damaged one (R179). -/
def Stored.taken {α : Type} (r : Stored α) (default : α) : Working α :=
  if r.sound then ⟨r.contents, false⟩ else ⟨default, true⟩

/-- The working copies a start builds (R179). -/
def StoredRecords.takenAll (r : StoredRecords) : WorkingRecords :=
  { profile := r.profile.taken .default
    groups := r.groups.map fun g => g.taken .default
    panels := r.panels.map fun p => p.taken .default
    alert := r.alert.taken CauseSetting.defaults
    badges := r.badges.map fun b => b.taken none }

/-- The class and number of each damaged record, in class order and by number (R179, R186 step 6). -/
def StoredRecords.damaged (r : StoredRecords) : List (Nat × Nat) :=
  (if r.profile.sound then [] else [(0, 0)])
    ++ (r.groups.places fun g => !g.sound).map (fun i => (1, i.val))
    ++ (r.panels.places fun p => !p.sound).map (fun i => (2, i.val + 1))
    ++ (if r.alert.sound then [] else [(3, 0)])
    ++ (r.badges.places fun b => !b.sound).map (fun i => (4, i.val))

/-- The working copies are built and handed out; N and the line's rate are taken (R168, R179, R183). -/
def State.readStore (s : State) : State :=
  let w := s.store.stored.takenAll
  { s with
    store := { s.store with working := w }
    timeBase := { s.timeBase with divisor := w.profile.value.divisor }
    link := { s.link with speed := w.profile.value.speed, lineDivisor := w.profile.value.divisor } }

/-! ### Step 3: the operational tables -/

/-- The tables of a cold start (R15, R83, R112, R167, R116, R141, R38). -/
def State.emptyTables (s : State) : State :=
  { s with
    keys := { places := .replicate 384 none, lists := .replicate 16 [] }
    contracts := { slots := .replicate 512 none, codes := [] }
    drop := { s.drop with entries := [] }
    notices := { s.notices with ring := [], nextSeq := 0, overflow := false }
    overdue := { s.overdue with clock := .notSet, value := 0, forecast := Forecast.cold }
    compartments := { s.compartments with table := .replicate 192 Compartment.cold } }

/-- A contract rolled back by a warm start (R83). -/
def Contract.rollBack (c : Contract) : Contract :=
  match c.state with
  | .picking => { c with state := .ticket, key := none, grantedGroup := none }
  | .returning => { c with state := .out }
  | .ticket => c
  | .suspended => c
  | .out => c
  | .closed => c
  | .lapsed => c
  | .void => c

/-- The tables of a warm start: kept, with what was in flight rolled back (R15, R39, R83, R116, R141). -/
def State.rollBackTables (s : State) : State :=
  { s with
    keys :=
      { places := s.keys.places.map (Option.map fun r => { r with promisedTo := none })
        lists := .replicate 16 [] }
    contracts := { s.contracts with slots := s.contracts.slots.map (Option.map Contract.rollBack) }
    overdue := { s.overdue with
      clock := .stale, forecast := { s.overdue.forecast with stale := true } }
    compartments := { s.compartments with
      table := s.compartments.table.map fun c => { c with known := false } } }

/-! ### Step 4: mode and field -/

/-- A compartment as its door switch is read at a start: UNKNOWN when closed, OPEN with a fresh hold when
open (R38, R39). -/
def Compartment.fromPin (hold : Nat) (c : Compartment) (isOpen : Bool) : Compartment :=
  if isOpen then { c with door := .opened, hold := some (seconds hold) }
  else { c with door := .unknown }

/-- The mode takes the mode at start, the kiosk its start values, and the door switches are read (R147, R100,
R38, R39). -/
def State.readField (s : State) : State :=
  let profile := s.store.working.profile.value
  { s with
    mode := profile.modeAtStart
    kiosk := { Kiosk.start with
      prompt := if profile.modeAtStart = .lockdown then .outOfService else .welcome }
    compartments := { s.compartments with
      table := s.compartments.table.zipWith (Compartment.fromPin profile.hold) s.doorPins } }

/-- The staff-door switch is read and the flap computed (R112): a door kept OPEN across a warm start and
found closed empties the list, without its notice yet. -/
def State.readStaffDoor (cold : Bool) (s : State) : State :=
  let door : StaffDoor := if s.staffDoorPin then .opened else .closed
  let s' := s.withDrop { s.drop with staffDoor := door }
  if cold = false ∧ s.drop.staffDoor = .opened ∧ door = .closed then s'.clearDrop else s'.recomputeFlap

/-- A warm start finds the staff door closed after it was kept open (R112). -/
def State.visitEnded (cold : Bool) (s : State) : Bool :=
  !cold && s.drop.staffDoor == .opened && !s.staffDoorPin

/-! ### Step 5: the start sweep (R44, R55) -/

/-- A SWEEP entry for each compartment found closed, in number order, the flag set, and the first read
begun. -/
def State.startSweep (s : State) : State :=
  (s.withScanner
    { list := (s.doorPins.places fun isOpen => !isOpen).map fun n => ⟨n, .sweep, .nothing, false⟩
      sweeping := true }).startRead

/-! ### Step 6: notices -/

/-- The START notice, then a STORE_DAMAGED for each damaged record (R186 step 6). -/
def State.startNotices (cold byMessage : Bool) (s : State) : State :=
  let s' := s.enter
    { kind := .start, minute := s.present, detailA := if cold then 0 else 1
      detailB := if byMessage then 1 else 0 }
  s'.store.stored.damaged.foldl
    (fun s d => s.enter
      { kind := .storeDamaged, minute := s.present, detailA := d.1, detailB := d.2 }) s'

/-! ### Step 7: causes -/

/-- The notice unit's and the last reported cause's start values (R167), before the causes are brought in. -/
def State.clearCauses (s : State) : State :=
  { s with
    notices := { s.notices with pending := [], callLatch := false, beacon := .off, pager := none }
    link := { s.link with lastReported := none, mark := false } }

/-- A start, cold or warm, by power or by message, in the order of R186. -/
def State.start (cold byMessage : Bool) (s : State) : State :=
  let s2 := s.endFlight.readStore
  let s3 := if cold then s2.emptyTables else s2.rollBackTables
  let s4 := (s3.readField).readStaffDoor cold
  let s5 := (s4.startSweep).startNotices cold byMessage
  let s6 := if s3.visitEnded cold then s5.enterEmptied .start s3.drop.entries.length else s5
  (s6.sweepCheck.clearCauses.attend).transmit false

/-! ### Power (R182, R186) -/

/-- The record named by the staging record is left damaged in the store (R182). -/
def StoredRecords.damage (r : StoredRecords) : StoreRecord → StoredRecords
  | .profile _ => { r with profile := { r.profile with sound := false } }
  | .group g _ => { r with groups := r.groups.modify g fun x => { x with sound := false } }
  | .panel n _ => { r with panels := r.panels.modify n fun x => { x with sound := false } }
  | .alert _ => { r with alert := { r.alert with sound := false } }
  | .badge p _ => { r with badges := r.badges.modify p fun x => { x with sound := false } }

/-- Power fails: activity stops, and a store write in flight has no completion and leaves its record damaged
(R182). The backed-up records keep the state of the last whole event. -/
def State.losePower (s : State) : State :=
  let s' := s.withPowered false
  match s.store.busy, s.store.staging with
  | true, some r =>
    s'.withStore { s.store with
      stored := s.store.stored.damage r, busy := false, staging := none }
  | _, _ => s'

/-- Power comes up: a warm start, or a cold one when the retention monitor reports backup lost (R186). A
part that still had power has lost it first (log 4, DESIGN CHOICE). -/
def State.power (s : State) (backupLost : Bool) : State :=
  let s' := if s.powered then s.losePower else s
  (s'.withPowered true).start backupLost false

end Sys2Proof.Machine
end

