-- ==== Sys2Proof/Machine/Request.lean ====
section
/-! DEFINITION. Requests and replies (R171-R174): what every link request has in common, from the end of its
frame to its reply in the reply queue. Each request's own entry is a handler, in the file of its family. -/

namespace Sys2Proof.Machine

/-! ### Handlers -/

/-- What the owning block answers when it takes a request: the status, the reply's data after the status
byte, what the end of the reply's sending brings about, and the state the request leaves. -/
structure Taken where
  status : Status := .ok
  data : List Byte := []
  effect : ReplyEffect := .nothing
  state : State
  deriving DecidableEq, Repr

/-- A request's entry: a refusal, which changes no record, or what is taken (R172). -/
abbrev Handler : Type := State → Except Status Taken

/-- The first check of every entry: the body's length (R172 step 5). -/
def expectLength (body : List Byte) (n : Nat) (h : Handler) : Handler := fun s =>
  if body.length = n then h s else .error .badFormat

/-- Ends an event that moved a cause, before its reply is built (R160). -/
def State.concluded (s : State) : State := s.scanStep.attend

/-! ### The receiver's part (R170-R172) -/

/-- The receiver has no frame under assembly and its idle timer is stopped (R170). -/
def State.frameEnd (s : State) : State := s.withLink { s.link with receiver := .hunt, idle := none }

/-- A frame is discarded: the receiver hunts and the link-error flag is set (R170, R171). -/
def State.discard (s : State) : State :=
  s.withLink { s.link with receiver := .hunt, idle := none, error := true }

/-- A reply joins the tail of the reply queue (R173), and an idle transmitter begins a frame (R175). -/
def State.pushReply (s : State) (r : Reply) : State :=
  (s.withLink { s.link with replies := s.link.replies ++ [r] }).transmit false

/-- The reply to a taken request (R172). -/
def Taken.reply (t : Taken) (kind tg : Byte) : Reply :=
  { kind := kind, tag := tg, body := byte t.status.code :: t.data, effect := t.effect }

/-- The reply to a refused request: the status byte alone (R172). -/
def refusal (e : Status) (kind tg : Byte) : Reply :=
  { kind := kind, tag := tg, body := [byte e.code], effect := .nothing }

/-- A sound frame's TAG and the reply queue's room are examined, then the entry takes or refuses the request
and its reply joins the queue (R172 steps 2, 3 and 5, R173). -/
def State.deliver (s : State) (replyKind tg : Byte) (h : Handler) : State :=
  if tg = 0 ∨ 4 ≤ s.link.replies.length then s.discard
  else match h s.frameEnd with
    | .ok t => t.state.pushReply (t.reply replyKind tg)
    | .error e => s.frameEnd.pushReply (refusal e replyKind tg)

/-- The completion of a request frame of a kind (R172): its reply's kind is the request's plus 80h. -/
def State.request (s : State) (kind tg : Byte) (h : Handler) : Host.Outcome State Fault Refusal :=
  s.taken (s.deliver (kind + 0x80) tg h)

/-! ### Fields of requests (R176) -/

/-- A compartment number in one byte: 0 or above 192 is BAD_VALUE (R33). -/
def compField (body : List Byte) (off : Nat) : Except Status CompId :=
  match compOfNumber (field body off 1) with
  | some n => .ok n
  | none => .error .badValue

/-- A key index that names an enrolled key, or NOT_FOUND. -/
def State.keyField (s : State) (body : List Byte) (off : Nat) : Except Status (KeyId × KeyRecord) :=
  match indexOf 384 (field body off 2) with
  | none => .error .notFound
  | some k => match s.key k with
    | some r => .ok (k, r)
    | none => .error .notFound

/-- A contract number that an occupied slot holds, or NOT_FOUND. -/
def State.contractField (s : State) (body : List Byte) (off : Nat) : Except Status (Slot × Contract) :=
  match s.slotOf (field body off 4) with
  | none => .error .notFound
  | some sl => match s.slot sl with
    | some c => .ok (sl, c)
    | none => .error .notFound

/-- An optional field of a request with its present byte at `off` and a greatest value: the outer `none` is
BAD_VALUE (R60, R176). -/
def optRequest (body : List Byte) (off len most : Nat) : Option (Option Nat) :=
  match field body off 1 with
  | 0 => some none
  | 1 => if field body (off + 1) len ≤ most then some (some (field body (off + 1) len)) else none
  | _ => none

end Sys2Proof.Machine
end

