-- ==== Sys2Proof/Machine/Cabinet.lean ====
section
/-! DEFINITION. The compartment messages, RESCAN, and the cabinet's own events: doors, their timers, and the
scanner's completion (R23-R31, R34-R37, R43, R54). -/

namespace Sys2Proof.Machine

/-! ### OPEN and CANCEL_RELEASE (R34, R35) -/

def openHandler (body : List Byte) : Handler := expectLength body 1 fun s =>
  match compField body 0 with
  | .error e => .error e
  | .ok n => match s.requestRelease n ⟨.link, .link⟩ with
    | .error e => .error e
    | .ok s' => .ok { status := .accepted, data := [byte (s'.queuePosition n)], state := s' }

/-- CANCEL_RELEASE's reply: the cancelled release's purpose and origin (R35). -/
def purposeBytes : Option Release → List Byte
  | some r => [byte r.purpose.code, byte r.origin.code]
  | none => [0, 0]

def cancelReleaseHandler (body : List Byte) : Handler := expectLength body 1 fun s =>
  match compField body 0 with
  | .error e => .error e
  | .ok n => match s.cancelRelease n with
    | none => .error .wrongState
    | some s' => .ok { data := purposeBytes (s.comp n).release, state := s'.concluded }

/-! ### SERVICE (R31, R36) -/

/-- A door state that allows a change of service (R31). -/
def DoorState.allowsService : DoorState → Bool
  | .locked => true
  | .unknown => true
  | .waiting => false
  | .unlatched => false
  | .opened => false
  | .leftOpen => false
  | .forcedOpen => false
  | .scanning => false

/-- A compartment is taken out of service and its keys are re-examined (R31). -/
def State.outOfService (s : State) (n : CompId) : State :=
  match (s.comp n).service with
  | .outOfService => s
  | .inService =>
    (s.modifyComp n fun c => { c with service := .outOfService }).reexamineAll s.joinMinute
      (keysOf (s.comp n).contents)

/-- A compartment is put back in service and queued for a SWEEP scan; its keys rejoin their lists when that scan
completes (R31), and not in this event, in which section 1.4.1 would have them re-examined (log 28, DEDUCED). -/
def State.backInService (s : State) (n : CompId) : State :=
  match (s.comp n).service with
  | .inService => s
  | .outOfService => (s.modifyComp n fun c => { c with service := .inService }).requestSweep n

def serviceHandler (body : List Byte) : Handler := expectLength body 2 fun s =>
  match compField body 0 with
  | .error e => .error e
  | .ok n => match yesNo (field body 1 1) with
    | none => .error .badValue
    | some out =>
      if (s.comp n).door.allowsService then
        .ok { state := (if out then s.outOfService n else s.backInService n).concluded }
      else .error .wrongState

/-! ### COMPARTMENT_QUERY (R37) -/

/-- Seconds left of a timer, rounded up (R37). -/
def secondsLeft (ticks : Option Nat) : Nat := (ticks.getD 0 + 999) / 1000

/-- The timer COMPARTMENT_QUERY reports: the window in UNLATCHED, the hold in OPEN (R37). -/
def Compartment.timerLeft (c : Compartment) : Nat :=
  match c.door with
  | .unlatched => secondsLeft c.window
  | .opened => secondsLeft c.hold
  | .locked => 0
  | .waiting => 0
  | .leftOpen => 0
  | .forcedOpen => 0
  | .scanning => 0
  | .unknown => 0

/-- The class of a compartment's scan list entry: 0 none, 1 DOOR, 2 SWEEP (R37). -/
def State.scanCode (s : State) (n : CompId) : Nat :=
  match s.scanner.list.find? fun e => e.comp == n with
  | none => 0
  | some e => match e.cls with
    | .door => 1
    | .sweep => 2

/-- The 54 bytes of COMPARTMENT_QUERY after the status byte (R37). -/
def State.compBytes (s : State) (n : CompId) : List Byte :=
  let c := s.comp n
  [byte (compNumber n), byte ((panelOf n).val + 1), byte c.door.code, byte c.service.code,
    flagByte c.known, flagByte c.forced, byte c.contents.length]
    ++ itemsBytes c.contents ++ optBytes 4 c.reservation ++ releaseBytes c.release
    ++ [byte (s.channelOf n), byte (s.queuePosition n)] ++ toBytes 2 c.timerLeft
    ++ [byte (s.scanCode n)]

def compartmentQueryHandler (body : List Byte) : Handler := expectLength body 1 fun s =>
  match compField body 0 with
  | .error e => .error e
  | .ok n => .ok { data := s.compBytes n, state := s }

/-! ### RESCAN (R44, R54) -/

/-- The compartments that hold no scan list entry, in number order. -/
def State.unlisted (s : State) : List CompId :=
  (fins 192).filter fun n => !s.scanner.holds n

/-- A sweep is started: a SWEEP request for each compartment in number order, and the flag set (R44). -/
def State.sweepAll (s : State) : State :=
  let s' := s.unlisted.foldl State.requestSweep s
  s'.withScanner { s'.scanner with sweeping := true }

def rescanHandler (body : List Byte) : Handler := expectLength body 1 fun s =>
  if field body 0 1 = 0xFF then
    .ok { status := .accepted, data := [byte s.unlisted.length], state := s.sweepAll.concluded }
  else match compField body 0 with
    | .error e => .error e
    | .ok n =>
      if (s.comp n).door.allowsService then
        .ok
          { status := .accepted, data := [if s.scanner.holds n then 0 else 1]
            state := (s.requestSweep n).concluded }
      else .error .wrongState

/-! ### Door events (R23, R25, R27-R29) -/

/-- A door opened in UNLATCHED: an opening under its release (R23). -/
def State.openUnder (s : State) (n : CompId) : State :=
  let s1 := (s.freeChannel n).modifyComp n fun c =>
    { c with door := .opened, hold := some (seconds s.store.working.profile.value.hold) }
  match (s.comp n).release with
  | some r => s1.arbitrate.tellOpened n r
  | none => s1.arbitrate

/-- A forced opening: FORCED_OPEN, the flag and the notice; a scan list entry of a compartment in SCANNING or
UNKNOWN is withdrawn, a request in WAITING leaves the queue and its release ends CANCELLED (R25, R26). -/
def State.forceOpen (s : State) (n : CompId) : State :=
  let c := s.comp n
  let s1 := (s.modifyComp n fun c => { c with door := .forcedOpen, forced := true }).enter
    { kind := .forcedDoor, minute := s.present, comp := some n
      contract := c.release.bind fun r => r.purpose.contract? }
  match c.door with
  | .waiting =>
    (s1.withCompartments { s1.compartments with
      queue := s1.compartments.queue.filter (· != n) }).endRelease n .cancelled
  | .scanning => s1.withdrawEntry n
  | .unknown => s1.withdrawEntry n
  | .locked => s1
  | .unlatched => s1
  | .opened => s1
  | .leftOpen => s1
  | .forcedOpen => s1

/-- A door-opened event, by the door state (R23, R25, R29). -/
def State.doorOpened (s : State) (n : CompId) : State :=
  match (s.comp n).door with
  | .unlatched => (s.openUnder n).finish
  | .locked => (s.forceOpen n).finish
  | .waiting => (s.forceOpen n).finish
  | .scanning => (s.forceOpen n).finish
  | .unknown => (s.forceOpen n).finish
  | .opened => s
  | .leftOpen => s
  | .forcedOpen => s

/-- The purpose a closing carries (R28). -/
def Compartment.carriedAtClosing (c : Compartment) : Carried :=
  match c.release with
  | some _ => .release
  | none => if c.door = .forcedOpen then .forced else .nothing

/-- A closing: SCANNING, the hold stopped, a DOOR request (R28). -/
def State.closeDoor (s : State) (n : CompId) : State :=
  (s.modifyComp n fun c => { c with door := .scanning, hold := none }).requestDoor n
    (s.comp n).carriedAtClosing

/-- A door-closed event, by the door state (R28, R29). -/
def State.doorClosed (s : State) (n : CompId) : State :=
  match (s.comp n).door with
  | .opened => (s.closeDoor n).finish
  | .leftOpen => (s.closeDoor n).finish
  | .forcedOpen => (s.closeDoor n).finish
  | .locked => s
  | .waiting => s
  | .unlatched => s
  | .scanning => s
  | .unknown => s

/-- The window of a compartment in UNLATCHED runs out (R24). -/
def State.expireWindow (s : State) (n : CompId) : State :=
  let s1 := (s.freeChannel n).modifyComp n fun c => { c with door := s.lockedDoor n }
  (s1.arbitrate.endRelease n .expired).finish

/-- The hold of a compartment in OPEN runs out (R27). -/
def State.expireHold (s : State) (n : CompId) : State :=
  let c := s.comp n
  ((s.modifyComp n fun c => { c with door := .leftOpen, hold := none }).enter
    { kind := .doorLeftOpen, minute := s.present, comp := some n
      key := c.release.bind fun r => r.purpose.key?
      contract := c.release.bind fun r => r.purpose.contract? }).settle

/-- A door switch takes a position, with or without power (log 4, DESIGN CHOICE). -/
def State.movePin (s : State) (n : CompId) (isOpen : Bool) : State :=
  s.withDoorPins (s.doorPins.set n isOpen)

/-! ### The commands -/

def execOpen (tg : Byte) (body : List Byte) (s : State) : Host.Outcome State Fault Refusal :=
  s.request 0x30 tg (openHandler body)

def execCancelRelease (tg : Byte) (body : List Byte) (s : State) : Host.Outcome State Fault Refusal :=
  s.request 0x31 tg (cancelReleaseHandler body)

def execService (tg : Byte) (body : List Byte) (s : State) : Host.Outcome State Fault Refusal :=
  s.request 0x32 tg (serviceHandler body)

def execCompartmentQuery (tg : Byte) (body : List Byte) (s : State) :
    Host.Outcome State Fault Refusal :=
  s.request 0x33 tg (compartmentQueryHandler body)

def execRescan (tg : Byte) (body : List Byte) (s : State) : Host.Outcome State Fault Refusal :=
  s.request 0x34 tg (rescanHandler body)

def execDoorOpened (n : CompId) (s : State) : Host.Outcome State Fault Refusal :=
  let s' := s.movePin n true
  s'.taken (s'.doorOpened n)

def execDoorClosed (n : CompId) (s : State) : Host.Outcome State Fault Refusal :=
  let s' := s.movePin n false
  s'.taken (s'.doorClosed n)

/-- Without effect unless the compartment is UNLATCHED (section 2.5.1; log 9, DESIGN CHOICE); in UNLATCHED it is the
window's end, whatever ticks are left (log 44, DESIGN CHOICE). -/
def execWindowExpiry (n : CompId) (s : State) : Host.Outcome State Fault Refusal :=
  s.taken (if (s.comp n).door = .unlatched then s.expireWindow n else s)

/-- Without effect unless the compartment is OPEN (section 2.5.1; log 9, DESIGN CHOICE); in OPEN it is the hold's
end, whatever ticks are left (log 44, DESIGN CHOICE). -/
def execHoldExpiry (n : CompId) (s : State) : Host.Outcome State Fault Refusal :=
  s.taken (if (s.comp n).door = .opened then s.expireHold n else s)

/-- Without effect when the compartment is not being read: its read was abandoned and the found list is discarded
(R42, R43; log 14, DEDUCED). -/
def execScanCompletion (found : ReadResult) (s : State) : Host.Outcome State Fault Refusal :=
  s.taken
    (if s.scanner.list.any (·.reads found.comp) then (s.completeRead found.comp found.tags).finish else s)

end Sys2Proof.Machine
end

