-- ==== Sys2Proof/Machine/Contracts.lean ====
section
/-! DEFINITION. The contract messages (sections 4.3, 4.4, 4.7, 4.8; R60-R69, R80-R82). -/

namespace Sys2Proof.Machine

/-! ### ISSUE (R61) -/

/-- The entitlement of an ISSUE body: the outer `none` is BAD_VALUE, the inner one a SPECIFIC key index above
383 (R57, R60, R61). -/
def bookingEntitlement (body : List Byte) : Option (Option Entitlement) :=
  match field body 4 1 with
  | 0 => some ((indexOf 384 (field body 5 2)).map .specific)
  | 1 => (classEntitlement body 5).map some
  | _ => none

/-- The window end is not before the window start, nor the due minute (R61, R62). -/
def datesOk (start stop : Option Nat) (due : Nat) : Bool :=
  start.all fun w => stop.all (fun e => w ≤ e) && w ≤ due

/-- A ticket as ISSUE makes it (R61). -/
def ticketOf (number : Nat) (ent : Entitlement) (code start stop : Option Nat) (due : Nat)
    (grace : Option Nat) : Contract :=
  { number := number, state := .ticket, entitlement := ent, code := code, windowStart := start
    windowEnd := stop, due := due, grace := grace, key := none, grantedGroup := none
    handoutMinute := none, returnMinute := none, route := none, tier := .none, reminderBase := 0
    attempts := 0, lateHours := none }

/-- What a well-valued ISSUE body asks for; a SPECIFIC key index above 383 leaves no ticket (R61 check 1). -/
def bookingOf (body : List Byte) : Option (Option Contract) :=
  match bookingEntitlement body, optRequest body 10 3 999999, optRequest body 14 4 lastMinute,
      optRequest body 19 4 lastMinute, optRequest body 28 2 720 with
  | some ent, some code, some start, some stop, some grace =>
    if field body 0 4 = 0 ∨ datesOk start stop (field body 24 4) = false then none
    else some (ent.map fun e => ticketOf (field body 0 4) e code start stop (field body 24 4) grace)
  | _, _, _, _, _ => none

/-- The entitled key of a SPECIFIC entitlement. -/
def Entitlement.key? : Entitlement → Option KeyId
  | .specific k => some k
  | .cls .. => none

/-- The key of a SPECIFIC entitlement is re-examined (R5, R57). -/
def State.reexamineClaim (s : State) (e : Entitlement) : State :=
  match e.key? with
  | some k => s.reexamine s.joinMinute k
  | none => s

/-- A ticket enters a free slot: its code enters the index and its claim begins (R61). -/
def State.issue (s : State) (sl : Slot) (c : Contract) : State :=
  ((s.withContracts { s.contracts with slots := s.contracts.slots.set sl (some c) }).addCode sl
    c.code).reexamineClaim c.entitlement

def issueHandler (body : List Byte) : Handler := expectLength body 31 fun s =>
  match bookingOf body with
  | none => .error .badValue
  | some none => .error .notFound
  | some (some c) =>
    if c.entitlement.key?.any fun k => (s.key k).isNone then .error .notFound
    else if (s.slotOf c.number).isSome
        ∨ (c.code.any fun x => (s.contracts.codeSlot x).isSome) then .error .codeInUse
    else if c.entitlement.key?.any s.named then .error .keyClaimed
    else match s.contracts.slots.find Option.isNone with
      | none => .error .tableFull
      | some sl => .ok { data := toBytes 2 sl.val, state := s.issue sl c }

/-! ### AMEND (R62, R63, R128) -/

/-- A changeable optional field of AMEND, its change byte at `off`: the outer `none` is BAD_VALUE, the next
one leaves the field as it is (R62). -/
def amendOptional (body : List Byte) (off len most : Nat) : Option (Option (Option Nat)) :=
  match field body off 1 with
  | 0 => some none
  | 1 => (optRequest body (off + 1) len most).map some
  | _ => none

/-- The due minute of AMEND, its change byte at `off`. -/
def amendDue (body : List Byte) (off : Nat) : Option (Option Nat) :=
  match field body off 1 with
  | 0 => some none
  | 1 => some (some (field body (off + 1) 4))
  | _ => none

/-- The changes an AMEND body asks for: `none` leaves a field as it is. -/
structure Amendment where
  code : Option (Option Nat)
  start : Option (Option Nat)
  stop : Option (Option Nat)
  due : Option Nat
  grace : Option (Option Nat)
  deriving DecidableEq, Repr

/-- The changes of a well-valued AMEND body (R62 check 1). -/
def amendmentOf (body : List Byte) : Option Amendment :=
  match amendOptional body 4 3 999999, amendOptional body 9 4 lastMinute,
      amendOptional body 15 4 lastMinute, amendDue body 21, amendOptional body 26 2 720 with
  | some code, some start, some stop, some due, some grace =>
    some { code := code, start := start, stop := stop, due := due, grace := grace }
  | _, _, _, _, _ => none

/-- The contract's state does not allow the changes (R62 check 3). -/
def Amendment.wrongState (a : Amendment) (st : ContractState) : Bool :=
  match st with
  | .ticket => a.grace.isSome
  | .suspended => a.grace.isSome
  | .out => a.code.isSome || a.start.isSome || a.stop.isSome
  | .returning => a.code.isSome || a.start.isSome || a.stop.isSome
  | .picking => true
  | .closed => true
  | .lapsed => true
  | .void => true

/-- The contract with the changes made (R62). -/
def Amendment.applyTo (a : Amendment) (c : Contract) : Contract :=
  { c with
    code := a.code.getD c.code, windowStart := a.start.getD c.windowStart
    windowEnd := a.stop.getD c.windowEnd, due := a.due.getD c.due, grace := a.grace.getD c.grace }

/-- A new code is in the index for another contract (R62 check 5). -/
def State.codeTaken (s : State) (sl : Slot) (code : Option (Option Nat)) : Bool :=
  code.any fun c => c.any fun x => (s.contracts.codeSlot x).any (· != sl)

/-- A changed code replaces the old one in the index (R62). -/
def State.changeCode (s : State) (sl : Slot) (code : Option (Option Nat)) : State :=
  match code with
  | none => s
  | some c => (s.dropCode sl).addCode sl c

/-- A changed due minute of an open contract resets its standing to the computed tier at minute `m`; a rise
enters TIER_RAISED (R63, R128). -/
def State.resetTier (s : State) (sl : Slot) (m : Nat) : State :=
  match s.slot sl with
  | none => s
  | some c =>
    let p := s.policyOf c
    let new := computedTier p c m
    let s' := s.modifySlot sl fun c => { c with tier := new, reminderBase := m }
    if c.tier.code < new.code then s'.enterRaised m c c.tier new (lateHours p c m) else s'

/-- Every change of an AMEND, in one event (R62, R63). -/
def State.amend (s : State) (sl : Slot) (c : Contract) (a : Amendment) : State :=
  let s' := (s.modifySlot sl a.applyTo).changeCode sl a.code
  if c.isOpen ∧ a.due.isSome then s'.resetTier sl s.joinMinute else s'

/-- AMEND's reply: the contract's state and stored tier after the change (R62). -/
def State.standing (s : State) (sl : Slot) : List Byte :=
  match s.slot sl with
  | some c => [byte c.state.code, byte c.tier.code]
  | none => [0, 0]

def amendHandler (body : List Byte) : Handler := expectLength body 30 fun s =>
  match amendmentOf body with
  | none => .error .badValue
  | some a => match s.contractField body 0 with
    | .error e => .error e
    | .ok (sl, c) =>
      let c' := a.applyTo c
      if a.wrongState c.state then .error .wrongState
      else if datesOk c'.windowStart c'.windowEnd c'.due = false then .error .badValue
      else if s.codeTaken sl a.code then .error .codeInUse
      else if c.isOpen ∧ a.due.isSome ∧ s.overdue.clock ≠ .running then .error .clockNotSet
      else
        let s' := (s.amend sl c a).attend
        .ok { data := s'.standing sl, state := s' }

/-! ### CANCEL, RESUME, RETIRE (R64-R66) -/

/-- A ticket is withdrawn: VOID, its code out of the index, its claim ended (R64). -/
def State.voidTicket (s : State) (sl : Slot) (c : Contract) : State :=
  ((s.modifySlot sl fun c => { c with state := .void }).dropCode sl).reexamineClaim c.entitlement

def cancelHandler (body : List Byte) : Handler := expectLength body 4 fun s =>
  match s.contractField body 0 with
  | .error e => .error e
  | .ok (sl, c) =>
    if c.state ≠ .ticket ∧ c.state ≠ .suspended then .error .wrongState
    else .ok { state := s.voidTicket sl c }

/-- A suspended ticket is restored with no attempts counted (R65). -/
def State.resumeTicket (s : State) (sl : Slot) : State :=
  s.modifySlot sl fun c => { c with state := .ticket, attempts := 0 }

def resumeHandler (body : List Byte) : Handler := expectLength body 4 fun s =>
  match s.contractField body 0 with
  | .error e => .error e
  | .ok (sl, c) =>
    if c.state ≠ .suspended then .error .wrongState else .ok { state := s.resumeTicket sl }

/-- A contract is finished: CLOSED, LAPSED or VOID (R66). -/
def ContractState.finished : ContractState → Bool
  | .ticket => false
  | .suspended => false
  | .picking => false
  | .out => false
  | .returning => false
  | .closed => true
  | .lapsed => true
  | .void => true

/-- A slot becomes free (R66). -/
def State.retire (s : State) (sl : Slot) : State :=
  s.withContracts { s.contracts with slots := s.contracts.slots.set sl none }

def retireHandler (body : List Byte) : Handler := expectLength body 4 fun s =>
  match s.contractField body 0 with
  | .error e => .error e
  | .ok (sl, c) =>
    if c.state.finished then .ok { state := s.retire sl } else .error .wrongState

/-! ### HANDOUT (R68, R69) -/

/-- The ACCEPTED answer of HANDOUT for a pickup started at compartment `n` (R69). -/
def State.handoutBytes (s : State) (k : KeyId) (n : CompId) : List Byte :=
  toBytes 2 k.val ++ [byte (compNumber n), byte (((s.key k).map fun r => r.group.val).getD 0),
    byte (s.queuePosition n)]

/-- HANDOUT once its key is decided: the pickup starts, or is undone and refused QUEUE_FULL (R68; log 18,
DEDUCED). -/
def State.counterPickup (s : State) (number : Nat) (k : KeyId) : Except Status Taken :=
  match s.startPickup number k .link with
  | .started n s' => .ok { status := .accepted, data := s'.handoutBytes k n, state := s' }
  | .undone s' => .ok { status := .queueFull, state := s' }
  | .noKey => .error .notAvailable

/-- HANDOUT of a named or entitled key: its check mark, then its availability (R69 checks 5 and 6). -/
def State.handoutNamed (s : State) (number : Nat) (k : KeyId) : Except Status Taken :=
  match s.key k with
  | none => .error .notAvailable
  | some r =>
    if r.mark = .unchecked then .error .notChecked
    else if s.grantable number k && s.reachable (fun _ => true) k then s.counterPickup number k
    else .error .notAvailable

/-- HANDOUT of a TICKET contract (R69 checks 4 to 7). -/
def State.handoutTicket (s : State) (c : Contract) (named : Option KeyId) : Except Status Taken :=
  match named, c.entitlement with
  | some k, _ => s.handoutNamed c.number k
  | none, .specific k => s.handoutNamed c.number k
  | none, .cls g t e seats u =>
    match s.select (fun _ => true) g t e seats u with
    | none => .error .notAvailable
    | some k => s.counterPickup c.number k

def handoutHandler (body : List Byte) : Handler := expectLength body 7 fun s =>
  if 1 < field body 4 1 then .error .badValue
  else match s.contractField body 0 with
    | .error e => .error e
    | .ok (_, c) =>
      let named : Except Status (Option KeyId) :=
        if field body 4 1 = 0 then .ok none
        else match s.keyField body 5 with
          | .error e => .error e
          | .ok (k, _) => .ok (some k)
      match named with
      | .error e => .error e
      | .ok k => if c.state ≠ .ticket then .error .wrongState else s.handoutTicket c k

/-! ### FORCE_CLOSE (R80) -/

/-- An open contract is closed with route FORCE_CLOSED. The cancel of a RETURN release, made first by the
rule, finds the contract closed here, which is how its outcome enters no notice (R80). The key's new location
re-examines it (R2). -/
def State.forceClose (s : State) (c : Contract) : State :=
  let s' := (s.closeContract c.number .forceClosed s.present none).cancelReturn c.number
  match c.key with
  | some k => (s'.moveKey k .missing).reexamine s.joinMinute k
  | none => s'

/-- FORCE_CLOSE's reply: the final tier and the final late hours (R80). -/
def State.finalBytes (s : State) (sl : Slot) : List Byte :=
  match s.slot sl with
  | some c => byte c.tier.code :: optBytes 2 c.lateHours
  | none => [0, 0, 0, 0]

def forceCloseHandler (body : List Byte) : Handler := expectLength body 4 fun s =>
  match s.contractField body 0 with
  | .error e => .error e
  | .ok (sl, c) =>
    if c.isOpen then
      let s' := (s.forceClose c).concluded
      .ok { data := s'.finalBytes sl, state := s' }
    else .error .wrongState

/-! ### CONTRACT_QUERY and LIST_LATE (R81, R82) -/

/-- The 60 bytes of CONTRACT_QUERY after the status byte (R81). -/
def contractBytes (sl : Slot) (c : Contract) : List Byte :=
  toBytes 2 sl.val ++ toBytes 4 c.number ++ [byte c.state.code] ++ c.entitlement.bytes
    ++ optBytes 3 c.code ++ optBytes 4 c.windowStart ++ optBytes 4 c.windowEnd ++ toBytes 4 c.due
    ++ optBytes 2 c.grace ++ optBytes 2 (c.key.map Fin.val) ++ optBytes 1 (c.grantedGroup.map Fin.val)
    ++ optBytes 4 c.handoutMinute ++ optBytes 4 c.returnMinute ++ optBytes 1 (c.route.map Route.code)
    ++ [byte c.tier.code] ++ toBytes 4 c.reminderBase ++ [byte c.attempts] ++ optBytes 2 c.lateHours

def contractQueryHandler (body : List Byte) : Handler := expectLength body 4 fun s =>
  match s.contractField body 0 with
  | .error e => .error e
  | .ok (sl, c) => .ok { data := contractBytes sl c, state := s }

/-- The slots from `start` on that hold an open contract at or above a tier, in slot order (R82). -/
def State.lateSlots (s : State) (tier start : Nat) : List Slot :=
  (s.contracts.slots.places fun r => r.any fun c => c.isOpen && tier ≤ c.tier.code).filter
    fun sl => start ≤ sl.val

/-- The slot after the walk's last one: FFFFh when it examined slot 511 (R82). -/
def nextLate (shown : List Slot) : Nat :=
  match shown[11]? with
  | some sl => if sl.val = 511 then 0xFFFF else sl.val + 1
  | none => 0xFFFF

/-- An entry of LIST_LATE in 13 bytes (R82). -/
def State.lateEntry (s : State) (sl : Slot) : List Byte :=
  match s.slot sl with
  | some c => toBytes 2 sl.val ++ toBytes 4 c.number ++ toBytes 2 ((c.key.map Fin.val).getD 0)
      ++ [byte c.tier.code] ++ toBytes 4 c.due
  | none => List.replicate 13 0

def listLateHandler (body : List Byte) : Handler := expectLength body 3 fun s =>
  if 4 < field body 0 1 ∨ 511 < field body 1 2 then .error .badValue
  else
    let shown := (s.lateSlots (field body 0 1) (field body 1 2)).take 12
    .ok
      { data := byte shown.length :: toBytes 2 (nextLate shown) ++ shown.flatMap s.lateEntry
        state := s }

/-! ### The commands -/

def execIssue (tg : Byte) (body : List Byte) (s : State) : Host.Outcome State Fault Refusal :=
  s.request 0x20 tg (issueHandler body)

def execAmend (tg : Byte) (body : List Byte) (s : State) : Host.Outcome State Fault Refusal :=
  s.request 0x21 tg (amendHandler body)

def execHandout (tg : Byte) (body : List Byte) (s : State) : Host.Outcome State Fault Refusal :=
  s.request 0x22 tg (handoutHandler body)

def execCancel (tg : Byte) (body : List Byte) (s : State) : Host.Outcome State Fault Refusal :=
  s.request 0x23 tg (cancelHandler body)

def execResume (tg : Byte) (body : List Byte) (s : State) : Host.Outcome State Fault Refusal :=
  s.request 0x24 tg (resumeHandler body)

def execForceClose (tg : Byte) (body : List Byte) (s : State) : Host.Outcome State Fault Refusal :=
  s.request 0x25 tg (forceCloseHandler body)

def execRetire (tg : Byte) (body : List Byte) (s : State) : Host.Outcome State Fault Refusal :=
  s.request 0x26 tg (retireHandler body)

def execContractQuery (tg : Byte) (body : List Byte) (s : State) : Host.Outcome State Fault Refusal :=
  s.request 0x27 tg (contractQueryHandler body)

def execListLate (tg : Byte) (body : List Byte) (s : State) : Host.Outcome State Fault Refusal :=
  s.request 0x28 tg (listLateHandler body)

end Sys2Proof.Machine
end

