-- ==== Sys2Proof/Machine/Drop.lean ====
section
/-! DEFINITION. The drop box messages and events (R103, R108, R109, R111). -/

namespace Sys2Proof.Machine

/-! ### DROP_QUERY and DROP_EMPTIED (R111, R109) -/

/-- DROP_QUERY's reply after the status byte: the drop box's state and up to ten entries (R111). -/
def DropBox.bytes (d : DropBox) (start : Nat) : List Byte :=
  let shown := (d.entries.drop start).take 10
  [byte d.entries.length, byte d.flap.code, byte d.staffDoor.code, byte start, byte shown.length]
    ++ shown.flatMap DropEntry.bytes

def dropQueryHandler (body : List Byte) : Handler := expectLength body 1 fun s =>
  .ok { data := s.drop.bytes (field body 0 1), state := s }

def dropEmptiedHandler (body : List Byte) : Handler := expectLength body 0 fun s =>
  .ok { data := [byte s.drop.entries.length], state := (s.emptyDrop .message).attend }

/-! ### The staff door (R108) and repeated reads (R103) -/

/-- A staff-door opening in CLOSED (R108). -/
def State.staffDoorOpened (s : State) : State :=
  match s.drop.staffDoor with
  | .closed => (s.withDrop { s.drop with staffDoor := .opened }).recomputeFlap
  | .opened => s

/-- A staff-door closing in OPEN: the list is emptied (R108). -/
def State.staffDoorClosed (s : State) : State :=
  match s.drop.staffDoor with
  | .opened => ((s.withDrop { s.drop with staffDoor := .closed }).emptyDrop .staffDoor).settle
  | .closed => s

/-- At an open flap, the read carries a tag that an entry already holds (R103). -/
def State.repeatedRead (s : State) (tag : Option Nat) : Bool :=
  s.drop.flap == .opened && tag.any fun t => s.drop.entries.any fun e => e.tag == some t

/-! ### The commands -/

def execDropQuery (tg : Byte) (body : List Byte) (s : State) : Host.Outcome State Fault Refusal :=
  s.request 0x38 tg (dropQueryHandler body)

def execDropEmptied (tg : Byte) (body : List Byte) (s : State) : Host.Outcome State Fault Refusal :=
  s.request 0x39 tg (dropEmptiedHandler body)

/-- A second report of an item already recorded is dropped without a trace (R103). -/
def execChuteRead (tag : Option Nat) (s : State) : Host.Outcome State Fault Refusal :=
  s.taken (if s.repeatedRead tag then s else (s.chute tag).finish)

def execStaffDoorOpened (s : State) : Host.Outcome State Fault Refusal :=
  let s' := s.withStaffDoorPin true
  s'.taken s'.staffDoorOpened

def execStaffDoorClosed (s : State) : Host.Outcome State Fault Refusal :=
  let s' := s.withStaffDoorPin false
  s'.taken s'.staffDoorClosed

end Sys2Proof.Machine
end

