-- ==== Sys2Proof/Machine/System.lean ====
section
/-! DEFINITION. The messages of the part as a whole: STATUS, SET_CLOCK, SET_MODE, RESTART, PURGE, TIMEBASE
(R177, R115, R148, R185, R184). -/

namespace Sys2Proof.Machine

/-! ### STATUS (R177) -/

/-- A compartment counts as free for STATUS: IN_SERVICE, known empty, no return reservation. -/
def Compartment.statusFree (c : Compartment) : Bool := c.service == .inService && c.isFree

/-- The occupied slots in a state. -/
def State.contractCount (s : State) (st : ContractState) : Nat :=
  s.contracts.slots.rows.countP fun r => r.any fun c => c.state == st

/-- The sum of the sixteen list lengths (R14, R177). -/
def State.availableCount (s : State) : Nat := (s.keys.lists.rows.map List.length).sum

/-- The eight contract states in coding order. -/
def ContractState.all : List ContractState :=
  [.ticket, .suspended, .picking, .out, .returning, .closed, .lapsed, .void]

def TierCounts.bytes (t : TierCounts) : List Byte :=
  toBytes 2 t.none ++ toBytes 2 t.soon ++ toBytes 2 t.late1 ++ toBytes 2 t.late2 ++ toBytes 2 t.late3

/-- The 43 bytes of STATUS after the status byte (R177). -/
def State.statusBytes (s : State) : List Byte :=
  [byte s.mode.code, byte s.overdue.clock.code] ++ toBytes 4 s.overdue.value
    ++ [byte (s.compartments.table.rows.countP Compartment.statusFree), byte s.availableCount]
    ++ ContractState.all.flatMap (fun st => toBytes 2 (s.contractCount st))
    ++ s.overdue.counts.bytes
    ++ [byte s.drop.entries.length, byte s.notices.ring.length, flagByte s.notices.overflow,
      flagByte s.link.error, flagByte s.scanner.sweeping, flagByte s.store.busy, causeByte s.highest,
      flagByte s.overdue.forecast.short, flagByte s.overdue.forecast.stale]

def statusHandler (body : List Byte) : Handler := expectLength body 0 fun s =>
  .ok { data := s.statusBytes, state := s.withLink { s.link with error := false } }

/-! ### SET_CLOCK (R115) -/

/-- The clock takes a minute and runs, the tick count restarts, and a lateness scan is requested (R115). -/
def State.setClock (s : State) (m : Nat) : State :=
  ((s.withOverdue { s.overdue with clock := .running, value := m }).withTimeBase
    { s.timeBase with ticks := 0 }).requestScan m

def setClockHandler (body : List Byte) : Handler := expectLength body 4 fun s =>
  .ok
    { data := byte s.overdue.clock.code :: toBytes 4 s.overdue.value
      state := s.setClock (field body 0 4) }

/-! ### SET_MODE (R92, R147-R149) -/

/-- The kiosk takes a change of mode (R92). In IDLE the prompt of the new mode ends a result hold
(log 21, DEDUCED). In WAIT_DOOR, STAFF and CALLING, and in CODE_ENTRY but for a change to LOCKDOWN, a brief prompt
and its timer run on (log 43, DEDUCED). -/
def Kiosk.changeMode (k : Kiosk) (old new : BranchMode) : Kiosk :=
  if new = old then k
  else if new = .lockdown then
    match k.mode with
    | .idle => { k with prompt := .outOfService, resultHold := none }
    | .codeEntry => k.toIdle .outOfService
    | .waitDoor => k
    | .staff => k
    | .lockout => k
    | .calling => k
  else if old = .lockdown ∧ k.mode = .idle then { k with prompt := .welcome, resultHold := none }
  else k

/-- The mode changes, and the kiosk and the drop box apply it (R147). -/
def State.changeMode (s : State) (m : BranchMode) : State :=
  ((s.withMode m).withKiosk (s.kiosk.changeMode s.mode m)).recomputeFlap

def setModeHandler (body : List Byte) : Handler := expectLength body 1 fun s =>
  match BranchMode.ofCode (field body 0 1) with
  | none => .error .badValue
  | some m =>
    let s' := s.changeMode m
    .ok { data := [byte s.mode.code, byte s'.drop.flap.code], state := s' }

/-! ### RESTART and PURGE (R185) -/

/-- A start is asked for; it is made when the reply's last byte has been sent (R185). -/
def startHandler (cold : Bool) (body : List Byte) : Handler := expectLength body 0 fun s =>
  if s.store.busy ∨ s.startPending.isSome then .error .busy
  else .ok { effect := .start cold, state := s.withStartPending (some cold) }

/-! ### TIMEBASE (R184) -/

def timebaseHandler (body : List Byte) : Handler := expectLength body 2 fun s =>
  if s.startPending.isSome then .error .busy
  else if s.timeBase.once then .error .onceOnly
  else if field body 0 2 < 2000 ∨ 50000 < field body 0 2 then .error .badValue
  else .ok
    { data := toBytes 2 s.timeBase.divisor, effect := .rate
      state := s.withTimeBase { s.timeBase with divisor := field body 0 2, once := true } }

/-! ### The commands -/

def execStatus (tg : Byte) (body : List Byte) (s : State) : Host.Outcome State Fault Refusal :=
  s.request 0x01 tg (statusHandler body)

def execSetClock (tg : Byte) (body : List Byte) (s : State) : Host.Outcome State Fault Refusal :=
  s.request 0x02 tg (setClockHandler body)

def execSetMode (tg : Byte) (body : List Byte) (s : State) : Host.Outcome State Fault Refusal :=
  s.request 0x03 tg (setModeHandler body)

def execRestart (tg : Byte) (body : List Byte) (s : State) : Host.Outcome State Fault Refusal :=
  s.request 0x04 tg (startHandler false body)

def execPurge (tg : Byte) (body : List Byte) (s : State) : Host.Outcome State Fault Refusal :=
  s.request 0x05 tg (startHandler true body)

def execTimebase (tg : Byte) (body : List Byte) (s : State) : Host.Outcome State Fault Refusal :=
  s.request 0x06 tg (timebaseHandler body)

end Sys2Proof.Machine
end

