-- ==== Sys2Proof/Machine/Keys.lean ====
section
/-! DEFINITION. The key messages (section 1.5, R8-R14). -/

namespace Sys2Proof.Machine

/-! ### Descriptive fields (R8, R9) -/

/-- A key's descriptive fields as KEY_ENROL and KEY_EDIT carry them. -/
structure KeyFields where
  label : List Byte
  group : Group
  transmission : Transmission
  energy : Energy
  seats : Nat
  deriving DecidableEq, Repr

/-- Label, group, transmission, energy and seats from `off` on, when each is in range (R8). -/
def keyFieldsOf (body : List Byte) (off : Nat) : Option KeyFields :=
  let label := (body.drop off).take 8
  match indexOf 16 (field body (off + 8) 1), Transmission.ofCode (field body (off + 9) 1),
      Energy.ofCode (field body (off + 10) 1) with
  | some g, some t, some e =>
    if labelValid label = true ∧ 2 ≤ field body (off + 11) 1 ∧ field body (off + 11) 1 ≤ 9 then
      some { label := labelOf label, group := g, transmission := t, energy := e,
             seats := field body (off + 11) 1 }
    else none
  | _, _, _ => none

/-! ### KEY_ENROL (R8) -/

/-- The compartments whose contents hold a foreign tag, in number order. -/
def State.holdersOf (s : State) (tag : Nat) : List CompId :=
  s.compartments.table.places fun c => c.contents.contains (.foreign tag)

/-- A place becomes enrolled, and each compartment that holds the tag as a foreign item is queued for a
SWEEP scan (R8; log 27, DEDUCED). -/
def State.enrol (s : State) (k : KeyId) (tag : Nat) (f : KeyFields) : State :=
  let record : KeyRecord :=
    { tag := tag, label := f.label, group := f.group, transmission := f.transmission
      energy := f.energy, seats := f.seats, location := .staffHand, mark := .checked, hold := false
      promisedTo := none, idleSince := 0 }
  let s' := s.withKeys { s.keys with places := s.keys.places.set k (some record) }
  (s.holdersOf tag).foldl State.requestSweep s'

def keyEnrolHandler (body : List Byte) : Handler := expectLength body 17 fun s =>
  let tag := field body 0 5
  match keyFieldsOf body 5 with
  | none => .error .badValue
  | some f =>
    if tag = 0 then .error .badValue
    else if (s.keyOfTag tag).isSome then .error .codeInUse
    else match s.keys.places.find Option.isNone with
      | none => .error .tableFull
      | some k => .ok { data := toBytes 2 k.val, state := (s.enrol k tag f).concluded }

/-! ### KEY_EDIT (R9) -/

/-- The record takes the new fields; a key that stands in a list moves to the new group's list with its
idle-since kept (R6, R9). -/
def State.editKey (s : State) (k : KeyId) (r : KeyRecord) (f : KeyFields) : State :=
  let s' := s.modifyKey k fun r =>
    { r with label := f.label, group := f.group, transmission := f.transmission, energy := f.energy
             seats := f.seats }
  if s.inList k ∧ f.group ≠ r.group then s'.withKeys ((s'.keys.leave r.group k).join f.group k) else s'

def keyEditHandler (body : List Byte) : Handler := expectLength body 14 fun s =>
  match s.keyField body 0 with
  | .error e => .error e
  | .ok (k, r) => match keyFieldsOf body 2 with
    | none => .error .badValue
    | some f => .ok { state := s.editKey k r f }

/-! ### KEY_REMOVE (R10) -/

/-- A location in which a key cannot be removed: COMPARTMENT, OUT or DROP (R10). -/
def Location.fixed : Location → Bool
  | .compartment _ => true
  | .out _ => true
  | .drop => true
  | .staffHand => false
  | .missing => false

/-- A place becomes free (R10). -/
def State.removeKey (s : State) (k : KeyId) : State :=
  s.withKeys { s.keys with places := s.keys.places.set k none }

def keyRemoveHandler (body : List Byte) : Handler := expectLength body 2 fun s =>
  match s.keyField body 0 with
  | .error e => .error e
  | .ok (k, r) =>
    if s.named k ∨ r.location.fixed then .error .wrongState
    else .ok { state := (s.removeKey k).attend }

/-! ### KEY_QUERY (R11) -/

/-- A key's position in its group's list, from 1 at the head (R11). -/
def State.listPosition (s : State) (k : KeyId) (r : KeyRecord) : Option Nat :=
  ((s.keys.lists.get r.group).findIdx? (· == k)).map (· + 1)

/-- The 38 bytes of KEY_QUERY after the status byte (R11). -/
def State.keyBytes (s : State) (k : KeyId) (r : KeyRecord) : List Byte :=
  toBytes 2 k.val ++ toBytes 5 r.tag ++ labelBytes r.label
    ++ [byte r.group.val, byte r.transmission.code, byte r.energy.code, byte r.seats,
      byte r.location.code, byte r.location.compField]
    ++ toBytes 4 r.location.contractField ++ [byte r.mark.code, flagByte r.hold]
    ++ optBytes 4 r.promisedTo ++ toBytes 4 r.idleSince ++ optBytes 1 (s.listPosition k r)

/-- The key a selector names. The body's length must be the selector's own (log 12, DEDUCED). -/
def keyQueryHandler (body : List Byte) : Handler := fun s =>
  if body.length ≠ 3 ∧ body.length ≠ 6 then .error .badFormat
  else
    let found : Except Status (KeyId × KeyRecord) :=
      match field body 0 1 with
      | 0 => if body.length = 3 then s.keyField body 1 else .error .badFormat
      | 1 =>
        if body.length = 6 then
          match s.keyOfTag (field body 1 5) with
          | none => .error .notFound
          | some k => match s.key k with
            | some r => .ok (k, r)
            | none => .error .notFound
        else .error .badFormat
      | _ => .error .badValue
    match found with
    | .error e => .error e
    | .ok (k, r) => .ok { data := s.keyBytes k r, state := s }

/-! ### KEY_HOLD (R12) and KEY_CHECKED (R13, R151) -/

/-- The hold takes a new value and the key is re-examined; a value already held changes nothing (R12). -/
def State.holdKey (s : State) (k : KeyId) (r : KeyRecord) (hold : Bool) : State :=
  if r.hold = hold then s
  else (s.modifyKey k fun r => { r with hold := hold }).reexamine s.joinMinute k

def keyHoldHandler (body : List Byte) : Handler := expectLength body 3 fun s =>
  match s.keyField body 0 with
  | .error e => .error e
  | .ok (k, r) => match yesNo (field body 2 1) with
    | none => .error .badValue
    | some hold => .ok { state := s.holdKey k r hold }

/-- The mark goes from UNCHECKED to CHECKED and the key is re-examined; a CHECKED key is left as it is (R13,
R151). -/
def State.checkKey (s : State) (k : KeyId) (r : KeyRecord) : State :=
  match r.mark with
  | .checked => s
  | .unchecked => (s.modifyKey k fun r => { r with mark := .checked }).reexamine s.joinMinute k

def keyCheckedHandler (body : List Byte) : Handler := expectLength body 2 fun s =>
  match s.keyField body 0 with
  | .error e => .error e
  | .ok (k, r) => .ok { state := s.checkKey k r }

/-! ### AVAIL_QUERY (R14) -/

/-- An entry of AVAIL_QUERY: key index, compartment number, idle-since. -/
def State.availBytes (s : State) (k : KeyId) : List Byte :=
  match s.key k with
  | some r => toBytes 2 k.val ++ [byte r.location.compField] ++ toBytes 4 r.idleSince
  | none => toBytes 2 k.val ++ List.replicate 5 0

/-- The reply for one group from a start position: up to 24 entries (R14). -/
def State.availGroup (s : State) (g : Group) (start : Nat) : List Byte :=
  let list := s.keys.lists.get g
  let shown := (list.drop start).take 24
  [byte g.val, byte list.length, byte start, byte shown.length] ++ shown.flatMap s.availBytes

/-- The reply for FFh: the total and the sixteen lengths, a byte each (R14; log 13, DEDUCED). -/
def State.availTotals (s : State) : List Byte :=
  [0xFF, byte s.availableCount] ++ s.keys.lists.rows.map fun l => byte l.length

def availQueryHandler (body : List Byte) : Handler := expectLength body 2 fun s =>
  if field body 0 1 = 0xFF then .ok { data := s.availTotals, state := s }
  else match indexOf 16 (field body 0 1) with
    | none => .error .badValue
    | some g => .ok { data := s.availGroup g (field body 1 1), state := s }

/-! ### The commands -/

def execKeyEnrol (tg : Byte) (body : List Byte) (s : State) : Host.Outcome State Fault Refusal :=
  s.request 0x10 tg (keyEnrolHandler body)

def execKeyEdit (tg : Byte) (body : List Byte) (s : State) : Host.Outcome State Fault Refusal :=
  s.request 0x11 tg (keyEditHandler body)

def execKeyRemove (tg : Byte) (body : List Byte) (s : State) : Host.Outcome State Fault Refusal :=
  s.request 0x12 tg (keyRemoveHandler body)

def execKeyQuery (tg : Byte) (body : List Byte) (s : State) : Host.Outcome State Fault Refusal :=
  s.request 0x13 tg (keyQueryHandler body)

def execKeyHold (tg : Byte) (body : List Byte) (s : State) : Host.Outcome State Fault Refusal :=
  s.request 0x14 tg (keyHoldHandler body)

def execKeyChecked (tg : Byte) (body : List Byte) (s : State) : Host.Outcome State Fault Refusal :=
  s.request 0x15 tg (keyCheckedHandler body)

def execAvailQuery (tg : Byte) (body : List Byte) (s : State) : Host.Outcome State Fault Refusal :=
  s.request 0x16 tg (availQueryHandler body)

end Sys2Proof.Machine
end

