-- ==== Sys2Proof/Machine/Notices.lean ====
section
/-! DEFINITION. The notice and attention messages, FORECAST_QUERY, and the pager's pulse (R140, R158-R162,
R165). -/

namespace Sys2Proof.Machine

/-! ### FETCH and CONSUME (R158, R159) -/

/-- FETCH's reply after the status byte: the oldest notices, six at most (R158). -/
def NoticeUnit.fetchBytes (u : NoticeUnit) : List Byte :=
  let shown := u.ring.take 6
  [byte u.ring.length, flagByte u.overflow] ++ toBytes 2 u.nextSeq ++ [byte shown.length]
    ++ shown.flatMap Notice.bytes

def fetchHandler (body : List Byte) : Handler := expectLength body 0 fun s =>
  .ok { data := s.notices.fetchBytes, state := s }

/-- Removes the oldest `n` notices (R159). -/
def State.dropNotices (s : State) (n : Nat) : State :=
  s.withNotices { s.notices with ring := s.notices.ring.drop n }

/-- CONSUME removes every notice up to and including the one with the number given (R159). -/
def consumeHandler (body : List Byte) : Handler := expectLength body 2 fun s =>
  match s.notices.ring.findIdx? fun n => n.seq == field body 0 2 with
  | none => .error .notFound
  | some i =>
    .ok
      { data := [byte (i + 1), byte (s.notices.ring.length - (i + 1))]
        state := (s.dropNotices (i + 1)).attend }

/-! ### ATTENTION_QUERY and ACKNOWLEDGE (R161, R162) -/

/-- ATTENTION_QUERY's 16 bytes after the status byte (R162). -/
def State.attentionBytes (s : State) : List Byte :=
  [causeByte s.highest, causeByte s.highestReport, causeByte s.link.lastReported]
    ++ Cause.all.map (fun c => flagByte (s.notices.pending.contains c))
    ++ [byte s.notices.beacon.code] ++ toBytes 2 s.notices.missing

def attentionQueryHandler (body : List Byte) : Handler := expectLength body 0 fun s =>
  .ok { data := s.attentionBytes, state := s }

/-- The STAFF_CALL latch is cleared; a kiosk in CALLING returns to IDLE (R99, R161; log 29, DEDUCED). In every other
state the kiosk stays as it is, a result hold or a brief prompt and its timer running on (log 45, DEDUCED). -/
def State.answerCall (s : State) : State :=
  let s' := s.withNotices { s.notices with callLatch := false }
  if s.notices.callLatch ∧ s.kiosk.mode = .calling then s'.withKiosk (s'.kiosk.toIdle s'.idlePrompt)
  else s'

/-- What ACKNOWLEDGE of a cause does (R161). -/
def State.acknowledge (s : State) (code : Nat) : Except Status State :=
  match code with
  | 1 => .ok s.clearForced
  | 6 => .ok s.answerCall
  | 9 => .ok (s.withNotices { s.notices with overflow := false })
  | 2 => .error .wrongState
  | 3 => .error .wrongState
  | 4 => .error .wrongState
  | 5 => .error .wrongState
  | 7 => .error .wrongState
  | 8 => .error .wrongState
  | 10 => .error .wrongState
  | _ => .error .badValue

def acknowledgeHandler (body : List Byte) : Handler := expectLength body 1 fun s =>
  match s.acknowledge (field body 0 1) with
  | .error e => .error e
  | .ok s' =>
    let s'' := s'.attend
    .ok { data := [causeByte s''.highest], state := s'' }

/-! ### FORECAST_QUERY (R140) -/

/-- FORECAST_QUERY's 108 bytes after the status byte (R140). -/
def Forecast.bytes (f : Forecast) : List Byte :=
  toBytes 4 f.minute
    ++ [byte f.reserve, byte f.counted, byte f.occupied, byte f.dropKeys, byte f.start,
      flagByte f.short, byte (f.firstShort.getD 0xFF), byte (f.deficit.getD 0)]
    ++ f.buckets.flatMap Bucket.bytes

def forecastQueryHandler (body : List Byte) : Handler := expectLength body 0 fun s =>
  match s.present with
  | some m =>
    let s' := (s.computeForecast m).attend
    .ok { data := s'.overdue.forecast.bytes, state := s' }
  | none =>
    if s.overdue.forecast.computed then .ok { data := s.overdue.forecast.bytes, state := s }
    else .error .clockNotSet

/-! ### The commands -/

def execFetch (tg : Byte) (body : List Byte) (s : State) : Host.Outcome State Fault Refusal :=
  s.request 0x40 tg (fetchHandler body)

def execConsume (tg : Byte) (body : List Byte) (s : State) : Host.Outcome State Fault Refusal :=
  s.request 0x41 tg (consumeHandler body)

def execAttentionQuery (tg : Byte) (body : List Byte) (s : State) :
    Host.Outcome State Fault Refusal :=
  s.request 0x42 tg (attentionQueryHandler body)

def execAcknowledge (tg : Byte) (body : List Byte) (s : State) : Host.Outcome State Fault Refusal :=
  s.request 0x43 tg (acknowledgeHandler body)

def execForecastQuery (tg : Byte) (body : List Byte) (s : State) :
    Host.Outcome State Fault Refusal :=
  s.request 0x48 tg (forecastQueryHandler body)

/-- The pager contact opens again (R165), whatever ticks of the pulse are left (log 44, DESIGN CHOICE); without
effect while no pulse is in progress (log 9, DESIGN CHOICE). -/
def execPagerPulseEnd (s : State) : Host.Outcome State Fault Refusal :=
  s.taken (s.withNotices { s.notices with pager := none })

end Sys2Proof.Machine
end

