-- ==== Sys2Proof/Machine/Settings.lean ====
section
/-! DEFINITION. The branch store's messages and the completion of its writes (R143, R153, R154, R180-R182). -/

namespace Sys2Proof.Machine

/-! ### Naming records (R179) -/

/-- A record of the branch store, by class and number. -/
inductive RecordName where
  | profile
  | group (g : Group)
  | panel (n : Panel)
  | alert
  | badge (p : BadgePlace)
  deriving DecidableEq, Repr

/-- The record a class code and a number name, when both are in range (R179). -/
def recordNamed (cls number : Nat) : Option RecordName :=
  match cls with
  | 0 => if number = 0 then some .profile else none
  | 1 => (indexOf 16 number).map .group
  | 2 => if number = 0 then none else (indexOf 8 (number - 1)).map .panel
  | 3 => if number = 0 then some .alert else none
  | 4 => (indexOf 64 number).map .badge
  | _ => none

/-- The class code and number of staged contents, as notices carry them (R156, R179). -/
def StoreRecord.code : StoreRecord → Nat × Nat
  | .profile _ => (0, 0)
  | .group g _ => (1, g.val)
  | .panel n _ => (2, n.val + 1)
  | .alert _ => (3, 0)
  | .badge p _ => (4, p.val)

/-- The records the profile lock protects (R153). -/
def RecordName.lockable : RecordName → Bool
  | .profile => true
  | .panel _ => true
  | .group _ => false
  | .alert => false
  | .badge _ => false

/-- Staged contents of a record the profile lock protects (R154). -/
def StoreRecord.lockable : StoreRecord → Bool
  | .profile _ => true
  | .panel _ _ => true
  | .group _ _ => false
  | .alert _ => false
  | .badge _ _ => false

/-! ### STORE_READ (R180) -/

/-- The source byte and the contents of a working copy (R180). -/
def WorkingRecords.bytes (w : WorkingRecords) : RecordName → List Byte
  | .profile => flagByte w.profile.isDefault :: w.profile.value.bytes
  | .group g => flagByte (w.groups.get g).isDefault :: (w.groups.get g).value.bytes
  | .panel n => flagByte (w.panels.get n).isDefault :: (w.panels.get n).value.bytes
  | .alert => flagByte w.alert.isDefault :: alertBytes w.alert.value
  | .badge p => flagByte (w.badges.get p).isDefault :: badgeBytes (w.badges.get p).value

def storeReadHandler (body : List Byte) : Handler := expectLength body 2 fun s =>
  match recordNamed (field body 0 1) (field body 1 1) with
  | none => .error .badValue
  | some r =>
    .ok
      { data := [byte (field body 0 1), byte (field body 1 1)] ++ s.store.working.bytes r
        state := s }

/-! ### STORE_STAGE (R181) -/

/-- The body length of a class code's STORE_STAGE, when the code is a class (R181). -/
def stageLength (cls : Nat) : Option Nat :=
  match cls with
  | 0 => some 11
  | 1 => some 12
  | 2 => some 5
  | 3 => some 32
  | 4 => some 17
  | _ => none

/-- The new contents a STORE_STAGE body gives, when every field is in range (R181 check 5). -/
def stagedOf (body : List Byte) (r : RecordName) : Option StoreRecord :=
  match r with
  | .profile => (profileOf body 2).map .profile
  | .group g => (groupPolicyOf body 2).map (.group g)
  | .panel n => (panelSettingOf body 2).map (.panel n)
  | .alert => (alertOf body 2).map .alert
  | .badge p => (badgeOf body 2).map (.badge p)

/-- An occupied BADGE record's number is held by another occupied place (R143). -/
def State.badgeTaken (s : State) : StoreRecord → Bool
  | .badge p (some b) =>
    !((s.store.working.badges.places fun w => w.value.any fun x => x.number == b.number).filter
      (· != p)).isEmpty
  | .badge _ none => false
  | .profile _ => false
  | .group _ _ => false
  | .panel _ _ => false
  | .alert _ => false

def storeStageHandler (body : List Byte) : Handler := fun s =>
  if body.length < 2 ∨ (stageLength (field body 0 1)).any (· != body.length) then .error .badFormat
  else match recordNamed (field body 0 1) (field body 1 1) with
    | none => .error .badValue
    | some r =>
      if s.store.busy then .error .busy
      else if r.lockable ∧ s.store.lock then .error .isProtected
      else match stagedOf body r with
        | none => .error .badValue
        | some x =>
          if s.badgeTaken x then .error .codeInUse
          else .ok { state := s.withStore { s.store with staging := some x } }

/-! ### STORE_COMMIT and PROFILE_LOCK (R182, R185, R154) -/

def storeCommitHandler (body : List Byte) : Handler := expectLength body 0 fun s =>
  if s.store.busy ∨ s.startPending.isSome then .error .busy
  else if s.store.staging.isNone then .error .wrongState
  else .ok { status := .accepted, state := s.withStore { s.store with busy := true } }

/-- The lock is set; a staged PROFILE or PANEL record is dropped (R154). -/
def Store.setLock (st : Store) : Store :=
  if st.lock then st
  else { st with lock := true, staging := st.staging.filter fun r => !r.lockable }

def profileLockHandler (body : List Byte) : Handler := expectLength body 0 fun s =>
  if s.store.busy then .error .busy
  else .ok { data := [flagByte s.store.lock], state := s.withStore s.store.setLock }

/-! ### The completion of a write (R182) -/

/-- The stored record takes the new contents with a sound check value (R182). -/
def StoredRecords.write (r : StoredRecords) : StoreRecord → StoredRecords
  | .profile p => { r with profile := ⟨p, true⟩ }
  | .group g p => { r with groups := r.groups.set g ⟨p, true⟩ }
  | .panel n p => { r with panels := r.panels.set n ⟨p, true⟩ }
  | .alert a => { r with alert := ⟨a, true⟩ }
  | .badge p b => { r with badges := r.badges.set p ⟨b, true⟩ }

/-- The working copy takes the new contents with source 0 (R182 step 1). -/
def WorkingRecords.write (w : WorkingRecords) : StoreRecord → WorkingRecords
  | .profile p => { w with profile := ⟨p, false⟩ }
  | .group g p => { w with groups := w.groups.set g ⟨p, false⟩ }
  | .panel n p => { w with panels := w.panels.set n ⟨p, false⟩ }
  | .alert a => { w with alert := ⟨a, false⟩ }
  | .badge p b => { w with badges := w.badges.set p ⟨b, false⟩ }

/-- The store after a completed write (R182 steps 1, 2 and 4). -/
def Store.complete (st : Store) (r : StoreRecord) : Store :=
  { st with
    stored := st.stored.write r, working := st.working.write r, staging := none, busy := false }

/-- The level of an ENABLED badge in a badge table. -/
def WorkingRecords.badgeLevel (w : WorkingRecords) (number : Nat) : Option Nat :=
  match w.badges.find fun x => x.value.any fun b => b.number == number && b.enabled with
  | none => none
  | some p => ((w.badges.get p).value).map Badge.level

/-- The kiosk re-examines the badge it holds in STAFF: staff mode ends, or takes the badge's level (R94,
R143). -/
def Kiosk.reexamineBadge (k : Kiosk) (w : WorkingRecords) (idlePrompt : Prompt) : Kiosk :=
  match k.mode, k.badge with
  | .staff, some (number, _) =>
    match w.badgeLevel number with
    | none => k.toIdle idlePrompt
    | some level => { k with badge := some (number, level) }
  | _, _ => k

/-- A completed commit of a BADGE record makes the kiosk re-examine its badge (R94, R143). -/
def State.badgeCommitted (s : State) : StoreRecord → State
  | .badge _ _ => s.withKiosk (s.kiosk.reexamineBadge s.store.working s.idlePrompt)
  | .profile _ => s
  | .group _ _ => s
  | .panel _ _ => s
  | .alert _ => s

/-- The completion of the write of record `r` (R182). -/
def State.writeCompleted (s : State) (r : StoreRecord) : State :=
  let s' := (s.withStore (s.store.complete r)).badgeCommitted r
  (s'.enter
    { kind := .storeWritten, minute := s.present, detailA := r.code.1, detailB := r.code.2 }).settle

/-- A write in flight holds its staging record until it completes. -/
def Store.writing (st : Store) : Option StoreRecord := if st.busy then st.staging else none

/-! ### The commands -/

def execStoreRead (tg : Byte) (body : List Byte) (s : State) : Host.Outcome State Fault Refusal :=
  s.request 0x50 tg (storeReadHandler body)

def execStoreStage (tg : Byte) (body : List Byte) (s : State) : Host.Outcome State Fault Refusal :=
  s.request 0x51 tg (storeStageHandler body)

def execStoreCommit (tg : Byte) (body : List Byte) (s : State) : Host.Outcome State Fault Refusal :=
  s.request 0x52 tg (storeCommitHandler body)

def execProfileLock (tg : Byte) (body : List Byte) (s : State) : Host.Outcome State Fault Refusal :=
  s.request 0x53 tg (profileLockHandler body)

/-- Without effect while no write is in flight (log 9, DESIGN CHOICE). -/
def execStoreWriteComplete (s : State) : Host.Outcome State Fault Refusal :=
  s.taken (match s.store.writing with
    | some r => s.writeCompleted r
    | none => s)

end Sys2Proof.Machine
end

