-- ==== Sys2Proof/Machine/Panel.lean ====
section
/-! DEFINITION. The kiosk's events (Chapter 5, R84-R99): keys, tags, badges, the call button and the kiosk's
timers. -/

namespace Sys2Proof.Machine

/-! ### Prompts and changes of the kiosk's state (R84, R85) -/

/-- A brief prompt: the state is kept and its own prompt returns after 5 s (R84, R90, R93). -/
def Kiosk.showBrief (k : Kiosk) (p : Prompt) : Kiosk := { k with prompt := p, brief := some briefTicks }

/-- The state's own prompt in WAIT_DOOR, CODE_ENTRY and CALLING; elsewhere the displayed one is kept. -/
def Kiosk.ownPrompt (k : Kiosk) : Prompt :=
  match k.mode with
  | .codeEntry => .enterCode
  | .calling => .callingStaff
  | .waitDoor =>
    match k.waited with
    | some (n, .pickup) => .openDoor n
    | some (n, .ret) => .returnTo n
    | none => k.prompt
  | .idle => k.prompt
  | .staff => k.prompt
  | .lockout => k.prompt

/-- A brief prompt ends and the state's own prompt returns (R84). -/
def Kiosk.endBrief (k : Kiosk) : Kiosk := { k with prompt := k.ownPrompt, brief := none }

/-- An event that is taken without an effect of its own still ends what the display shows of an earlier one:
in IDLE the result hold and its prompt (R85), in CODE_ENTRY, WAIT_DOOR and CALLING a brief prompt (R84). In
STAFF a result stays until the next staff action (R85), and in LOCKOUT LOCKED_OUT stays (R89; log 15, DEDUCED). -/
def Kiosk.endShown (k : Kiosk) (idlePrompt : Prompt) : Kiosk :=
  match k.mode with
  | .idle => { k with prompt := idlePrompt, resultHold := none }
  | .codeEntry => k.endBrief
  | .waitDoor => k.endBrief
  | .calling => k.endBrief
  | .staff => k
  | .lockout => k

/-- CODE_ENTRY with its first digit (R86, R99). -/
def Kiosk.beginCode (k : Kiosk) (d : Fin 10) : Kiosk :=
  { k.toIdle .enterCode with mode := .codeEntry, digits := [d], interDigit := some interDigitTicks }

/-- WAIT_DOOR for a compartment (R90). -/
def Kiosk.awaitDoor (k : Kiosk) (n : CompId) (kind : WaitKind) : Kiosk :=
  { k.toIdle (match kind with
      | .pickup => .openDoor n
      | .ret => .returnTo n) with
    mode := .waitDoor, waited := some (n, kind) }

/-- STAFF under a badge (R93). A badge accepted in STAFF stays in the session, with the releases asked for in
it (log 17, DEDUCED). -/
def Kiosk.enterStaff (k : Kiosk) (badge level : Nat) : Kiosk :=
  { k.toIdle .staffReady with
    mode := .staff, badge := some (badge, level), staffTimer := some staffTicks
    opens := if k.mode = .staff then k.opens else [] }

/-- LOCKOUT, with the wrong-code count set to 0 (R88). -/
def Kiosk.lockOut (k : Kiosk) : Kiosk :=
  { k.toIdle .lockedOut with mode := .lockout, wrongCodes := 0, lockout := some lockoutTicks }

/-- CALLING (R98). -/
def Kiosk.call (k : Kiosk) : Kiosk := { k.toIdle .callingStaff with mode := .calling }

/-- A staff action: the staff timer restarts, and the prompt and the digits are as given (R94, R95). -/
def Kiosk.staffAction (k : Kiosk) (digits : List (Fin 10)) (p : Prompt) : Kiosk :=
  { k with digits := digits, prompt := p, staffTimer := some staffTicks }

/-- The number a list of digits spells, the first digit most significant (R87, R95). -/
def digitsNumber (ds : List (Fin 10)) : Nat := ds.foldl (fun acc d => acc * 10 + d.val) 0

/-- An ACCESS_DENIED notice (R93, R95-R97): reason 0 BADGE_REFUSED, 1 OPEN_LEVEL, 2 CHECK_LEVEL, 3
ACKNOWLEDGE_LEVEL. -/
def State.enterDenied (s : State) (comp : Option CompId) (key : Option KeyId) (reason level : Nat) :
    State :=
  s.enter
    { kind := .accessDenied, minute := s.present, comp := comp, key := key, detailA := reason
      detailB := level }

/-! ### Digits and CLEAR (R86, R90, R94, R95, R99) -/

/-- A digit key. A digit in STAFF past the third is not collected and counts as a staff action (R95). In CALLING
under LOCKDOWN a digit does no more than end a brief prompt (R84, R99; log 15, DEDUCED). -/
def Kiosk.digit (k : Kiosk) (lockdown : Bool) (d : Fin 10) : Kiosk :=
  match k.mode with
  | .idle => if lockdown then k.toIdleResult .outOfService else k.beginCode d
  | .codeEntry =>
    { k with
      digits := if k.digits.length < 6 then k.digits ++ [d] else k.digits
      interDigit := some interDigitTicks, brief := none, prompt := .enterCode }
  | .waitDoor => k.showBrief .pleaseWait
  | .staff => k.staffAction (if k.digits.length < 3 then k.digits ++ [d] else k.digits) .staffReady
  | .lockout => k
  | .calling => if lockdown then k.endBrief else k.beginCode d

/-- CLEAR. In IDLE it ends a result prompt and has no other effect (R85, R86; log 15, DEDUCED). After a digit or a
CLEAR in STAFF the prompt is STAFF_READY (log 16, DEDUCED). -/
def Kiosk.clear (k : Kiosk) (idlePrompt : Prompt) : Kiosk :=
  match k.mode with
  | .idle => k.endShown idlePrompt
  | .codeEntry => k.toIdle idlePrompt
  | .waitDoor => k.showBrief .pleaseWait
  | .staff => if k.digits = [] then k.toIdle idlePrompt else k.staffAction [] .staffReady
  | .lockout => k
  | .calling => k.toIdle idlePrompt

/-! ### OK (R87, R88, R95, R97) -/

/-- A six-digit code that matched no contract (R88). -/
def State.wrongCode (s : State) : State :=
  if 4 ≤ s.kiosk.wrongCodes then
    ((s.withKiosk s.kiosk.lockOut).enter
      { kind := .codeLockout, minute := s.present, detailB := 5 }).settle
  else
    let k := s.kiosk.toIdleResult .codeNotValid
    s.withKiosk { k with wrongCodes := k.wrongCodes + 1 }

/-- OK in CODE_ENTRY (R87, R92). -/
def State.submitCode (s : State) : State :=
  if s.kiosk.digits.length < 6 then s.withKiosk (s.kiosk.toIdleResult .codeNotValid)
  else if s.mode = .lockdown then s.withKiosk (s.kiosk.toIdleResult .outOfService)
  else match s.answerCode (digitsNumber s.kiosk.digits) with
    | (.notMatched, s') => s'.wrongCode
    | (.matched p, s') => s'.withKiosk { s'.kiosk.toIdleResult p with wrongCodes := 0 }
    | (.started n, s') => s'.withKiosk { s'.kiosk.awaitDoor n .pickup with wrongCodes := 0 }

/-- The held badge's level and number, 0 when none is held. -/
def Kiosk.badgeLevel (k : Kiosk) : Nat := (k.badge.map Prod.snd).getD 0

def Kiosk.badgeNumber (k : Kiosk) : Nat := (k.badge.map Prod.fst).getD 0

/-- The level a staff open of a compartment needs (R145). -/
def State.openLevel (s : State) (n : CompId) : Nat :=
  if s.mode = .lockdown then 3 else (s.panel n).openLevel

/-- A staff open of compartment `n` in the order of R95, after its number was found in range. -/
def State.staffOpen (s : State) (n : CompId) : State :=
  let level := s.kiosk.badgeLevel
  if level < s.openLevel n then
    ((s.withKiosk (s.kiosk.staffAction [] .notPermitted)).enterDenied (some n) none 1 level).settle
  else if (s.comp n).service = .outOfService then
    s.withKiosk (s.kiosk.staffAction [] .outOfService)
  else match s.requestRelease n ⟨.staff s.kiosk.badgeNumber, .kiosk⟩ with
    | .error _ => s.withKiosk (s.kiosk.staffAction [] .pleaseWait)
    | .ok s' =>
      s'.withKiosk { s'.kiosk.staffAction [] (.openDoor n) with opens := s'.kiosk.opens ++ [n] }

/-- OK with no digits in STAFF (R97). -/
def State.acknowledgeForced (s : State) : State :=
  let level := s.kiosk.badgeLevel
  if 3 ≤ level then
    ((s.withKiosk (s.kiosk.staffAction [] .thankYou)).clearForced).settle
  else
    ((s.withKiosk (s.kiosk.staffAction [] .notPermitted)).enterDenied none none 3 level).settle

/-- OK in STAFF (R95, R97). -/
def State.staffOk (s : State) : State :=
  if s.kiosk.digits = [] then s.acknowledgeForced
  else match compOfNumber (digitsNumber s.kiosk.digits) with
    | none => s.withKiosk (s.kiosk.staffAction [] .codeNotValid)
    | some n => s.staffOpen n

/-- OK. In IDLE and CALLING it ends what the display shows of an earlier event and has no other effect (R84,
R85, R87, R99; log 15, DEDUCED). -/
def State.pressOk (s : State) : State :=
  match s.kiosk.mode with
  | .idle => s.withKiosk (s.kiosk.endShown s.idlePrompt)
  | .codeEntry => s.submitCode
  | .waitDoor => s.withKiosk (s.kiosk.showBrief .pleaseWait)
  | .staff => s.staffOk
  | .lockout => s
  | .calling => s.withKiosk (s.kiosk.endShown s.idlePrompt)

/-! ### Tags at the pad (R91, R92, R96) -/

/-- A tag that starts a return (R91, R92). -/
def State.returnTag (s : State) (tag : Nat) : State :=
  if s.mode = .lockdown then s.withKiosk (s.kiosk.toIdleResult .outOfService)
  else match s.answerTag tag with
    | (.taken n, s') => s'.withKiosk (s'.kiosk.awaitDoor n .ret)
    | (.refused p, s') => s'.withKiosk (s'.kiosk.toIdleResult p)

/-- A tag in STAFF: a check-clearing request (R96). The digits held are kept. -/
def State.checkTag (s : State) (tag : Nat) : State :=
  let act := fun (s : State) (p : Prompt) => s.withKiosk (s.kiosk.staffAction s.kiosk.digits p)
  match s.keyOfTag tag with
  | none => act s .tagNotRecognised
  | some k => match s.key k with
    | none => act s .tagNotRecognised
    | some r =>
      if s.kiosk.badgeLevel < 2 then
        ((act s .notPermitted).enterDenied none (some k) 2 s.kiosk.badgeLevel).settle
      else (act s .thankYou).checkKey k r

/-- A tag at the key-tag pad. -/
def State.tagAtPad (s : State) (tag : Nat) : State :=
  match s.kiosk.mode with
  | .idle => s.returnTag tag
  | .codeEntry => s.returnTag tag
  | .calling => s.returnTag tag
  | .waitDoor => s.withKiosk (s.kiosk.showBrief .pleaseWait)
  | .staff => s.checkTag tag
  | .lockout => s

/-! ### Badges (R93, R142) -/

/-- The level under which a badge number is accepted (R142). -/
def State.acceptedLevel (s : State) (number : Nat) : Option Nat :=
  s.store.working.badgeLevel number

/-- What the display shows for a refused badge (R93). -/
def Kiosk.refuseBadge (k : Kiosk) : Kiosk :=
  match k.mode with
  | .idle => k.toIdleResult .notPermitted
  | .codeEntry => k.showBrief .notPermitted
  | .calling => k.showBrief .notPermitted
  | .staff => k.staffAction k.digits .notPermitted
  | .waitDoor => k
  | .lockout => k

/-- A badge examined in IDLE, CODE_ENTRY, CALLING or STAFF (R93). -/
def State.examineBadge (s : State) (number : Nat) : State :=
  match s.acceptedLevel number with
  | some level =>
    ((s.withKiosk (s.kiosk.enterStaff number level)).withNotices
      { s.notices with callLatch := false }).settle
  | none => ((s.withKiosk s.kiosk.refuseBadge).enterDenied none none 0 0).settle

/-- A badge presented at the reader. -/
def State.presentBadge (s : State) (number : Nat) : State :=
  match s.kiosk.mode with
  | .idle => s.examineBadge number
  | .codeEntry => s.examineBadge number
  | .calling => s.examineBadge number
  | .staff => s.examineBadge number
  | .waitDoor => s.withKiosk (s.kiosk.showBrief .pleaseWait)
  | .lockout => s

/-! ### The call button (R98) -/

/-- The STAFF_CALL cause is raised, with a notice when it was not already pending (R98). -/
def State.raiseCall (s : State) : State :=
  if s.notices.callLatch then s
  else (s.withNotices { s.notices with callLatch := true }).enter
    { kind := .staffCall, minute := s.present }

/-- A long press (R98). The press timer has run out. In CALLING it ends a brief prompt and has no other effect
(R84; log 15, DEDUCED). -/
def State.longPress (s : State) : State :=
  let s' := s.withKiosk { s.kiosk with press := none }
  match s.kiosk.mode with
  | .idle => ((s'.withKiosk s'.kiosk.call).raiseCall).settle
  | .codeEntry => ((s'.withKiosk s'.kiosk.call).raiseCall).settle
  | .waitDoor => ((s'.withKiosk s'.kiosk.call).raiseCall).settle
  | .calling => s'.withKiosk (s'.kiosk.endShown s'.idlePrompt)
  | .staff => s'
  | .lockout => s'

/-! ### The commands -/

def execDigitKey (d : Fin 10) (s : State) : Host.Outcome State Fault Refusal :=
  s.taken (s.withKiosk (s.kiosk.digit (s.mode == .lockdown) d))

def execClearKey (s : State) : Host.Outcome State Fault Refusal :=
  s.taken (s.withKiosk (s.kiosk.clear s.idlePrompt))

def execOkKey (s : State) : Host.Outcome State Fault Refusal := s.taken s.pressOk

def execTagAtPad (tag : Nat) (s : State) : Host.Outcome State Fault Refusal := s.taken (s.tagAtPad tag)

def execBadgePresented (badge : Nat) (s : State) : Host.Outcome State Fault Refusal :=
  s.taken (s.presentBadge badge)

/-- A press starts the press timer, and like every event ends a result prompt in IDLE and a brief prompt (R84,
R85, R98; log 15, DEDUCED). One that follows another without a release between starts the timer afresh (log 41,
DESIGN CHOICE). -/
def execCallButtonPressed (s : State) : Host.Outcome State Fault Refusal :=
  s.taken (s.withKiosk { s.kiosk.endShown s.idlePrompt with press := some pressTicks })

/-- A release stops the press timer, and like every event ends a result prompt in IDLE and a brief prompt (R84,
R85, R98; log 15, DEDUCED). -/
def execCallButtonReleased (s : State) : Host.Outcome State Fault Refusal :=
  s.taken (s.withKiosk { s.kiosk.endShown s.idlePrompt with press := none })

def execLongPress (s : State) : Host.Outcome State Fault Refusal := s.taken s.longPress

/-- Without effect outside CODE_ENTRY (log 9, DESIGN CHOICE); in it, the timer's end whatever ticks are left (log 44,
DESIGN CHOICE). -/
def execInterDigitExpiry (s : State) : Host.Outcome State Fault Refusal :=
  s.taken (if s.kiosk.mode = .codeEntry then s.withKiosk (s.kiosk.toIdle s.idlePrompt) else s)

/-- Without effect outside LOCKOUT (log 9, DESIGN CHOICE); in it, the timer's end whatever ticks are left (log 44,
DESIGN CHOICE). -/
def execLockoutExpiry (s : State) : Host.Outcome State Fault Refusal :=
  s.taken (if s.kiosk.mode = .lockout then s.withKiosk (s.kiosk.toIdle s.idlePrompt) else s)

/-- Without effect outside STAFF (log 9, DESIGN CHOICE); in it, the timer's end whatever ticks are left (log 44,
DESIGN CHOICE). -/
def execStaffTimerExpiry (s : State) : Host.Outcome State Fault Refusal :=
  s.taken (if s.kiosk.mode = .staff then s.withKiosk (s.kiosk.toIdle s.idlePrompt) else s)

/-- Without effect outside IDLE (R85; log 9, DESIGN CHOICE); in it, the timer's end whatever ticks are left (log 44,
DESIGN CHOICE). -/
def execResultHoldExpiry (s : State) : Host.Outcome State Fault Refusal :=
  s.taken
    (if s.kiosk.mode = .idle then
      s.withKiosk { s.kiosk with prompt := s.idlePrompt, resultHold := none }
    else s)

/-- Without effect while no brief prompt is shown (R84; log 9, DESIGN CHOICE); otherwise the timer's end whatever
ticks are left (log 44, DESIGN CHOICE). -/
def execBriefPromptExpiry (s : State) : Host.Outcome State Fault Refusal :=
  s.taken (if s.kiosk.brief.isSome then s.withKiosk s.kiosk.endBrief else s)

end Sys2Proof.Machine
end

