-- ==== Sys2Proof/WellFormed.lean ====
section
/-! DEFINITION. Which commands are well formed: the ranges the manual gives their operands. -/

namespace Sys2Proof

/-- The kinds that name a message (R176), the attention frame apart. -/
def requestKinds : List Nat :=
  [0x01, 0x02, 0x03, 0x04, 0x05, 0x06, 0x10, 0x11, 0x12, 0x13, 0x14, 0x15, 0x16, 0x20, 0x21, 0x22,
   0x23, 0x24, 0x25, 0x26, 0x27, 0x28, 0x30, 0x31, 0x32, 0x33, 0x34, 0x38, 0x39, 0x40, 0x41, 0x42,
   0x43, 0x48, 0x50, 0x51, 0x52, 0x53]

/-- A tag number of a key tag: 1 to 1,099,511,627,775 (R1). -/
def tagNumberOk (n : Nat) : Bool := 1 ≤ n && n ≤ 1099511627775

/-- The TAG and body of a sound request frame: TAG 1-255, body at most 198 bytes (R169). -/
def requestOk (tg : Byte) (body : List Byte) : Bool := tg != 0 && body.length ≤ 198

/-- The sum of LEN, KIND, TAG, the body bytes and CHECK, modulo 256 (R169). -/
def frameSum (len kind tg : Byte) (body : List Byte) (check : Byte) : Byte :=
  body.foldl (· + ·) (len + kind + tg) + check

/-- The operands a command can carry. -/
def Instr.wf : Instr → Bool
  | .status tg body => requestOk tg body
  | .setClock tg body => requestOk tg body
  | .setMode tg body => requestOk tg body
  | .restart tg body => requestOk tg body
  | .purge tg body => requestOk tg body
  | .timebase tg body => requestOk tg body
  | .keyEnrol tg body => requestOk tg body
  | .keyEdit tg body => requestOk tg body
  | .keyRemove tg body => requestOk tg body
  | .keyQuery tg body => requestOk tg body
  | .keyHold tg body => requestOk tg body
  | .keyChecked tg body => requestOk tg body
  | .availQuery tg body => requestOk tg body
  | .issue tg body => requestOk tg body
  | .amend tg body => requestOk tg body
  | .handout tg body => requestOk tg body
  | .cancel tg body => requestOk tg body
  | .resume tg body => requestOk tg body
  | .forceClose tg body => requestOk tg body
  | .retire tg body => requestOk tg body
  | .contractQuery tg body => requestOk tg body
  | .listLate tg body => requestOk tg body
  | .openRelease tg body => requestOk tg body
  | .cancelRelease tg body => requestOk tg body
  | .service tg body => requestOk tg body
  | .compartmentQuery tg body => requestOk tg body
  | .rescan tg body => requestOk tg body
  | .dropQuery tg body => requestOk tg body
  | .dropEmptied tg body => requestOk tg body
  | .fetch tg body => requestOk tg body
  | .consume tg body => requestOk tg body
  | .attentionQuery tg body => requestOk tg body
  | .acknowledge tg body => requestOk tg body
  | .forecastQuery tg body => requestOk tg body
  | .storeRead tg body => requestOk tg body
  | .storeStage tg body => requestOk tg body
  | .storeCommit tg body => requestOk tg body
  | .profileLock tg body => requestOk tg body
  | .unknownKind kind tg body => requestOk tg body && !requestKinds.contains kind.toNat
  | .frameDiscard len kind tg body check =>
      len.toNat == body.length + 2 && body.length ≤ 198
        && (frameSum len kind tg body check != 0 || tg == 0)
  | .overrun _ tg body => requestOk tg body
  | .badLength b => b.toNat < 2 || 200 < b.toNat
  | .stopBitError => true
  | .idleTimerExpiry => true
  | .frameSent => true
  | .powerUp _ => true
  | .storeWriteComplete => true
  | .minuteEvent => true
  | .latenessScanVisit => true
  | .doorOpened _ => true
  | .doorClosed _ => true
  | .windowExpiry _ => true
  | .holdExpiry _ => true
  | .scanCompletion found =>
    found.tags.length ≤ 4 && decide found.tags.Nodup && found.tags.all tagNumberOk
  | .digitKey _ => true
  | .clearKey => true
  | .okKey => true
  | .tagAtPad keyTag => tagNumberOk keyTag
  | .badgePresented badge => 1 ≤ badge && badge ≤ 4294967295
  | .callButtonPressed => true
  | .callButtonReleased => true
  | .longPress => true
  | .interDigitExpiry => true
  | .lockoutExpiry => true
  | .staffTimerExpiry => true
  | .resultHoldExpiry => true
  | .briefPromptExpiry => true
  | .chuteRead keyTag => keyTag.all tagNumberOk
  | .staffDoorOpened => true
  | .staffDoorClosed => true
  | .pagerPulseEnd => true
  | .byteReceived _ => true
  | .powerLoss => true

end Sys2Proof
end

