-- ==== Sys2Proof/Machine/Line.lean ====
section
/-! DEFINITION. The line (R168-R175): single bytes, the completion of a frame byte by byte, frames that are not
served, and the end of a frame's sending. -/

namespace Sys2Proof.Machine

/-! ### Completed frames (R172) -/

/-- The entry that owns a kind (R176); a kind that names no message is answered UNKNOWN_KIND. -/
def handlerOf (kind : Byte) (body : List Byte) : Handler :=
  match kind.toNat with
  | 0x01 => statusHandler body
  | 0x02 => setClockHandler body
  | 0x03 => setModeHandler body
  | 0x04 => startHandler false body
  | 0x05 => startHandler true body
  | 0x06 => timebaseHandler body
  | 0x10 => keyEnrolHandler body
  | 0x11 => keyEditHandler body
  | 0x12 => keyRemoveHandler body
  | 0x13 => keyQueryHandler body
  | 0x14 => keyHoldHandler body
  | 0x15 => keyCheckedHandler body
  | 0x16 => availQueryHandler body
  | 0x20 => issueHandler body
  | 0x21 => amendHandler body
  | 0x22 => handoutHandler body
  | 0x23 => cancelHandler body
  | 0x24 => resumeHandler body
  | 0x25 => forceCloseHandler body
  | 0x26 => retireHandler body
  | 0x27 => contractQueryHandler body
  | 0x28 => listLateHandler body
  | 0x30 => openHandler body
  | 0x31 => cancelReleaseHandler body
  | 0x32 => serviceHandler body
  | 0x33 => compartmentQueryHandler body
  | 0x34 => rescanHandler body
  | 0x38 => dropQueryHandler body
  | 0x39 => dropEmptiedHandler body
  | 0x40 => fetchHandler body
  | 0x41 => consumeHandler body
  | 0x42 => attentionQueryHandler body
  | 0x43 => acknowledgeHandler body
  | 0x48 => forecastQueryHandler body
  | 0x50 => storeReadHandler body
  | 0x51 => storeStageHandler body
  | 0x52 => storeCommitHandler body
  | 0x53 => profileLockHandler body
  | _ => fun _ => .error .unknownKind

/-- The kind of the reply to a request: its own plus 80h, or FFh for a kind of 80h or above (R172). -/
def replyKind (kind : Byte) : Byte := if kind.toNat < 0x80 then kind + 0x80 else 0xFF

/-- A frame whose check byte agreed (R172 steps 2 to 5). -/
def State.serve (s : State) (kind tg : Byte) (body : List Byte) : State :=
  s.deliver (replyKind kind) tg (handlerOf kind body)

/-- A frame has completed in the receiver (R172). -/
def State.completeFrame (s : State) (len kind tg : Byte) (body : List Byte) (check : Byte) : State :=
  if frameSum len kind tg body check ≠ 0 then s.discard else s.serve kind tg body

/-! ### Single bytes (R170) -/

/-- The receiver goes on with its frame and the idle timer restarts (R170). -/
def State.receiving (s : State) (r : Receiver) : State :=
  s.withLink { s.link with receiver := r, idle := some idleTicks }

/-- A byte without a stop-bit error, by the receive state (R170). -/
def State.receiveByte (s : State) (b : Byte) : State :=
  match s.link.receiver with
  | .hunt => if b = 0xA5 then s.receiving .length else s
  | .length =>
    if 2 ≤ b.toNat ∧ b.toNat ≤ 200 then s.receiving (.collect b.toNat []) else s.discard
  | .collect len bytes =>
    if len ≤ bytes.length + 1 then s.receiving (.check len (bytes ++ [b]))
    else s.receiving (.collect len (bytes ++ [b]))
  | .check len bytes =>
    match bytes with
    | kind :: tg :: body => s.completeFrame (byte len) kind tg body b
    | [_] => s.discard
    | [] => s.discard

/-- The frame under assembly is given up: a stop-bit error or the idle timer's end (R170). -/
def State.giveUpFrame (s : State) : State :=
  match s.link.receiver with
  | .hunt => s
  | .length => s.discard
  | .collect _ _ => s.discard
  | .check _ _ => s.discard

/-! ### The end of a frame's sending (R166, R173, R175, R178, R184) -/

/-- The transmitter is free and chooses its next frame (R175). -/
def State.sendNext (s : State) : State := (s.withLink { s.link with tx := .idle }).transmit true

/-- The last byte of a frame has been sent. A reply leaves the queue; the reply to RESTART or PURGE makes its
start (R178, R185), the reply to TIMEBASE changes the line's rate (R184). -/
def State.frameSent (s : State) : State :=
  match s.link.tx with
  | .idle => s
  | .attention _ => s.sendNext
  | .reply =>
    match s.link.replies with
    | [] => s.sendNext
    | r :: rest =>
      let s' := s.withLink { s.link with replies := rest, tx := .idle }
      match r.effect with
      | .nothing => s'.sendNext
      | .start cold => s'.start cold true
      | .rate =>
        (s'.withLink { s'.link with lineDivisor := s'.timeBase.divisor }).sendNext

/-! ### The commands -/

def execUnknownKind (kind tg : Byte) (body : List Byte) (s : State) :
    Host.Outcome State Fault Refusal :=
  s.taken (s.serve kind tg body)

def execFrameDiscard (len kind tg : Byte) (body : List Byte) (check : Byte) (s : State) :
    Host.Outcome State Fault Refusal :=
  s.taken (s.completeFrame len kind tg body check)

def execOverrun (kind tg : Byte) (body : List Byte) (s : State) : Host.Outcome State Fault Refusal :=
  s.taken (s.serve kind tg body)

def execBadLength (b : Byte) (s : State) : Host.Outcome State Fault Refusal :=
  s.taken (s.receiveByte b)

def execStopBitError (s : State) : Host.Outcome State Fault Refusal := s.taken s.giveUpFrame

/-- The idle timer ends: within a frame the frame is discarded (R170), whatever ticks the timer has left, so also behind
the byte that restarted it (log 44, DESIGN CHOICE); in HUNT it has no effect (log 9, DESIGN CHOICE). -/
def execIdleTimerExpiry (s : State) : Host.Outcome State Fault Refusal := s.taken s.giveUpFrame

/-- Without effect while the transmitter is idle (log 9, DESIGN CHOICE). -/
def execFrameSent (s : State) : Host.Outcome State Fault Refusal := s.taken s.frameSent

def execByteReceived (b : Byte) (s : State) : Host.Outcome State Fault Refusal :=
  s.taken (s.receiveByte b)

end Sys2Proof.Machine
end

