-- ==== Sys2Proof/Machine/Supply.lean ====
section
/-! DEFINITION. The events of power and of time: POWER_UP, POWER_LOSS, MINUTE_EVENT and LATENESS_SCAN_VISIT
(R114, R124, R182, R183, R186). -/

namespace Sys2Proof.Machine

/-- A minute event delivered to the overdue monitor (R114): a RUNNING clock advances, saturating, and a
lateness scan is requested with the new value. -/
def State.advanceClock (s : State) : State :=
  match s.overdue.clock with
  | .running =>
    let v := min (s.overdue.value + 1) lastMinute
    (s.withOverdue { s.overdue with value := v }).requestScan v
  | .notSet => s
  | .stale => s

/-- The tick count returns to 0 and the minute event is taken (R114, R183). -/
def State.minuteEvent (s : State) : State :=
  (s.withTimeBase { s.timeBase with ticks := 0 }).advanceClock

def execPowerUp (backupLost : Bool) (s : State) : Host.Outcome State Fault Refusal :=
  .next (s.power backupLost)

def execPowerLoss (s : State) : Host.Outcome State Fault Refusal := s.taken s.losePower

def execMinuteEvent (s : State) : Host.Outcome State Fault Refusal := s.taken s.minuteEvent

/-- Without effect while no lateness scan is in flight (log 9, DESIGN CHOICE). -/
def execLatenessScanVisit (s : State) : Host.Outcome State Fault Refusal :=
  s.taken (if s.overdue.scan.scanning then s.visit.settle else s)

end Sys2Proof.Machine
end

