-- ==== Sys2Proof/Machine/Dispatch.lean ====
section
/-! DEFINITION. The meaning of every command: one arm for each row of the opcode table. -/

namespace Sys2Proof.Machine

def exec (i : Instr) (s : State) : Host.Outcome State Fault Refusal :=
  match i with
  | .status tg body => Sys2Proof.Machine.execStatus tg body s
  | .setClock tg body => Sys2Proof.Machine.execSetClock tg body s
  | .setMode tg body => Sys2Proof.Machine.execSetMode tg body s
  | .restart tg body => Sys2Proof.Machine.execRestart tg body s
  | .purge tg body => Sys2Proof.Machine.execPurge tg body s
  | .timebase tg body => Sys2Proof.Machine.execTimebase tg body s
  | .keyEnrol tg body => Sys2Proof.Machine.execKeyEnrol tg body s
  | .keyEdit tg body => Sys2Proof.Machine.execKeyEdit tg body s
  | .keyRemove tg body => Sys2Proof.Machine.execKeyRemove tg body s
  | .keyQuery tg body => Sys2Proof.Machine.execKeyQuery tg body s
  | .keyHold tg body => Sys2Proof.Machine.execKeyHold tg body s
  | .keyChecked tg body => Sys2Proof.Machine.execKeyChecked tg body s
  | .availQuery tg body => Sys2Proof.Machine.execAvailQuery tg body s
  | .issue tg body => Sys2Proof.Machine.execIssue tg body s
  | .amend tg body => Sys2Proof.Machine.execAmend tg body s
  | .handout tg body => Sys2Proof.Machine.execHandout tg body s
  | .cancel tg body => Sys2Proof.Machine.execCancel tg body s
  | .resume tg body => Sys2Proof.Machine.execResume tg body s
  | .forceClose tg body => Sys2Proof.Machine.execForceClose tg body s
  | .retire tg body => Sys2Proof.Machine.execRetire tg body s
  | .contractQuery tg body => Sys2Proof.Machine.execContractQuery tg body s
  | .listLate tg body => Sys2Proof.Machine.execListLate tg body s
  | .openRelease tg body => Sys2Proof.Machine.execOpen tg body s
  | .cancelRelease tg body => Sys2Proof.Machine.execCancelRelease tg body s
  | .service tg body => Sys2Proof.Machine.execService tg body s
  | .compartmentQuery tg body => Sys2Proof.Machine.execCompartmentQuery tg body s
  | .rescan tg body => Sys2Proof.Machine.execRescan tg body s
  | .dropQuery tg body => Sys2Proof.Machine.execDropQuery tg body s
  | .dropEmptied tg body => Sys2Proof.Machine.execDropEmptied tg body s
  | .fetch tg body => Sys2Proof.Machine.execFetch tg body s
  | .consume tg body => Sys2Proof.Machine.execConsume tg body s
  | .attentionQuery tg body => Sys2Proof.Machine.execAttentionQuery tg body s
  | .acknowledge tg body => Sys2Proof.Machine.execAcknowledge tg body s
  | .forecastQuery tg body => Sys2Proof.Machine.execForecastQuery tg body s
  | .storeRead tg body => Sys2Proof.Machine.execStoreRead tg body s
  | .storeStage tg body => Sys2Proof.Machine.execStoreStage tg body s
  | .storeCommit tg body => Sys2Proof.Machine.execStoreCommit tg body s
  | .profileLock tg body => Sys2Proof.Machine.execProfileLock tg body s
  | .unknownKind kind tg body => Sys2Proof.Machine.execUnknownKind kind tg body s
  | .frameDiscard len kind tg body check => Sys2Proof.Machine.execFrameDiscard len kind tg body check s
  | .overrun kind tg body => Sys2Proof.Machine.execOverrun kind tg body s
  | .badLength b => Sys2Proof.Machine.execBadLength b s
  | .stopBitError => Sys2Proof.Machine.execStopBitError s
  | .idleTimerExpiry => Sys2Proof.Machine.execIdleTimerExpiry s
  | .frameSent => Sys2Proof.Machine.execFrameSent s
  | .powerUp backupLost => Sys2Proof.Machine.execPowerUp backupLost s
  | .storeWriteComplete => Sys2Proof.Machine.execStoreWriteComplete s
  | .minuteEvent => Sys2Proof.Machine.execMinuteEvent s
  | .latenessScanVisit => Sys2Proof.Machine.execLatenessScanVisit s
  | .doorOpened n => Sys2Proof.Machine.execDoorOpened n s
  | .doorClosed n => Sys2Proof.Machine.execDoorClosed n s
  | .windowExpiry n => Sys2Proof.Machine.execWindowExpiry n s
  | .holdExpiry n => Sys2Proof.Machine.execHoldExpiry n s
  | .scanCompletion found => Sys2Proof.Machine.execScanCompletion found s
  | .digitKey d => Sys2Proof.Machine.execDigitKey d s
  | .clearKey => Sys2Proof.Machine.execClearKey s
  | .okKey => Sys2Proof.Machine.execOkKey s
  | .tagAtPad keyTag => Sys2Proof.Machine.execTagAtPad keyTag s
  | .badgePresented badge => Sys2Proof.Machine.execBadgePresented badge s
  | .callButtonPressed => Sys2Proof.Machine.execCallButtonPressed s
  | .callButtonReleased => Sys2Proof.Machine.execCallButtonReleased s
  | .longPress => Sys2Proof.Machine.execLongPress s
  | .interDigitExpiry => Sys2Proof.Machine.execInterDigitExpiry s
  | .lockoutExpiry => Sys2Proof.Machine.execLockoutExpiry s
  | .staffTimerExpiry => Sys2Proof.Machine.execStaffTimerExpiry s
  | .resultHoldExpiry => Sys2Proof.Machine.execResultHoldExpiry s
  | .briefPromptExpiry => Sys2Proof.Machine.execBriefPromptExpiry s
  | .chuteRead keyTag => Sys2Proof.Machine.execChuteRead keyTag s
  | .staffDoorOpened => Sys2Proof.Machine.execStaffDoorOpened s
  | .staffDoorClosed => Sys2Proof.Machine.execStaffDoorClosed s
  | .pagerPulseEnd => Sys2Proof.Machine.execPagerPulseEnd s
  | .byteReceived b => Sys2Proof.Machine.execByteReceived b s
  | .powerLoss => Sys2Proof.Machine.execPowerLoss s

end Sys2Proof.Machine
end

