-- ==== Sys2Proof/Machine/Tick.lean ====
section
/-! DEFINITION. One tick of the time base (R183): every running timer counts, and the timers that end put
their expiries into the queue (log 1, DESIGN CHOICE, log 2, DEDUCED). -/

namespace Sys2Proof.Machine

/-! ### Counting -/

/-- A timer's remaining ticks after one tick. -/
def countDown (t : Option Nat) : Option Nat := t.map (· - 1)

/-- A timer ends in this tick: its last remaining tick is counted. -/
def endsNow (t : Option Nat) : Bool := t == some 1

def Compartment.tick (c : Compartment) : Compartment :=
  { c with window := countDown c.window, hold := countDown c.hold }

def Kiosk.tick (k : Kiosk) : Kiosk :=
  { k with
    interDigit := countDown k.interDigit, lockout := countDown k.lockout
    staffTimer := countDown k.staffTimer, resultHold := countDown k.resultHold
    brief := countDown k.brief, press := countDown k.press }

/-- A command, when its timer ends in this tick. -/
def expiryOf (t : Option Nat) (c : Instr) : List Instr := if endsNow t then [c] else []

/-- The expiries of a tick, the compartments' in number order and then the others'. -/
def State.expiries (s : State) : List Instr :=
  ((fins 192).flatMap fun n =>
      expiryOf (s.comp n).window (.windowExpiry n) ++ expiryOf (s.comp n).hold (.holdExpiry n))
    ++ expiryOf s.kiosk.interDigit .interDigitExpiry ++ expiryOf s.kiosk.lockout .lockoutExpiry
    ++ expiryOf s.kiosk.staffTimer .staffTimerExpiry
    ++ expiryOf s.kiosk.resultHold .resultHoldExpiry ++ expiryOf s.kiosk.brief .briefPromptExpiry
    ++ expiryOf s.kiosk.press .longPress ++ expiryOf s.notices.pager .pagerPulseEnd
    ++ expiryOf s.link.idle .idleTimerExpiry
    ++ (if s.timeBase.ticks = 59999 then [.minuteEvent] else [])

/-- Inserts a command by the free rank of log 2, DEDUCED. -/
def insertByRank (r : Instr → Nat) (c : Instr) : List Instr → List Instr
  | [] => [c]
  | x :: xs => if r c ≤ r x then c :: x :: xs else x :: insertByRank r c xs

/-- The commands in the order of their free ranks: the manual lets timers that end together be taken in
either order (log 2, DEDUCED). -/
def orderFreely (r : Instr → Nat) (cs : List Instr) : List Instr := cs.foldr (insertByRank r) []

/-- Every running timer and the count within the minute advance by one tick (R183). -/
def State.countAll (s : State) : State :=
  { s with
    compartments := { s.compartments with table := s.compartments.table.map Compartment.tick }
    kiosk := s.kiosk.tick
    notices := { s.notices with pager := countDown s.notices.pager }
    link := { s.link with idle := countDown s.link.idle }
    timeBase := { s.timeBase with ticks := (s.timeBase.ticks + 1) % 60000 } }

/-- One tick (R183). A part without power counts nothing. -/
def State.tick (s : State) : State :=
  if s.powered then
    match s.expiries with
    | [] => s.countAll
    | [c] => s.countAll.withPending (s.pending ++ [c])
    | cs =>
      (s.countAll.withPending (s.pending ++ orderFreely (Config.expiryRank s.free) cs)).withFree
        (s.free + 1)
  else s

end Sys2Proof.Machine
end

