-- ==== Sys2Proof/Safety.lean ====
section
/-! DEFINITION. What claims say about the machine: when a request is served and how it is answered, and the
laws of the records that every event keeps. -/

namespace Sys2Proof.Machine

/-! ### Requests and their answers -/

/-- A request frame with this TAG is delivered and answered: the part has power, the TAG is not 0, and the
reply queue has room (R172, R173). -/
def State.serves (s : State) (tg : Byte) : Prop :=
  s.powered = true ∧ tg ≠ 0 ∧ s.link.replies.length < 4

/-- `s` with the line as an answered request leaves it: the reply has joined the tail of the reply queue, the
receiver has no frame under assembly and its idle timer is stopped (R170, R172, R173). -/
def State.answered (s : State) (kind tg : Byte) (body : List Byte)
    (effect : ReplyEffect := .nothing) : State :=
  { s with link := { s.link with
    receiver := .hunt, idle := none
    replies := s.link.replies ++ [{ kind := kind, tag := tg, body := body, effect := effect }] } }

/-- The setting of a cause in the ALERT record's working copy (R163). -/
def State.alertOf (s : State) (c : Cause) : CauseSetting := s.store.working.alert.value.get c.place

/-- The highest pending cause whose report setting is yes (R166). -/
def State.reportCause (s : State) : Option Cause := s.notices.pending.find? fun c => (s.alertOf c).report

/-- The attention frame of the causes as they stand: KIND FEh, TAG 0, the cause it reports and one byte for each
cause (R166, R175). -/
def State.reportFrame (s : State) : Frame :=
  ⟨0xFE, 0, (match s.reportCause with
      | none => 0
      | some c => BitVec.ofNat 8 c.code)
    :: Cause.all.map fun c => if c ∈ s.notices.pending then 1 else 0⟩

/-- The transmitter's part of an event that left the line as in `e`, but for the frame-waiting mark, which stands as
`mark` (R166, R175): a frame being sent goes on; an idle transmitter begins the attention frame when the mark is set
and the cause differs from the last reported one, and otherwise the oldest reply, a mark without a difference being
cleared; with a mark and a reply that became ready together either goes first. -/
def LineTaken (e t : State) (mark : Bool) : Prop :=
  let replies := t.link.tx = (if e.link.replies = [] then .idle else .reply)
    ∧ t.link.lastReported = e.link.lastReported
  (e.link.tx ≠ .idle → t.link.tx = e.link.tx ∧ t.link.lastReported = e.link.lastReported
      ∧ t.link.mark = mark)
    ∧ (e.link.tx = .idle → (mark = false ∨ t.reportCause = e.link.lastReported) →
      replies ∧ t.link.mark = false)
    ∧ (e.link.tx = .idle → mark = true → t.reportCause ≠ e.link.lastReported →
      (t.link.tx = .attention t.reportFrame ∧ t.link.lastReported = t.reportCause ∧ t.link.mark = false)
      ∨ (e.link.replies ≠ [] ∧ replies ∧ t.link.mark = true))

/-- `t` is `e` but for the frame that an idle transmitter begins, and the free values drawn (R175). -/
def Sent (e t : State) : Prop :=
  t = { e with
      link := { e.link with
        tx := t.link.tx, lastReported := t.link.lastReported, mark := t.link.mark }
      free := t.free }
    ∧ LineTaken e t e.link.mark

/-- A refusal: the reply is the status byte alone, and nothing but the line has changed (R172). -/
def Refused (s t : State) (kind tg : Byte) (code : Nat) : Prop :=
  Sent (s.answered kind tg [BitVec.ofNat 8 code]) t

/-- The state with its frame discarded: the receiver hunts, its timer is stopped, the link-error flag is set,
and nothing else has changed (R170, R171). -/
def State.frameLost (s : State) : State :=
  { s with link := { s.link with receiver := .hunt, idle := none, error := true } }

/-- The body length of each kind whose entry gives one length (R8-R14, R34-R37, R54, R60-R66, R69, R80-R82,
R109, R111, R115, R140, R148, R154, R158, R159, R161, R162, R177, R180, R182, R184, R185). -/
def bodyLengths : List (Byte × Nat) :=
  [(0x01, 0), (0x02, 4), (0x03, 1), (0x04, 0), (0x05, 0), (0x06, 2), (0x10, 17), (0x11, 14), (0x12, 2),
    (0x14, 3), (0x15, 2), (0x16, 2), (0x20, 31), (0x21, 30), (0x22, 7), (0x23, 4), (0x24, 4),
    (0x25, 4), (0x26, 4), (0x27, 4), (0x28, 3), (0x30, 1), (0x31, 1), (0x32, 2), (0x33, 1), (0x34, 1),
    (0x38, 1), (0x39, 0), (0x40, 0), (0x41, 2), (0x42, 0), (0x43, 1), (0x48, 0), (0x50, 2), (0x52, 0),
    (0x53, 0)]

/-- The kind of each request row with the row's constructor (R176). -/
def requestRows : List (Byte × (Byte → List Byte → Instr)) :=
  [(0x01, .status), (0x02, .setClock), (0x03, .setMode), (0x04, .restart), (0x05, .purge),
    (0x06, .timebase), (0x10, .keyEnrol), (0x11, .keyEdit), (0x12, .keyRemove), (0x13, .keyQuery),
    (0x14, .keyHold), (0x15, .keyChecked), (0x16, .availQuery), (0x20, .issue), (0x21, .amend),
    (0x22, .handout), (0x23, .cancel), (0x24, .resume), (0x25, .forceClose), (0x26, .retire),
    (0x27, .contractQuery), (0x28, .listLate), (0x30, .openRelease), (0x31, .cancelRelease),
    (0x32, .service), (0x33, .compartmentQuery), (0x34, .rescan), (0x38, .dropQuery),
    (0x39, .dropEmptied), (0x40, .fetch), (0x41, .consume), (0x42, .attentionQuery),
    (0x43, .acknowledge), (0x48, .forecastQuery), (0x50, .storeRead), (0x51, .storeStage),
    (0x52, .storeCommit), (0x53, .profileLock)]

/-- Commands taken one after the other. -/
def runs : List Instr → State → Host.Outcome State Fault Refusal
  | [], s => .next s
  | c :: cs, s => match exec c s with
    | .next t => runs cs t
    | .fault f => .fault f
    | .refused r => .refused r

/-! ### Notices and causes -/

/-- A cause is pending while its condition holds (R160). -/
def State.CauseHolds (s : State) : Cause → Prop
  | .forcedDoor => ∃ n, (s.comp n).forced = true
  | .doorLeftOpen => ∃ n, (s.comp n).door = .leftOpen
  | .late3Present => ∃ sl c, s.slot sl = some c ∧ c.isOpen = true ∧ c.tier = .late3
  | .dropFull => 48 ≤ s.drop.entries.length
  | .capacityShort => s.overdue.forecast.short = true
  | .staffCall => s.notices.callLatch = true
  | .keyAnomaly => (∃ k r, s.key k = some r ∧ r.location = .missing)
      ∨ ∃ n x, Item.foreign x ∈ (s.comp n).contents
  | .latePresent => ∃ sl c, s.slot sl = some c ∧ c.isOpen = true ∧ (c.tier = .late1 ∨ c.tier = .late2)
  | .noticeOverflow => s.notices.overflow = true
  | .noticesWaiting => s.store.working.profile.value.trigger ≤ s.notices.ring.length

/-- The number of open contracts at a stored tier (R127). -/
def State.openAt (s : State) (x : Tier) : Nat :=
  s.contracts.slots.rows.countP fun r => r.any fun c => c.isOpen && c.tier == x

/-- The pending set is exactly the causes whose conditions hold, in priority order; the counts are those of the
records; the beacon shows the mode of the highest pending cause whose mode is not OFF (R127, R160, R164). -/
def State.AttentionOk (s : State) : Prop :=
  (∀ c, c ∈ s.notices.pending ↔ s.CauseHolds c)
    ∧ s.notices.pending.Pairwise (fun a b => a.code < b.code)
    ∧ s.overdue.counts
      = ⟨s.openAt .none, s.openAt .soon, s.openAt .late1, s.openAt .late2, s.openAt .late3⟩
    ∧ s.notices.missing = (s.keys.places.rows.countP fun r => r.any fun k => k.location == .missing)
    ∧ s.notices.foreign = (s.compartments.table.rows.countP fun c => c.contents.any Item.isForeign)
    ∧ s.notices.beacon = ((s.notices.pending.map fun c => (s.alertOf c).beacon).find? (· != .off)).getD .off

/-- Without the frame-waiting mark the last reported cause is the highest pending report-enabled one (R166). -/
def State.ReportOk (s : State) : Prop := s.link.mark = false → s.reportCause = s.link.lastReported

/-- `t` is `e` with its causes re-examined at the event's end: the pending set, the counts behind it and the
beacon follow the records, a pulse of 2 s is in progress when one was, or when a pager-enabled cause has become
pending in UNSTAFFED, the frame-waiting mark is set when the highest report-enabled cause differs from the last
reported one, and an idle transmitter begins its next frame (R160, R164-R166, R175). -/
def Settled (e t : State) : Prop :=
  t = { e with
      notices := { e.notices with
        pending := t.notices.pending, missing := t.notices.missing, foreign := t.notices.foreign
        beacon := t.notices.beacon, pager := t.notices.pager }
      overdue := { e.overdue with counts := t.overdue.counts }
      link := { e.link with
        tx := t.link.tx, lastReported := t.link.lastReported, mark := t.link.mark }
      free := t.free }
    ∧ t.AttentionOk
    ∧ t.notices.pager
      = (if e.notices.pager.isSome then e.notices.pager
        else if e.mode = .unstaffed
            ∧ ∃ c ∈ t.notices.pending, c ∉ e.notices.pending ∧ (e.alertOf c).pager = true then
          some 2000
        else none)
    ∧ LineTaken e t (e.link.mark || t.reportCause != e.link.lastReported)

/-- `t` is `e`, whose transmitter has become free, with the next frame begun (R175): the attention frame when
the mark is set and the cause differs from the last reported one, else the oldest reply, else nothing. -/
def NextFrame (e t : State) : Prop :=
  if e.link.mark = true ∧ e.reportCause ≠ e.link.lastReported then
    t = { e with link := { e.link with
      tx := .attention e.reportFrame, lastReported := e.reportCause, mark := false } }
  else
    t = { e with link := { e.link with
      mark := false, tx := if e.link.replies = [] then .idle else .reply } }

/-- `s` with these notices entered, in their order (R157). -/
def State.noted (s : State) (bs : List NoticeBody) : State :=
  { s with notices := bs.foldl NoticeUnit.enter s.notices }

/-! ### Availability lists (R5, R6) -/

/-- The conditions of R5 for key `k`, with `r` as its record. -/
def MayBeListed (s : State) (k : KeyId) (r : KeyRecord) : Prop :=
  (∃ n, r.location = .compartment n ∧ (s.comp n).service = .inService ∧ (s.comp n).known = true
      ∧ (s.comp n).contents = [.key k])
    ∧ r.hold = false ∧ r.mark = .checked ∧ r.promisedTo = none
    ∧ ∀ sl c, s.slot sl = some c → c.claims k = false

/-- Key `k` took the record `r` and was re-examined: it is outside its list when R5 fails; when R5 holds and it
was outside, it has joined with the event's minute, or 0, as idle-since, and the others keep their order. No
other key's record and no other list has changed (R5, R6). -/
def Reexamined (s t : State) (k : KeyId) (r : KeyRecord) : Prop :=
  (¬ MayBeListed s k r → t.key k = some r
      ∧ t.keys.lists.get r.group = (s.keys.lists.get r.group).filter (· != k))
    ∧ (MayBeListed s k r → k ∉ s.keys.lists.get r.group →
        t.key k = some { r with idleSince := if s.overdue.clock = .running then s.overdue.value else 0 }
          ∧ k ∈ t.keys.lists.get r.group
          ∧ (t.keys.lists.get r.group).filter (· != k) = s.keys.lists.get r.group)
    ∧ (MayBeListed s k r → k ∈ s.keys.lists.get r.group → t.key k = some r
      ∧ t.keys.lists.get r.group = s.keys.lists.get r.group)
    ∧ (∀ j, j ≠ k → t.key j = s.key j)
    ∧ ∀ g, g ≠ r.group → t.keys.lists.get g = s.keys.lists.get g

/-- Every availability list holds only enrolled keys of its group that R5 allows, in the order of idle-since
and then of index. -/
def State.AvailOk (s : State) : Prop :=
  ∀ g, (s.keys.lists.get g).Pairwise (fun a b => ∀ x y, s.key a = some x → s.key b = some y →
      x.idleSince < y.idleSince ∨ (x.idleSince = y.idleSince ∧ a < b))
    ∧ ∀ k ∈ s.keys.lists.get g, ∃ r, s.key k = some r ∧ r.group = g ∧ MayBeListed s k r

/-- Every key that R5 allows is in its group's list (R5: exactly when). -/
def State.AvailExact (s : State) : Prop :=
  ∀ k r, s.key k = some r → MayBeListed s k r → k ∈ s.keys.lists.get r.group

/-- Every key that R5 allows and whose compartment is LOCKED, WAITING or UNLATCHED is in its group's list. A key whose
compartment was put back in service rejoins with the scan (R31; log 28), without which its door is none of the three. -/
def State.AvailBehindDoors (s : State) : Prop :=
  ∀ k r n, s.key k = some r → MayBeListed s k r → r.location = .compartment n →
    ((s.comp n).door = .locked ∨ (s.comp n).door = .waiting ∨ (s.comp n).door = .unlatched) →
    k ∈ s.keys.lists.get r.group

/-- A label: one to eight printable characters, the first and the last not a space (R7). -/
def LabelOk (l : List Byte) : Prop :=
  1 ≤ l.length ∧ l.length ≤ 8 ∧ (∀ b ∈ l, 0x20 ≤ b.toNat ∧ b.toNat ≤ 0x7E) ∧ l.head? ≠ some 0x20
    ∧ l.getLast? ≠ some 0x20

/-- A label in its eight bytes, padded with spaces (R176). -/
def padded (l : List Byte) : List Byte := l ++ List.replicate (8 - l.length) 0x20

/-! ### Scan requests (R41, R42) -/

/-- A scan list entry without its reading mark. -/
def ScanEntry.unread (e : ScanEntry) : ScanEntry := { e with reading := false }

/-- The compartments `q`, none of which held an entry, have joined the scan list in this order with SWEEP
entries, those in LOCKED going to SCANNING; a read in flight goes on (R41, R42). -/
def SweepQueued (s t : State) (q : List CompId) : Prop :=
  t.scanner.list.map ScanEntry.unread
      = s.scanner.list.map ScanEntry.unread ++ q.map (fun n => ⟨n, .sweep, .nothing, false⟩)
    ∧ (∀ e ∈ s.scanner.list, e.reading = true → e ∈ t.scanner.list)
    ∧ ∀ n, t.comp n = if n ∈ q ∧ (s.comp n).door = .locked then { s.comp n with door := .scanning }
      else s.comp n

/-- The scan list is the same but for a read that may have begun (R42). -/
def ListKept (s t : State) : Prop :=
  t.scanner.list.map ScanEntry.unread = s.scanner.list.map ScanEntry.unread
    ∧ ∀ e ∈ s.scanner.list, e.reading = true → e ∈ t.scanner.list

/-- The SWEEP_DONE notice of an event after which a sweep in progress has no SWEEP entry left (R45). -/
def State.sweepNotice (s : State) (unknown : Nat) : List NoticeBody :=
  if s.scanner.sweeping = true ∧ ∀ e ∈ s.scanner.list, e.cls ≠ .sweep then
    [{ kind := .sweepDone, minute := s.present, detailB := unknown }] else []

/-! ### Releases (R19-R24, R30) -/

/-- A release request for compartment `n` was taken (R20, R21): a free channel, channel 1 first, is granted to it
and its window starts; with both channels busy it waits, a priority request behind the last priority request, a
renter request at the tail. No other compartment has changed. -/
def ReleaseTaken (s t : State) (n : CompId) (r : Release) : Prop :=
  let placed : Compartment := { s.comp n with
    door := .waiting, release := some r
    reservation := match r.purpose with
      | .ret c _ => some c
      | _ => (s.comp n).reservation }
  let granted : Compartment := { placed with
    door := .unlatched, window := some (s.store.working.profile.value.window * 1000) }
  (∀ m, m ≠ n → t.comp m = s.comp m)
    ∧ (s.compartments.channel1 = none → t.comp n = granted ∧ t.compartments.channel1 = some n
      ∧ t.compartments.channel2 = s.compartments.channel2
      ∧ t.compartments.queue = s.compartments.queue)
    ∧ (s.compartments.channel1 ≠ none → s.compartments.channel2 = none → t.comp n = granted
      ∧ t.compartments.channel1 = s.compartments.channel1 ∧ t.compartments.channel2 = some n
      ∧ t.compartments.queue = s.compartments.queue)
    ∧ (s.compartments.channel1 ≠ none → s.compartments.channel2 ≠ none → t.comp n = placed
      ∧ t.compartments.channel1 = s.compartments.channel1
      ∧ t.compartments.channel2 = s.compartments.channel2
      ∧ t.compartments.queue = if r.priority then
          s.compartments.queue.filter s.priorityAt ++ [n]
            ++ s.compartments.queue.filter (fun m => !s.priorityAt m)
        else s.compartments.queue ++ [n])

/-- The six bytes of an item of a compartment's contents (R37). -/
def itemFields : Item → List Byte
  | .key k => 0 :: toBytes 5 k.val
  | .foreign x => 1 :: toBytes 5 x

/-- The thirteen bytes of a current release: present, purpose, origin, contract, key, badge (R37). -/
def releaseFields : Option Release → List Byte
  | none => List.replicate 13 0
  | some ⟨.pickup c k, o⟩ => [1, 0, byte o.code] ++ toBytes 4 c ++ toBytes 2 k.val ++ [0, 0, 0, 0]
  | some ⟨.ret c k, o⟩ => [1, 1, byte o.code] ++ toBytes 4 c ++ toBytes 2 k.val ++ [0, 0, 0, 0]
  | some ⟨.staff b, o⟩ => [1, 2, byte o.code, 0, 0, 0, 0, 0, 0] ++ toBytes 4 b
  | some ⟨.link, o⟩ => [1, 3, byte o.code] ++ List.replicate 10 0

/-- The position a request for a release takes in its reply: 0 when its channel was granted, else its place in
the queue from 1 (R34, R69). -/
def State.priorityPosition (s : State) : Nat :=
  if s.compartments.channel1 = none ∨ s.compartments.channel2 = none then 0
  else (s.compartments.queue.filter s.priorityAt).length + 1

/-- Compartment `n`'s channel was freed and granted to the head of the queue, when one waited, whose window
starts; no other compartment but `n` has changed (R22). -/
def Regranted (s t : State) (n : CompId) : Prop :=
  t.compartments.queue = s.compartments.queue.tail
    ∧ t.compartments.channel1 = (if s.compartments.channel1 = some n then s.compartments.queue.head?
      else s.compartments.channel1)
    ∧ t.compartments.channel2 = (if s.compartments.channel2 = some n then s.compartments.queue.head?
      else s.compartments.channel2)
    ∧ ∀ m, m ≠ n → t.comp m = if s.compartments.queue.head? = some m then
        { s.comp m with
          door := .unlatched, window := some (s.store.working.profile.value.window * 1000) }
      else s.comp m

/-- Compartment `n`'s release ended before its door opened (R18, R19, R24, R30): its record is removed, with the
reservation of a RETURN, its door is LOCKED, or SCANNING when it has a scan list entry, and its place in the queue
or its channel is given up. -/
def ReleaseDropped (s t : State) (n : CompId) : Prop :=
  t.comp n = { s.comp n with
      door := if s.scanner.list.any (·.comp == n) then .scanning else .locked
      window := none, release := none
      reservation := match (s.comp n).release.map Release.purpose with
        | some (.ret _ _) => none
        | _ => (s.comp n).reservation }
    ∧ ((s.comp n).door = .waiting →
      t.compartments.queue = s.compartments.queue.filter (· != n)
        ∧ t.compartments.channel1 = s.compartments.channel1
        ∧ t.compartments.channel2 = s.compartments.channel2 ∧ ∀ m, m ≠ n → t.comp m = s.comp m)
    ∧ ((s.comp n).door = .unlatched → Regranted s t n)

/-- The kiosk after the release it waits for at `n` ended unopened: from WAIT_DOOR for `n` it returns to IDLE
(R90). -/
def State.kioskAfter (s : State) (n : CompId) : Kiosk :=
  if s.kiosk.mode = .waitDoor ∧ s.kiosk.waited.map Prod.fst = some n then s.kiosk.toIdle s.idlePrompt
  else s.kiosk

/-- The kiosk after the STAFF release of compartment `n` was told OPENED, EXPIRED or CANCELLED: when the session it
is in asked for it, the prompt is STAFF_READY (R94, R95). -/
def State.kioskTold (s : State) (n : CompId) : Kiosk :=
  if s.kiosk.mode = .staff ∧ n ∈ s.kiosk.opens then
    { s.kiosk with prompt := .staffReady, opens := s.kiosk.opens.filter (· != n) }
  else s.kiosk

/-- The notices of a failed pickup of key `k` for the contract `d`, naming compartment `n` (R51, R72, R156). -/
def handoutFailed (m : Option Nat) (n : CompId) (k : KeyId) (d : Contract) (reason : Nat) :
    List NoticeBody :=
  { kind := .handoutFailed, minute := m, comp := some n, key := some k, contract := some d.number
    detailA := reason, detailB := d.attempts + 1 }
  :: if d.attempts + 1 < 3 then [] else
    [{ kind := .ticketSuspended, minute := m, key := some k, contract := some d.number, detailB := 3 }]

/-- The contract of a failed pickup: TICKET again, or SUSPENDED at its third failure (R51, R72). -/
def fellBack (d : Contract) : Contract :=
  { d with
    state := if d.attempts + 1 < 3 then .ticket else .suspended
    attempts := d.attempts + 1, key := none, grantedGroup := none }

/-- The kiosk's display with what it shows of an earlier event ended: in IDLE a result prompt and its hold (R85), in
CODE_ENTRY, WAIT_DOOR and CALLING a brief prompt, the state's own prompt returning (R84). -/
def State.displayEnded (s : State) : Kiosk :=
  match s.kiosk.mode, s.kiosk.waited with
  | .idle, _ => { s.kiosk with prompt := s.idlePrompt, resultHold := none }
  | .codeEntry, _ => { s.kiosk with prompt := .enterCode, brief := none }
  | .calling, _ => { s.kiosk with prompt := .callingStaff, brief := none }
  | .waitDoor, some (n, .pickup) => { s.kiosk with prompt := .openDoor n, brief := none }
  | .waitDoor, some (n, .ret) => { s.kiosk with prompt := .returnTo n, brief := none }
  | .waitDoor, none => { s.kiosk with brief := none }
  | .staff, _ => s.kiosk
  | .lockout, _ => s.kiosk

/-- `e` is `s` after release `r` of compartment `n` ended unopened and its owner was told, with the reason as a
notice's detail A, 1 EXPIRED or 2 CANCELLED (R72, R77, R90, R95): a pickup falls back, its third failure suspends
the ticket, and its key is re-examined; a return's contract is OUT again. -/
def OwnerTold (s e : State) (n : CompId) (r : Release) (reason : Nat) : Prop :=
  match r.purpose with
  | .link => e = s
  | .staff _ => e = { s with kiosk := s.kioskTold n }
  | .ret c k =>
    ((∀ sl d, s.slot sl = some d → d.number = c → d.state ≠ .returning) →
        e = { s with kiosk := s.kioskAfter n })
      ∧ ∀ sl d, s.slot sl = some d → d.number = c → d.state = .returning →
        e = { s.noted [{ kind := .returnFailed, minute := s.present, comp := some n, key := some k
                         contract := some c, detailA := reason }] with
          kiosk := s.kioskAfter n
          contracts := { s.contracts with
            slots := s.contracts.slots.set sl (some { d with state := .out }) } }
  | .pickup c k =>
    ∀ sl d, s.slot sl = some d → d.number = c → d.state = .picking →
      e = { s.noted (handoutFailed s.present n k d reason) with
          kiosk := s.kioskAfter n
          contracts := { s.contracts with slots := s.contracts.slots.set sl (some (fellBack d)) }
          keys := e.keys }
        ∧ ∀ x, s.key k = some x →
          Reexamined { s with contracts := e.contracts } e k { x with promisedTo := none }

/-- Contract `number`, whose key is `k`, was closed by another route: the release of its return in flight is cancelled
when its door has not opened, and otherwise runs on with its reservation cleared; without a return in flight no
compartment has changed (R79, R80). -/
def ReturnGivenUp (s t : State) (number : Nat) (k : KeyId) : Prop :=
  ListKept s t
    ∧ ((∀ n, (s.comp n).reservation ≠ some number) →
      t.compartments = s.compartments ∧ t.kiosk = s.kiosk)
    ∧ ∀ n, (s.comp n).reservation = some number →
      (s.comp n).release.map Release.purpose = some (.ret number k) →
      (∀ m, m ≠ n → (s.comp m).reservation ≠ some number) →
      ((s.comp n).door = .waiting ∨ (s.comp n).door = .unlatched →
        ReleaseDropped s t n ∧ t.kiosk = s.kioskAfter n)
      ∧ ((s.comp n).door ≠ .waiting → (s.comp n).door ≠ .unlatched →
        t.compartments = { s.compartments with
          table := s.compartments.table.set n { s.comp n with reservation := none } }
        ∧ t.kiosk = s.kiosk)

/-! ### Contracts and lateness (R57, R67, R119, R120) -/

/-- A live contract names key `k` (R57): a claim of a TICKET, SUSPENDED or PICKING contract, or the promised or
handed key. -/
def NamesKey (c : Contract) (k : KeyId) : Prop :=
  (c.entitlement = .specific k ∧ (c.state = .ticket ∨ c.state = .suspended ∨ c.state = .picking))
    ∨ (c.key = some k ∧ (c.state = .picking ∨ c.state = .out ∨ c.state = .returning))

/-- `x` is the tier of a contract at minute `m` under a policy: lateness begins at the due minute plus the
grace, and SOON at the due minute less the lead (R119). -/
def TierAt (p : GroupPolicy) (c : Contract) (m : Nat) (x : Tier) : Prop :=
  let e := c.due + c.grace.getD p.grace
  let late := e ≤ 4294967295 ∧ e ≤ m
  (x = .none ∧ m < c.due - p.lead)
    ∨ (x = .soon ∧ c.due - p.lead ≤ m ∧ ¬ late)
    ∨ (x = .late1 ∧ c.due - p.lead ≤ m ∧ late ∧ m - e < p.t2)
    ∨ (x = .late2 ∧ c.due - p.lead ≤ m ∧ late ∧ p.t2 ≤ m - e ∧ m - e < p.t3)
    ∨ (x = .late3 ∧ c.due - p.lead ≤ m ∧ late ∧ p.t2 ≤ m - e ∧ p.t3 ≤ m - e)

/-- The late hours at minute `m`: started hours since lateness began, at most 9,999, or 0 (R120). -/
def hoursLate (p : GroupPolicy) (c : Contract) (m : Nat) : Nat :=
  let e := c.due + c.grace.getD p.grace
  if e ≤ 4294967295 ∧ e ≤ m then min ((m - e + 59) / 60) 9999 else 0

/-- A contract closed with a route at a return minute, `final` being its stored tier then (R78). -/
def closedAs (p : GroupPolicy) (c : Contract) (route : Route) (m : Option Nat) (final : Tier) : Contract :=
  { c with
    state := .closed, route := some route, returnMinute := m, tier := final
    lateHours := m.map (hoursLate p c) }

/-- The final tier of a closure: the greater of the stored tier and the tier at the return minute, or the stored
tier when no minute is known (R78). -/
def FinalTier (p : GroupPolicy) (c : Contract) (m : Option Nat) (final : Tier) : Prop :=
  match m with
  | none => final = c.tier
  | some m => ∃ x, TierAt p c m x ∧ final = if c.tier.code < x.code then x else c.tier

/-- The RETURN_DONE notice of a closure (R78, R156). -/
def returnDone (p : GroupPolicy) (c : Contract) (route : Route) (m : Option Nat) (final : Tier)
    (n : Option CompId) : NoticeBody :=
  { kind := .returnDone, minute := m, comp := n, key := c.key, contract := some c.number
    detailA := 10 * route.code + final.code
    detailB := match m with
      | some m => hoursLate p c m
      | none => 0xFFFF }

/-- A key that class selection can choose: behind a LOCKED door in an eligible compartment, meeting the wishes
(R67). -/
def Fits (s : State) (eligible : CompId → Prop) (t : Option Transmission) (e : Option Energy)
    (seats : Nat) (k : KeyId) : Prop :=
  ∃ r n, s.key k = some r ∧ r.location = .compartment n ∧ (s.comp n).door = .locked ∧ eligible n
    ∧ (t = none ∨ t = some r.transmission) ∧ (e = none ∨ e = some r.energy) ∧ seats ≤ r.seats

/-- Class selection chooses key `k` (R67): the first that fits in the list of the first of the groups g, g+1, …,
g+u, stopping at P, whose list has one. -/
def Chosen (s : State) (eligible : CompId → Prop) (g : Group) (t : Option Transmission)
    (e : Option Energy) (seats u : Nat) (k : KeyId) : Prop :=
  ∃ (h : Group) (before after : List KeyId), g ≤ h ∧ h.val ≤ g.val + u
    ∧ s.keys.lists.get h = before ++ k :: after ∧ Fits s eligible t e seats k
    ∧ (∀ j ∈ before, ¬ Fits s eligible t e seats j)
    ∧ ∀ i, g ≤ i → i < h → ∀ j ∈ s.keys.lists.get i, ¬ Fits s eligible t e seats j

/-- The pickup of key `k`, whose record is `r`, has started for the contract `c` of slot `sl` (R68): PICKING, the
promise made, the key out of its list with its idle-since kept. -/
def PickupStarted (s t : State) (sl : Slot) (c : Contract) (k : KeyId) (r : KeyRecord) : Prop :=
  t.contracts = { s.contracts with
      slots := s.contracts.slots.set sl
        (some { c with state := .picking, key := some k, grantedGroup := some r.group }) }
    ∧ t.keys.places = s.keys.places.set k (some { r with promisedTo := some c.number })
    ∧ t.keys.lists = s.keys.lists.set r.group ((s.keys.lists.get r.group).filter (· != k))

/-- A 31-byte ISSUE body that R61 refuses BAD_VALUE: a contract number of 0, a kind, CLASS field or present byte out
of range, a code or grace override too large, or a window end or due minute before the window start. -/
def IssueOutOfRange (body : List Byte) : Prop :=
  field body 0 4 = 0 ∨ 1 < field body 4 1
    ∨ (field body 4 1 = 1 ∧ (15 < field body 5 1 ∨ 2 < field body 6 1 ∨ 4 < field body 7 1
      ∨ 9 < field body 8 1 ∨ 2 < field body 9 1))
    ∨ 1 < field body 10 1 ∨ 1 < field body 14 1 ∨ 1 < field body 19 1 ∨ 1 < field body 28 1
    ∨ (field body 10 1 = 1 ∧ 999999 < field body 11 3) ∨ (field body 28 1 = 1 ∧ 720 < field body 29 2)
    ∨ (field body 14 1 = 1 ∧ (field body 24 4 < field body 15 4
      ∨ (field body 19 1 = 1 ∧ field body 20 4 < field body 15 4)))

/-- What is left of the purpose a scan of compartment `n` carried when the scan did not fulfil it, `d` being its
contract: the notices, and the contract afterwards (R46, R51). -/
def unmet (m : Option Nat) (n : CompId) (p : Purpose) (d : Contract) : List NoticeBody × Contract :=
  match p with
  | .pickup _ k => if d.state = .picking then (handoutFailed m n k d 0, fellBack d) else ([], d)
  | .ret _ k => if d.state = .returning then
      ([{ kind := .returnFailed, minute := m, comp := some n, key := some k, contract := some d.number
          detailA := 3 }], { d with state := .out })
    else ([], d)
  | .staff _ => ([], d)
  | .link => ([], d)

/-- A compartment after the scan that found these items (R50, R52). -/
def Compartment.scanned (c : Compartment) (items : List Item) : Compartment :=
  { c with door := .locked, release := none, reservation := none, contents := items, known := true }

/-- The bytes of an optional field of a request (R176). -/
def optional (n : Nat) : Option Nat → List Byte
  | none => List.replicate (n + 1) 0
  | some x => 1 :: toBytes n x

/-- The bytes of a field of AMEND: a change byte, then the optional field (R62). -/
def change (n : Nat) : Option (Option Nat) → List Byte
  | none => List.replicate (n + 2) 0
  | some x => 1 :: optional n x

/-- An AMEND body (R62). -/
def amendBody (number : Nat) (code start stop : Option (Option Nat)) (due : Option Nat)
    (grace : Option (Option Nat)) : List Byte :=
  toBytes 4 number ++ change 3 code ++ change 4 start ++ change 4 stop ++ optional 4 due
    ++ change 2 grace

/-- The values of a present optional field lie in its range. -/
def Within (most : Nat) (x : Option Nat) : Prop := ∀ y, x = some y → y ≤ most

/-- The window end is not before the window start, nor the due minute (R61, R62). -/
def WindowOk (start stop : Option Nat) (due : Nat) : Prop :=
  ∀ w, start = some w → w ≤ due ∧ ∀ x, stop = some x → w ≤ x

/-! ### The kiosk (R87, R95, R142) -/

/-- The number a list of digits spells, the first digit most significant (R87, R95). -/
def digitValue : List (Fin 10) → Nat
  | [] => 0
  | d :: ds => d.val * 10 ^ ds.length + digitValue ds

/-- The badge table holds badge `number` with `b` as its record, in one place (R142). -/
def State.BadgeHeld (s : State) (number : Nat) (b : Badge) : Prop :=
  ∃ p, (s.store.working.badges.get p).value = some b ∧ b.number = number
    ∧ ∀ q x, (s.store.working.badges.get q).value = some x → x.number = number → q = p

/-- No ENABLED badge has the number (R142). -/
def State.BadgeRefused (s : State) (number : Nat) : Prop :=
  ∀ q x, (s.store.working.badges.get q).value = some x → x.number = number → x.enabled = false

/-! ### The forecast (R131-R138) -/

/-- Minute `x` falls in bucket `b` of a forecast made at `m`; a minute before `m` falls in bucket 0 (R134-R136). -/
abbrev InBucket (m b x : Nat) : Prop := (m + 30 * b ≤ x ∧ x < m + 30 * (b + 1)) ∨ (b = 0 ∧ x < m)

/-- A compartment counts in the forecast (R132). -/
def State.isCounted (s : State) (n : CompId) : Bool :=
  (s.comp n).service == .inService && (s.panel n).ret

/-- A ticket is a pickup expected in bucket `b` (R136). -/
def State.isExpected (s : State) (m b : Nat) (c : Contract) : Bool :=
  c.state == .ticket
    && (match c.entitlement with
      | .cls _ _ _ _ _ => true
      | .specific k => (s.key k).any fun r => (fins 192).any fun n =>
          r.location == .compartment n && s.isCounted n)
    && match c.windowStart with
      | none => b == 0
      | some w => decide (InBucket m b w)

/-- `f` is the forecast at minute `m` from the records of `s` (R131-R138). -/
def ForecastOf (s : State) (m : Nat) (f : Forecast) : Prop :=
  f.computed = true ∧ f.minute = m ∧ f.stale = false
    ∧ f.reserve = s.store.working.profile.value.reserve
    ∧ f.counted = (fins 192).countP s.isCounted
    ∧ f.occupied = ((fins 192).countP fun n => s.isCounted n
      && !((s.comp n).known && (s.comp n).contents == [] && (s.comp n).reservation == none))
    ∧ f.dropKeys = (s.drop.entries.filterMap DropEntry.key).length
    ∧ f.start = min f.counted (f.occupied + f.dropKeys)
    ∧ f.buckets.length = 16
    ∧ (∀ (b : Nat) (x : Bucket), f.buckets[b]? = some x →
      x.returns = ((fins 512).countP fun sl =>
        (s.slot sl).any fun c => c.isOpen && decide (InBucket m b c.due))
      ∧ x.pickups = ((fins 512).countP fun sl => (s.slot sl).any (s.isExpected m b))
      ∧ (let before := if b = 0 then f.start else ((f.buckets[b - 1]?).map Bucket.occupied).getD 0
        x.occupied = if before + x.returns ≤ x.pickups then 0
          else min f.counted (before + x.returns - x.pickups))
      ∧ x.free = f.counted - x.occupied)
    ∧ (f.short = true ↔ ∃ x ∈ f.buckets, x.free < f.reserve)
    ∧ (f.short = false → f.firstShort = none ∧ f.deficit = none)
    ∧ ∀ (b : Nat) (x : Bucket), f.buckets[b]? = some x → x.free < f.reserve →
      (∀ (j : Nat) (y : Bucket), f.buckets[j]? = some y → j < b → f.reserve ≤ y.free) →
      f.firstShort = some b ∧ f.deficit = some (f.reserve - x.free)

/-- The notice of a computation whose short field differs from the held one (R138). -/
def State.capacityNotice (s : State) (f : Forecast) : List NoticeBody :=
  if s.overdue.forecast.short = false ∧ f.short = true then
    [{ kind := .capacityShort, minute := some f.minute, detailA := f.firstShort.getD 0
       detailB := f.deficit.getD 0 }]
  else if s.overdue.forecast.short = true ∧ f.short = false then
    [{ kind := .capacityClear, minute := some f.minute
       detailB := ((f.buckets.map Bucket.free).min?).getD 0 }]
  else []

/-- FORECAST_QUERY's 108 bytes (R140). -/
def forecastFields (f : Forecast) : List Byte :=
  toBytes 4 f.minute
    ++ [byte f.reserve, byte f.counted, byte f.occupied, byte f.dropKeys, byte f.start,
      if f.short then 1 else 0, byte (f.firstShort.getD 255), byte (f.deficit.getD 0)]
    ++ f.buckets.flatMap fun x =>
      toBytes 2 x.returns ++ toBytes 2 x.pickups ++ [byte x.occupied, byte x.free]

/-! ### The branch store (R179-R182) -/

/-- A record's class code and its number in the class (R179). -/
def StoreRecord.name : StoreRecord → Nat × Nat
  | .profile _ => (0, 0)
  | .group g _ => (1, g.val)
  | .panel n _ => (2, n.val + 1)
  | .alert _ => (3, 0)
  | .badge p _ => (4, p.val)

/-- A record's contents in the coding of R179. -/
def storeFields : StoreRecord → List Byte
  | .profile p => [byte p.speed] ++ toBytes 2 p.divisor ++ [byte p.window] ++ toBytes 2 p.hold
      ++ [byte p.reserve, byte p.trigger, byte p.modeAtStart.code]
  | .group _ p => toBytes 2 p.grace ++ [byte p.lead] ++ toBytes 2 p.t2 ++ toBytes 2 p.t3
      ++ toBytes 2 p.reminder ++ [if p.checkOnReturn then 1 else 0]
  | .panel _ p => [if p.pickup then 1 else 0, if p.ret then 1 else 0, byte p.openLevel]
  | .alert a => Cause.all.flatMap fun c => [byte (a.get c.place).beacon.code,
      if (a.get c.place).pager then 1 else 0, if (a.get c.place).report then 1 else 0]
  | .badge _ none => List.replicate 15 0
  | .badge _ (some b) => 1 :: toBytes 4 b.number ++ [byte b.level, if b.enabled then 0 else 1]
      ++ padded b.label

/-- The fields fit the bytes of their coding. -/
def StoreRecord.Encodable : StoreRecord → Prop
  | .profile p => p.speed < 256 ∧ p.divisor < 65536 ∧ p.window < 256 ∧ p.hold < 65536
      ∧ p.reserve < 256 ∧ p.trigger < 256
  | .group _ p => p.grace < 65536 ∧ p.lead < 256 ∧ p.t2 < 65536 ∧ p.t3 < 65536 ∧ p.reminder < 65536
  | .panel _ p => p.openLevel < 256
  | .alert _ => True
  | .badge _ none => True
  | .badge _ (some b) => b.number ≤ 4294967295 ∧ b.level < 256 ∧ b.label.length ≤ 8
      ∧ b.label.getLast? ≠ some 0x20

/-- Every field lies in its range (R117, R143, R144, R163, R181). -/
def StoreRecord.InRange : StoreRecord → Prop
  | .profile p => p.speed ≤ 5 ∧ 2000 ≤ p.divisor ∧ p.divisor ≤ 50000 ∧ 5 ≤ p.window ∧ p.window ≤ 60
      ∧ 15 ≤ p.hold ∧ p.hold ≤ 600 ∧ p.reserve ≤ 48 ∧ p.trigger ∈ [1, 8, 32, 96]
  | .group _ p => p.grace ≤ 720 ∧ p.lead ≤ 240 ∧ 1 ≤ p.t2 ∧ p.t3 ≤ 20160 ∧ p.t2 < p.t3
      ∧ (p.reminder = 0 ∨ (30 ≤ p.reminder ∧ p.reminder ≤ 1440))
  | .panel _ p => 1 ≤ p.openLevel ∧ p.openLevel ≤ 3
  | .alert _ => True
  | .badge _ none => True
  | .badge _ (some b) => 1 ≤ b.number ∧ b.number ≤ 4294967295 ∧ 1 ≤ b.level ∧ b.level ≤ 3
      ∧ LabelOk b.label

/-- The profile lock protects PROFILE and PANEL records (R153). -/
def StoreRecord.locked : StoreRecord → Bool
  | .profile _ => true
  | .group _ _ => false
  | .panel _ _ => true
  | .alert _ => false
  | .badge _ _ => false

/-- The working copy of the record that `x` names holds `x`'s contents, with this source (R179, R180). -/
def State.Working (s : State) (source : Bool) : StoreRecord → Prop
  | .profile p => s.store.working.profile = ⟨p, source⟩
  | .group g p => s.store.working.groups.get g = ⟨p, source⟩
  | .panel n p => s.store.working.panels.get n = ⟨p, source⟩
  | .alert a => s.store.working.alert = ⟨a, source⟩
  | .badge p b => s.store.working.badges.get p = ⟨b, source⟩

/-- The branch store holds `x`'s contents in the record that `x` names, with a check value that agrees or not
(R179). -/
def State.StoredAs (s : State) (sound : Bool) : StoreRecord → Prop
  | .profile p => s.store.stored.profile = ⟨p, sound⟩
  | .group g p => s.store.stored.groups.get g = ⟨p, sound⟩
  | .panel n p => s.store.stored.panels.get n = ⟨p, sound⟩
  | .alert a => s.store.stored.alert = ⟨a, sound⟩
  | .badge p b => s.store.stored.badges.get p = ⟨b, sound⟩

/-! ### Starts (R112, R179, R186) -/

/-- The commands that make a start at `s`: POWER_UP of a part without power, or the end of sending of the reply
to RESTART or PURGE (R178, R186). -/
def StartOf (s : State) (c : Instr) (cold byMessage : Bool) : Prop :=
  (c = .powerUp cold ∧ s.powered = false ∧ byMessage = false)
    ∨ (c = .frameSent ∧ s.powered = true ∧ byMessage = true ∧ s.link.tx = .reply
      ∧ (s.link.replies.head?.map Reply.effect) = some (.start cold))

/-- The command `c` makes a start at `s` that is taken from the records of `u`: `s` itself, or at a part with power,
where POWER_UP is a power loss and then the power-up (log 4, DESIGN CHOICE), what POWER_LOSS leaves of `s`. -/
def StartFrom (s u : State) (c : Instr) (cold byMessage : Bool) : Prop :=
  StartOf u c cold byMessage ∧ (u = s ∨ s.powered = true ∧ exec .powerLoss s = .next u)

/-- The class and number of each damaged record, in class order and by number (R179, R186). -/
def State.damagedRecords (s : State) : List (Nat × Nat) :=
  (if s.store.stored.profile.sound then [] else [(0, 0)])
    ++ ((fins 16).filter fun g => !(s.store.stored.groups.get g).sound).map (fun g => (1, g.val))
    ++ ((fins 8).filter fun n => !(s.store.stored.panels.get n).sound).map (fun n => (2, n.val + 1))
    ++ (if s.store.stored.alert.sound then [] else [(3, 0)])
    ++ ((fins 64).filter fun b => !(s.store.stored.badges.get b).sound).map (fun b => (4, b.val))

/-- A warm start finds closed a staff door that was kept open (R112). -/
def State.visitOver (s : State) (cold : Bool) : Bool :=
  !cold && s.drop.staffDoor == .opened && !s.staffDoorPin

/-- The notices of a start, in their order (R55, R112, R186 step 6). -/
def State.startBodies (s : State) (cold byMessage : Bool) : List NoticeBody :=
  [{ kind := .start, minute := none, detailA := if cold then 0 else 1
     detailB := if byMessage then 1 else 0 }]
    ++ s.damagedRecords.map (fun d =>
      { kind := .storeDamaged, minute := none, detailA := d.1, detailB := d.2 })
    ++ (if s.visitOver cold then
      [{ kind := .dropEmptied, minute := none, detailA := 2, detailB := s.drop.entries.length }] else [])
    ++ (if s.doorPins.rows.all id then [{ kind := .sweepDone, minute := none, detailB := 192 }] else [])

/-! ### The notice ring (R157) -/

/-- The ring holds at most 128 notices, and their sequence numbers run consecutively, modulo 65,536, up to
the next sequence number. -/
def NoticeUnit.RingOk (u : NoticeUnit) : Prop :=
  u.ring.length ≤ 128 ∧ u.nextSeq < 65536
    ∧ ∀ (i : Nat) (h : i < u.ring.length),
      u.ring[i].seq < 65536 ∧ (u.ring[i].seq + (u.ring.length - i)) % 65536 = u.nextSeq

/-! ### The line (R170, R173, R175) -/

/-- The receiver and its idle timer agree, and a frame under assembly has at most the bytes its LEN gives
(R170). -/
def Link.ReceiverOk (l : Link) : Prop :=
  match l.receiver with
  | .hunt => l.idle = none
  | .length => l.idle.isSome = true
  | .collect len bytes => l.idle.isSome = true ∧ 2 ≤ len ∧ len ≤ 200 ∧ bytes.length < len
  | .check len bytes => l.idle.isSome = true ∧ 2 ≤ len ∧ len ≤ 200 ∧ bytes.length = len

/-- At most four replies are queued, a reply being sent is in the queue, and an idle transmitter has nothing
to send (R173, R175). -/
def Link.Ok (l : Link) : Prop :=
  l.ReceiverOk ∧ l.replies.length ≤ 4 ∧ (l.tx = .reply → l.replies ≠ [])
    ∧ (l.tx = .idle → l.replies = [] ∧ l.mark = false)

/-! ### The drop box (R101, R102) -/

/-- The drop list holds at most 48 entries and no tag twice, and the flap is OPEN exactly in UNSTAFFED with
fewer than 48 entries and the staff door closed. -/
def State.DropOk (s : State) : Prop :=
  s.drop.entries.length ≤ 48 ∧ (s.drop.entries.filterMap DropEntry.tag).Nodup
    ∧ (s.drop.flap = .opened
      ↔ s.mode = .unstaffed ∧ s.drop.entries.length < 48 ∧ s.drop.staffDoor = .closed)

/-! ### Doors, latches and the scan list (R17, R20-R22, R32, R40, R42, R45) -/

/-- The latch arbiter's law: a compartment is UNLATCHED exactly when it holds a channel, with its window
running; it is WAITING exactly when it stands in the release queue, which holds at most 16 requests, every
priority request ahead of every renter request; no channel is free while a request waits (R20-R22, R32). -/
def State.LatchOk (s : State) : Prop :=
  (∀ n, (s.comp n).door = .unlatched
      ↔ s.compartments.channel1 = some n ∨ s.compartments.channel2 = some n)
    ∧ (∀ n, (s.comp n).window.isSome = true ↔ (s.comp n).door = .unlatched)
    ∧ (∀ n, s.compartments.channel1 = some n → s.compartments.channel2 ≠ some n)
    ∧ (∀ n, n ∈ s.compartments.queue ↔ (s.comp n).door = .waiting)
    ∧ s.compartments.queue.Nodup ∧ s.compartments.queue.length ≤ 16
    ∧ s.compartments.queue.Pairwise (fun a b => s.priorityAt b = true → s.priorityAt a = true)
    ∧ (s.compartments.channel1 = none ∨ s.compartments.channel2 = none → s.compartments.queue = [])

/-- The scan list's law: at most one entry for a compartment, DOOR entries ahead of SWEEP entries, at most one
being read, and that one in SCANNING or UNKNOWN; a compartment with an entry is not LOCKED, and one in SCANNING
has an entry; while an entry can be read a read is in flight; and a sweep in progress has a SWEEP entry (R17,
R40, R42, R45). -/
def State.ScanOk (s : State) : Prop :=
  (s.scanner.list.map ScanEntry.comp).Nodup
    ∧ s.scanner.list.Pairwise (fun a b => a.cls = .sweep → b.cls = .sweep)
    ∧ (∀ e ∈ s.scanner.list, (s.comp e.comp).door ≠ .locked)
    ∧ (∀ n, (s.comp n).door = .scanning → ∃ e ∈ s.scanner.list, e.comp = n)
    ∧ (s.scanner.list.filter ScanEntry.reading).length ≤ 1
    ∧ (∀ e ∈ s.scanner.list, e.reading = true → (s.comp e.comp).door.readable = true)
    ∧ ((∃ e ∈ s.scanner.list, (s.comp e.comp).door.readable = true)
      → ∃ e ∈ s.scanner.list, e.reading = true)
    ∧ (s.scanner.sweeping = true → ∃ e ∈ s.scanner.list, e.cls = .sweep)

/-- The two together: an event that moves one moves the other. -/
def State.CabinetOk (s : State) : Prop := s.LatchOk ∧ s.ScanOk

/-! ### Contracts (R56, R58, R59) -/

/-- A contract's pickup code is in the index: TICKET, SUSPENDED or PICKING (R58). -/
def ContractState.indexed : ContractState → Bool
  | .ticket => true
  | .suspended => true
  | .picking => true
  | .out => false
  | .returning => false
  | .closed => false
  | .lapsed => false
  | .void => false

/-- No two occupied slots hold one contract number, and the pickup-code index holds each code once, with the
slot of the one contract in TICKET, SUSPENDED or PICKING that has it (R56, R58). -/
def State.IndexOk (s : State) : Prop :=
  (∀ i j c d, s.slot i = some c → s.slot j = some d → c.number = d.number → i = j)
    ∧ s.contracts.codes.Pairwise (fun a b => a.1 < b.1)
    ∧ ∀ code sl, (code, sl) ∈ s.contracts.codes
      ↔ ∃ c, s.slot sl = some c ∧ c.code = some code ∧ c.state.indexed = true

/-- A PICKUP release stands for a contract in PICKING that holds the release's key, and no contract has two of
them; a key with the location OUT c has c open and is c's key; and every open contract's key has the location OUT
naming that contract (R18, R59, R74). -/
def State.RentalOk (s : State) : Prop :=
  (∀ n r c k, (s.comp n).release = some r → r.purpose = .pickup c k →
      (∃ d, s.contract c = some d ∧ d.state = .picking ∧ d.key = some k)
        ∧ ∀ m r' k', (s.comp m).release = some r' → r'.purpose = .pickup c k' → m = n)
    ∧ (∀ k r c, s.key k = some r → r.location = .out c →
      ∃ d, s.contract c = some d ∧ d.isOpen = true ∧ d.key = some k)
    ∧ ∀ sl d, s.slot sl = some d → d.isOpen = true →
      ∃ k r, d.key = some k ∧ s.key k = some r ∧ r.location = .out d.number

/-- The laws of the contract table that every event keeps together (R56, R58, R59, R74). -/
def State.ContractsOk (s : State) : Prop := s.IndexOk ∧ s.RentalOk

/-- The transitions of a slot's contract state that one event can make, `none` for a free slot (R59). -/
def transitionAllowed : Option ContractState → Option ContractState → Bool
  | none, none => true
  | none, some st => st == .ticket
  | some .ticket, some st =>
    st == .ticket || st == .picking || st == .void || st == .lapsed
  | some .suspended, some st =>
    st == .suspended || st == .ticket || st == .void || st == .lapsed
  | some .picking, some st =>
    st == .picking || st == .ticket || st == .suspended || st == .out
  | some .out, some st => st == .out || st == .returning || st == .closed
  | some .returning, some st => st == .returning || st == .out || st == .closed
  | some .closed, some st => st == .closed
  | some .lapsed, some st => st == .lapsed
  | some .void, some st => st == .void
  | some st, none => st.finished

/-! ### Keys and compartments (R1, R16) -/

/-- The law of location: no two enrolled records hold one tag number, and a key's location is COMPARTMENT n
exactly when compartment n's contents list it (R1), which list no item twice (R16). -/
def State.LocationOk (s : State) : Prop :=
  (∀ j k a b, s.key j = some a → s.key k = some b → a.tag = b.tag → j = k)
    ∧ (∀ k n, Item.key k ∈ (s.comp n).contents
      ↔ (s.key k).map KeyRecord.location = some (.compartment n))
    ∧ ∀ n, (s.comp n).contents.Nodup

/-! ### The laws together -/

/-- The laws of every block's records, as one premise. -/
def State.Lawful (s : State) : Prop :=
  s.notices.RingOk ∧ s.link.Ok ∧ s.DropOk ∧ s.CabinetOk ∧ s.ContractsOk ∧ s.LocationOk

end Sys2Proof.Machine
end

