-- ==== Sys2Proof/Certificates/Slice0/Obligations.lean ====
section
/-! DEFINITION. The statements for the provers, each `def Obligations.<Name> : Prop`. In a statement about a
command, `e` with `Sent e t` or `Settled e t` is the state the manual's rules give, and `t` the state `exec`
answers: they differ in the line's choice of its next frame, and with `Settled` in the causes that follow the
records. What `e` does not change is the statement's frame. -/

open Sys2Proof Sys2Proof.Machine

/-! ### The step, time and the queue -/

/-- A step takes the command at the front of the queue and runs it on the state with the queue's rest. -/
def Obligations.StepRunsFrontCommand : Prop :=
  ∀ (s : State) (c : Instr) (rest : List Instr),
    step { s with pending := c :: rest } = exec c { s with pending := rest }

/-- With an empty queue one tick passes (R183; the model's choice of log 1): every running timer and the count
within the minute advance, and exactly the timers that end put their expiries into the queue, the minute event
among them; without power nothing happens. -/
def Obligations.EmptyQueueLetsOneTickPass : Prop :=
  ∀ (s : State), s.pending = [] →
    (s.powered = false → step s = .next s)
    ∧ (s.powered = true → ∃ t, step s = .next t
      ∧ t = { s with
          compartments := { s.compartments with table := t.compartments.table }
          kiosk := { s.kiosk with
            interDigit := s.kiosk.interDigit.map (· - 1), lockout := s.kiosk.lockout.map (· - 1)
            staffTimer := s.kiosk.staffTimer.map (· - 1), resultHold := s.kiosk.resultHold.map (· - 1)
            brief := s.kiosk.brief.map (· - 1), press := s.kiosk.press.map (· - 1) }
          notices := { s.notices with pager := s.notices.pager.map (· - 1) }
          link := { s.link with idle := s.link.idle.map (· - 1) }
          timeBase := { s.timeBase with ticks := (s.timeBase.ticks + 1) % 60000 }
          free := t.free, pending := t.pending }
      ∧ (∀ n, t.comp n = { s.comp n with
          window := (s.comp n).window.map (· - 1), hold := (s.comp n).hold.map (· - 1) })
      ∧ t.pending.Nodup
      ∧ ∀ c, c ∈ t.pending ↔
          (∃ n, c = .windowExpiry n ∧ (s.comp n).window = some 1)
          ∨ (∃ n, c = .holdExpiry n ∧ (s.comp n).hold = some 1)
          ∨ (c = .interDigitExpiry ∧ s.kiosk.interDigit = some 1)
          ∨ (c = .lockoutExpiry ∧ s.kiosk.lockout = some 1)
          ∨ (c = .staffTimerExpiry ∧ s.kiosk.staffTimer = some 1)
          ∨ (c = .resultHoldExpiry ∧ s.kiosk.resultHold = some 1)
          ∨ (c = .briefPromptExpiry ∧ s.kiosk.brief = some 1)
          ∨ (c = .longPress ∧ s.kiosk.press = some 1)
          ∨ (c = .pagerPulseEnd ∧ s.notices.pager = some 1)
          ∨ (c = .idleTimerExpiry ∧ s.link.idle = some 1)
          ∨ (c = .minuteEvent ∧ s.timeBase.ticks = 59999))

/-- Every command answers a next state and leaves the queue alone; the profile lock, once set, stays set
(R153); and a part without power takes no command but POWER_UP, while its switches still move (the model's
choice of log 4). -/
def Obligations.EveryCommandAnswersNext : Prop :=
  ∀ (c : Instr) (s : State), ∃ t, exec c s = .next t ∧ t.pending = s.pending
    ∧ (s.store.lock = true → t.store.lock = true)
    ∧ (s.powered = false → (∀ b, c ≠ .powerUp b) →
      t = { s with doorPins := t.doorPins, staffDoorPin := t.staffDoorPin })
    ∧ (∀ n, t.doorPins.get n
      = if c = .doorOpened n then true else if c = .doorClosed n then false else s.doorPins.get n)
    ∧ t.staffDoorPin
      = (if c = .staffDoorOpened then true else if c = .staffDoorClosed then false else s.staffDoorPin)

/-! ### The line -/

/-- The bytes of a request's frame, taken one after the other by a receiver in HUNT, do exactly what the
request's command does, for every kind, TAG and body that a frame can carry: no byte of a frame is dropped
(R169, R170, R172). That a request's command stands for the completion of its frame is the model's choice of
log 8. -/
def Obligations.FrameBytesReachTheRequest : Prop :=
  ∀ p ∈ requestRows, ∀ (s : State) (tg : Byte) (body : List Byte), body.length ≤ 198 →
    s.powered = true → s.link.receiver = .hunt →
    runs ((frameBytes p.1 tg body).map Instr.byteReceived) s = exec (p.2 tg body) s

/-- BYTE_RECEIVED by the receive state (R170), and the discards of a completed frame whose sum is not 0, whose
TAG is 0 or that finds no room for its reply (R172, R173). -/
def Obligations.ReceiverTakesEachByte : Prop :=
  ∀ (s : State) (b : Byte), s.powered = true →
    (s.link.receiver = .hunt →
      exec (.byteReceived b) s = .next (if b = 0xA5 then
        { s with link := { s.link with receiver := .length, idle := some 50 } } else s))
    ∧ (s.link.receiver = .length →
      exec (.byteReceived b) s = .next (if 2 ≤ b.toNat ∧ b.toNat ≤ 200 then
        { s with link := { s.link with receiver := .collect b.toNat [], idle := some 50 } }
        else s.frameLost))
    ∧ (∀ len bytes, s.link.receiver = .collect len bytes →
      exec (.byteReceived b) s = .next
        { s with link := { s.link with
          receiver := if bytes.length + 1 < len then .collect len (bytes ++ [b])
            else .check len (bytes ++ [b])
          idle := some 50 } })
    ∧ (∀ len kind tg body, s.link.receiver = .check len (kind :: tg :: body) →
      (BitVec.ofNat 8 len + kind + tg + body.foldl (· + ·) 0 + b ≠ 0 ∨ tg = 0
        ∨ 4 ≤ s.link.replies.length) →
      exec (.byteReceived b) s = .next s.frameLost)

/-- A frame that cannot be served is discarded with the link-error flag set: a LEN out of range, a byte with a
stop-bit error or the idle timer's end within a frame, a sum that is not 0, a TAG of 0, and a request that
finds the reply queue full (R170-R173). In HUNT a stop-bit error is without effect. That the idle timer's end is taken
within a frame whatever ticks the timer has left is the model's choice of log 44. -/
def Obligations.BrokenFramesAreDiscarded : Prop :=
  ∀ (s : State), s.powered = true →
    (∀ b : Byte, s.link.receiver = .length → (b.toNat < 2 ∨ 200 < b.toNat) →
      exec (.badLength b) s = .next s.frameLost)
    ∧ (s.link.receiver ≠ .hunt → exec .stopBitError s = .next s.frameLost)
    ∧ (s.link.receiver = .hunt → exec .stopBitError s = .next s)
    ∧ (s.link.receiver ≠ .hunt → exec .idleTimerExpiry s = .next s.frameLost)
    ∧ (∀ (len kind tg : Byte) (body : List Byte) (check : Byte),
      len + kind + tg + body.foldl (· + ·) 0 + check ≠ 0 ∨ tg = 0 →
      exec (.frameDiscard len kind tg body check) s = .next s.frameLost)
    ∧ (∀ (kind tg : Byte) (body : List Byte), 4 ≤ s.link.replies.length →
      exec (.overrun kind tg body) s = .next s.frameLost)
    ∧ ∀ p ∈ requestRows, ∀ (tg : Byte) (body : List Byte), tg = 0 ∨ 4 ≤ s.link.replies.length →
      exec (p.2 tg body) s = .next s.frameLost

/-- A request that is served has exactly one reply at the tail of the reply queue, with the request's kind plus
80h and its TAG; a reply whose status is neither OK nor ACCEPTED holds the status byte alone, and nothing but
the line has changed: HANDOUT's QUEUE_FULL is apart, its key taking a new idle-since (R68, log 18). A body whose
length differs from the one its entry gives is refused BAD_FORMAT before any other check, and a kind that names no
message is answered UNKNOWN_KIND, with FFh for a kind of 80h or above (R172). -/
def Obligations.RefusedRequestsChangeNoRecord : Prop :=
  ∀ (s : State) (tg : Byte) (body : List Byte), s.serves tg →
    (∀ p ∈ requestRows, ∃ t r, exec (p.2 tg body) s = .next t ∧ t.link.replies = s.link.replies ++ [r]
      ∧ r.kind = p.1 + 0x80 ∧ r.tag = tg
      ∧ (∃ code data, r.body = code :: data
        ∧ (2 ≤ code.toNat → data = []
          ∧ (p.1 = 0x22 ∧ code = 13 ∨ Refused s t (p.1 + 0x80) tg code.toNat)))
      ∧ ∀ q ∈ bodyLengths, p.1 = q.1 → body.length ≠ q.2 → Refused s t (p.1 + 0x80) tg 2)
    ∧ ∀ kind : Byte, kind ∉ requestRows.map Prod.fst →
      ∃ t, exec (.unknownKind kind tg body) s = .next t
        ∧ Refused s t (if kind.toNat < 0x80 then kind + 0x80 else 0xFF) tg 3

/-- The bytes on the line are those of the frame being sent, the attention frame or the oldest reply: SYNC, LEN,
KIND, TAG, the body and a CHECK byte that brings the sum to 0; an idle line sends none. The last byte of a frame
has been sent: an attention frame leaves the line free; a reply leaves the queue, the reply to TIMEBASE changing
the line's rate; and the next frame is chosen (R166, R169, R173, R175, R184). -/
def Obligations.FrameSentFreesTheLine : Prop :=
  ∀ (s : State), s.powered = true →
    (s.link.tx = .idle → s.link.lineBytes = [])
    ∧ (∀ f, s.link.tx = .attention f
        ∨ (s.link.tx = .reply ∧ s.link.replies.head?.map (fun r => ⟨r.kind, r.tag, r.body⟩) = some f) →
      ∃ check, s.link.lineBytes
          = 0xA5 :: BitVec.ofNat 8 (f.body.length + 2) :: f.kind :: f.tag :: f.body ++ [check]
        ∧ BitVec.ofNat 8 (f.body.length + 2) + f.kind + f.tag + f.body.foldl (· + ·) 0 + check = 0)
    ∧ (∀ f, s.link.tx = .attention f → ∃ t, exec .frameSent s = .next t
      ∧ NextFrame { s with link := { s.link with tx := .idle } } t)
    ∧ (s.link.tx = .reply → ∀ r rest, s.link.replies = r :: rest →
      (r.effect = .nothing → ∃ t, exec .frameSent s = .next t
        ∧ NextFrame { s with link := { s.link with tx := .idle, replies := rest } } t)
      ∧ (r.effect = .rate → ∃ t, exec .frameSent s = .next t
        ∧ NextFrame { s with link := { s.link with
            tx := .idle, replies := rest, lineDivisor := s.timeBase.divisor } } t))

/-! ### Starts and power -/

/-- Every start, cold or warm, by power or by message, takes the settings, the mode, the line and the time base
from the branch store, a damaged record from its default, and puts the kiosk, the causes and every timer to
their start values (R100, R147, R167, R168, R178, R179, R183, R186). It reads the switches: a compartment found
closed becomes UNKNOWN and gets a SWEEP entry in number order, one found open becomes OPEN with a fresh hold; no
release, reservation, grant or window is left and no contents are known; the first read begins; the lateness scan is
abandoned; the flap follows the mode, the list and the staff door; and with the last reported cause at none and no
mark, the attention frame of a report-enabled cause is begun at once (R38, R39, R55, R112, R130, R166, R175). That a
POWER_UP at a part with power starts from what a power loss leaves is the model's choice of log 4. -/
def Obligations.StartTakesSettingsAndSwitches : Prop :=
  ∀ (s u : State) (c : Instr) (cold byMessage : Bool), StartFrom s u c cold byMessage →
    ∃ t, exec c s = .next t
      ∧ t.store = { u.store with staging := none, busy := false, working := t.store.working }
      ∧ t.store.working.profile = (if u.store.stored.profile.sound then
          ⟨u.store.stored.profile.contents, false⟩ else ⟨⟨1, 10000, 20, 120, 8, 8, .staffed⟩, true⟩)
      ∧ (∀ g, t.store.working.groups.get g = if (u.store.stored.groups.get g).sound then
          ⟨(u.store.stored.groups.get g).contents, false⟩
          else ⟨⟨30, 60, 180, 1440, 240, false⟩, true⟩)
      ∧ (∀ n, t.store.working.panels.get n = if (u.store.stored.panels.get n).sound then
          ⟨(u.store.stored.panels.get n).contents, false⟩ else ⟨⟨true, true, 2⟩, true⟩)
      ∧ t.store.working.alert = (if u.store.stored.alert.sound then
          ⟨u.store.stored.alert.contents, false⟩ else ⟨CauseSetting.defaults, true⟩)
      ∧ (∀ b, t.store.working.badges.get b = if (u.store.stored.badges.get b).sound then
          ⟨(u.store.stored.badges.get b).contents, false⟩ else ⟨none, true⟩)
      ∧ t.timeBase = ⟨t.store.working.profile.value.divisor, 0, false⟩
      ∧ t.link.receiver = .hunt ∧ t.link.idle = none ∧ t.link.error = false ∧ t.link.replies = []
      ∧ t.link.speed = t.store.working.profile.value.speed
      ∧ t.link.lineDivisor = t.store.working.profile.value.divisor
      ∧ t.mode = t.store.working.profile.value.modeAtStart
      ∧ t.link.lastReported = t.reportCause ∧ t.link.mark = false
      ∧ t.link.tx = (if t.reportCause = none then .idle else .attention t.reportFrame)
      ∧ t.kiosk = ⟨.idle, [], 0, none, none, [], none, none, none, none, none, none,
          if t.mode = .lockdown then .outOfService else .welcome⟩
      ∧ t.startPending = none ∧ t.powered = true ∧ t.doorPins = u.doorPins
      ∧ t.staffDoorPin = u.staffDoorPin ∧ t.pending = u.pending
      ∧ t.notices.callLatch = false ∧ t.AttentionOk
      ∧ t.notices.pager = (if t.mode = .unstaffed ∧ ∃ x ∈ t.notices.pending, (t.alertOf x).pager = true
          then some 2000 else none)
      ∧ t.compartments.queue = [] ∧ t.compartments.channel1 = none ∧ t.compartments.channel2 = none
      ∧ (∀ n, t.comp n = { t.comp n with
          door := if u.doorPins.get n then .opened else .unknown
          hold := if u.doorPins.get n then some (t.store.working.profile.value.hold * 1000) else none
          window := none, release := none, reservation := none, known := false })
      ∧ t.scanner.list.map ScanEntry.unread
        = ((fins 192).filter fun n => !u.doorPins.get n).map (fun n => ⟨n, .sweep, .nothing, false⟩)
      ∧ (∀ x, t.scanner.list.head? = some x → x.reading = true)
      ∧ (t.scanner.sweeping = true ↔ t.scanner.list ≠ [])
      ∧ t.overdue.scan.scanning = false ∧ t.overdue.scan.nextSlot = 0
      ∧ t.overdue.scan.pendingStart = none
      ∧ t.drop.staffDoor = (if u.staffDoorPin then .opened else .closed)
      ∧ t.drop.flap = (if t.mode = .unstaffed ∧ t.drop.entries.length < 48 ∧ u.staffDoorPin = false
          then .opened else .locked)

/-- A cold start empties the key table, the contract table, the drop list and the ring, and gives the clock, the
forecast and the compartments their cold values; its notices are the first of the ring (R15, R38, R83, R112,
R116, R141, R167, R186). That a POWER_UP at a part with power starts from what a power loss leaves is the model's
choice of log 4. -/
def Obligations.ColdStartEmptiesTheTables : Prop :=
  ∀ (s u : State) (c : Instr) (byMessage : Bool), StartFrom s u c true byMessage →
    ∃ t, exec c s = .next t
      ∧ (∀ k, t.key k = none) ∧ (∀ g, t.keys.lists.get g = [])
      ∧ (∀ sl, t.slot sl = none) ∧ t.contracts.codes = []
      ∧ t.drop.entries = [] ∧ t.overdue.clock = .notSet ∧ t.overdue.value = 0
      ∧ t.overdue.forecast
        = ⟨false, 0, 0, 0, 0, 0, 0, List.replicate 16 ⟨0, 0, 0, 0⟩, false, none, none, true⟩
      ∧ (∀ n, (t.comp n).service = .inService ∧ (t.comp n).contents = [] ∧ (t.comp n).forced = false)
      ∧ t.notices = { ({ u with notices :=
            { u.notices with ring := [], nextSeq := 0, overflow := false } }.noted
              (u.startBodies true byMessage)).notices with
          pending := t.notices.pending, missing := 0, foreign := 0, callLatch := false
          beacon := t.notices.beacon, pager := t.notices.pager }

/-- A warm start keeps the tables and rolls back what was in flight: promises are cleared and the lists empty,
PICKING contracts return to TICKET and RETURNING contracts to OUT, the clock and the forecast go stale; a staff
door kept open and found closed empties the drop list, its keys going to STAFF_HAND; and the notices join the
ring (R15, R39, R83, R112, R116, R141, R167, R186). That a POWER_UP at a part with power starts from what a power
loss leaves is the model's choice of log 4. -/
def Obligations.WarmStartRollsBack : Prop :=
  ∀ (s u : State) (c : Instr) (byMessage : Bool), StartFrom s u c false byMessage →
    ∃ t, exec c s = .next t
      ∧ (∀ k, t.key k = (u.key k).map fun r => { r with
          promisedTo := none
          location := if u.visitOver false ∧ r.location = .drop
              ∧ ∃ x ∈ u.drop.entries, x.key = some k then .staffHand else r.location })
      ∧ (∀ g, t.keys.lists.get g = [])
      ∧ (∀ sl, t.slot sl = (u.slot sl).map fun x =>
          if x.state = .picking then { x with state := .ticket, key := none, grantedGroup := none }
          else if x.state = .returning then { x with state := .out } else x)
      ∧ t.contracts.codes = u.contracts.codes
      ∧ t.drop.entries = (if u.visitOver false then [] else u.drop.entries)
      ∧ t.overdue.clock = .stale ∧ t.overdue.value = u.overdue.value
      ∧ t.overdue.forecast = { u.overdue.forecast with stale := true }
      ∧ (∀ n, (t.comp n).service = (u.comp n).service ∧ (t.comp n).contents = (u.comp n).contents
          ∧ (t.comp n).forced = (u.comp n).forced)
      ∧ t.notices = { (u.noted (u.startBodies false byMessage)).notices with
          pending := t.notices.pending, missing := t.notices.missing, foreign := t.notices.foreign
          callLatch := false, beacon := t.notices.beacon, pager := t.notices.pager }

/-- When power is lost every record stays as the last event left it; a write in flight has no completion, and
leaves its own record, and no other, with a check value that fails (R182; log 4, log 6, log 7). -/
def Obligations.PowerLossDamagesOnlyTheWrite : Prop :=
  ∀ (s : State), s.powered = true →
    (s.store.busy = false → exec .powerLoss s = .next { s with powered := false })
    ∧ (s.store.busy = true → ∀ x, s.store.staging = some x →
      exec .powerLoss s = .next { s with
        powered := false
        store := { s.store with
          busy := false, staging := none
          stored := match x with
            | .profile _ => { s.store.stored with
                profile := ⟨s.store.stored.profile.contents, false⟩ }
            | .group g _ => { s.store.stored with
                groups := s.store.stored.groups.set g ⟨(s.store.stored.groups.get g).contents, false⟩ }
            | .panel n _ => { s.store.stored with
                panels := s.store.stored.panels.set n ⟨(s.store.stored.panels.get n).contents, false⟩ }
            | .alert _ => { s.store.stored with alert := ⟨s.store.stored.alert.contents, false⟩ }
            | .badge b _ => { s.store.stored with
                badges := s.store.stored.badges.set b
                  ⟨(s.store.stored.badges.get b).contents, false⟩ } } })

/-! ### The part's state, clock and mode -/

/-- STATUS reports 43 bytes and clears the link-error flag it reports; nothing else changes. A body that is not empty
is refused BAD_FORMAT (R177). -/
def Obligations.StatusReportsAndClearsTheFlag : Prop :=
  ∀ (s : State) (tg : Byte), s.serves tg →
    (∀ body : List Byte, body ≠ [] → ∃ t, exec (.status tg body) s = .next t
      ∧ Refused s t 0x81 tg 2)
    ∧ ∃ t, exec (.status tg []) s = .next t
      ∧ Sent ({ s with link := { s.link with error := false } }.answered 0x81 tg
        (0 :: [byte s.mode.code, byte s.overdue.clock.code] ++ toBytes 4 s.overdue.value
          ++ [byte ((fins 192).countP fun n => (s.comp n).service == Service.inService && (s.comp n).known
                && (s.comp n).contents.isEmpty && (s.comp n).reservation.isNone),
              byte (((fins 16).map fun g => (s.keys.lists.get g).length).sum)]
          ++ (([.ticket, .suspended, .picking, .out, .returning, .closed, .lapsed, .void] :
                List ContractState).flatMap fun (st : ContractState) =>
              toBytes 2 ((fins 512).countP fun sl => (s.slot sl).map Contract.state == some st))
          ++ toBytes 2 s.overdue.counts.none ++ toBytes 2 s.overdue.counts.soon
          ++ toBytes 2 s.overdue.counts.late1 ++ toBytes 2 s.overdue.counts.late2
          ++ toBytes 2 s.overdue.counts.late3
          ++ [byte s.drop.entries.length, byte s.notices.ring.length,
              if s.notices.overflow then 1 else 0, if s.link.error then 1 else 0,
              if s.scanner.sweeping then 1 else 0, if s.store.busy then 1 else 0,
              match s.notices.pending.head? with
                | none => 0
                | some c => byte c.code,
              if s.overdue.forecast.short then 1 else 0,
              if s.overdue.forecast.stale then 1 else 0])) t

/-- SET_CLOCK: a body of another length is refused BAD_FORMAT; else the reply reports the state and value
before, the clock runs at the given minute, the count within the minute restarts and a lateness scan is
requested with it; nothing else changes (R115). -/
def Obligations.SetClockSetsAndStartsAScan : Prop :=
  ∀ (s : State) (tg : Byte), s.serves tg →
    (∀ body : List Byte, body.length ≠ 4 → ∃ t, exec (.setClock tg body) s = .next t
      ∧ Refused s t 0x82 tg 2)
    ∧ ∀ m, m ≤ 4294967295 → ∃ t, exec (.setClock tg (toBytes 4 m)) s = .next t
      ∧ Sent { s.answered 0x82 tg (0 :: byte s.overdue.clock.code :: toBytes 4 s.overdue.value) with
          overdue := { s.overdue with
            clock := .running, value := m
            scan := if s.overdue.scan.scanning then { s.overdue.scan with pendingStart := some m }
              else { s.overdue.scan with scanning := true, minute := m, nextSlot := 0 } }
          timeBase := { s.timeBase with ticks := 0 } } t

/-- SET_MODE: refusals of another length and of a byte above 2; else the mode is set, the kiosk follows as R92
gives, the flap is recomputed, the reply reports the mode before and the flap after, and nothing else changes
(R148). That the new prompt of IDLE stops a result hold is the model's choice of log 21, that a brief prompt runs on
where the kiosk stays as it is that of log 43, and that a kiosk brought to IDLE keeps no release of a staff session that
of log 17. -/
def Obligations.SetModeMovesKioskAndFlap : Prop :=
  ∀ (s : State) (tg : Byte), s.serves tg →
    (∀ body : List Byte, body.length ≠ 1 → ∃ t, exec (.setMode tg body) s = .next t
      ∧ Refused s t 0x83 tg 2)
    ∧ (∀ b : Byte, 2 < b.toNat → ∃ t, exec (.setMode tg [b]) s = .next t ∧ Refused s t 0x83 tg 4)
    ∧ ∀ m : BranchMode, ∃ t, exec (.setMode tg [byte m.code]) s = .next t
      ∧ ∃ flap : Flap, (flap = .opened ↔ m = .unstaffed ∧ s.drop.entries.length < 48 ∧ s.drop.staffDoor = .closed)
      ∧ Sent { s.answered 0x83 tg [0, byte s.mode.code, if flap = .opened then 0 else 1] with
          mode := m, kiosk := t.kiosk, drop := { s.drop with flap := flap } } t
      ∧ (m = s.mode ∨ (m ≠ .lockdown ∧ s.mode ≠ .lockdown) → t.kiosk = s.kiosk)
      ∧ (m = .lockdown → s.mode ≠ .lockdown →
        (s.kiosk.mode = .codeEntry → t.kiosk = { s.kiosk with
            mode := .idle, digits := [], waited := none, badge := none, opens := []
            interDigit := none, lockout := none, staffTimer := none, resultHold := none
            brief := none, prompt := .outOfService })
        ∧ (s.kiosk.mode = .idle → t.kiosk = { s.kiosk with
            prompt := .outOfService, resultHold := none })
        ∧ (s.kiosk.mode ≠ .codeEntry → s.kiosk.mode ≠ .idle → t.kiosk = s.kiosk))
      ∧ (m ≠ .lockdown → s.mode = .lockdown →
        (s.kiosk.mode = .idle → t.kiosk = { s.kiosk with prompt := .welcome, resultHold := none })
        ∧ (s.kiosk.mode ≠ .idle → t.kiosk = s.kiosk))

/-- RESTART and PURGE are refused BUSY while a write is in flight or a start is pending, and else only ask for
their start; TIMEBASE is refused BUSY while a start is pending, ONCE_ONLY after one was taken and BAD_VALUE out of
range, and else sets N for this run, the line's rate following at the end of its reply (R184, R185). -/
def Obligations.StartsAndDivisorAreAsked : Prop :=
  ∀ (s : State) (tg : Byte), s.serves tg →
    (s.store.busy = true ∨ s.startPending.isSome = true →
      (∃ t, exec (.restart tg []) s = .next t ∧ Refused s t 0x84 tg 12)
      ∧ ∃ t, exec (.purge tg []) s = .next t ∧ Refused s t 0x85 tg 12)
    ∧ (s.store.busy = false → s.startPending = none →
      (∃ t, exec (.restart tg []) s = .next t
        ∧ Sent { s.answered 0x84 tg [0] (.start false) with startPending := some false } t)
      ∧ ∃ t, exec (.purge tg []) s = .next t
        ∧ Sent { s.answered 0x85 tg [0] (.start true) with startPending := some true } t)
    ∧ ∀ n, n ≤ 65535 → ∃ t, exec (.timebase tg (toBytes 2 n)) s = .next t
      ∧ (if s.startPending.isSome then Refused s t 0x86 tg 12
        else if s.timeBase.once then Refused s t 0x86 tg 16
        else if n < 2000 ∨ 50000 < n then Refused s t 0x86 tg 4
        else Sent { s.answered 0x86 tg (0 :: toBytes 2 s.timeBase.divisor) .rate with
          timeBase := { s.timeBase with divisor := n, once := true } } t)

/-! ### Keys -/

/-- KEY_ENROL is refused BAD_VALUE for a tag number of 0, a label that is not valid or a field out of range,
CODE_IN_USE for a tag that an enrolled record has and TABLE_FULL when every place is enrolled, tested in this order;
else the key takes the lowest free place; each compartment that holds the tag as a foreign item and has no scan list
entry is queued for a SWEEP scan; nothing else changes (R8; log 27). -/
def Obligations.EnrolTakesTheLowestPlace : Prop :=
  ∀ (s : State) (tg : Byte) (tag : Nat), s.serves tg → s.ScanOk → tag ≤ 1099511627775 →
    (∀ (l : List Byte) (g tr en seats : Nat), l.length = 8 →
      g ≤ 255 → tr ≤ 255 → en ≤ 255 → seats ≤ 255 →
      (tag = 0 ∨ (∀ x, LabelOk x → padded x ≠ l) ∨ 15 < g ∨ 1 < tr ∨ 3 < en ∨ seats < 2 ∨ 9 < seats) →
      ∃ t, exec (.keyEnrol tg (toBytes 5 tag ++ l ++ [byte g, byte tr, byte en, byte seats])) s = .next t
        ∧ Refused s t 0x90 tg 4)
    ∧ ∀ (l : List Byte) (g : Group) (tr : Transmission) (en : Energy) (seats : Nat),
      1 ≤ tag → LabelOk l → 2 ≤ seats → seats ≤ 9 →
      ∃ t, exec (.keyEnrol tg (toBytes 5 tag ++ padded l
          ++ [byte g.val, byte tr.code, byte en.code, byte seats])) s = .next t
        ∧ ((∃ j r, s.key j = some r ∧ r.tag = tag) → Refused s t 0x90 tg 7)
        ∧ ((∀ j r, s.key j = some r → r.tag ≠ tag) →
          ((∀ j, (s.key j).isSome = true) → Refused s t 0x90 tg 6)
          ∧ ∀ k, s.key k = none → (∀ j, j < k → (s.key j).isSome = true) →
            Settled { s.answered 0x90 tg (0 :: toBytes 2 k.val) with
                keys := { s.keys with
                  places := s.keys.places.set k
                    (some ⟨tag, l, g, tr, en, seats, .staffHand, .checked, false, none, 0⟩) }
                scanner := { s.scanner with list := t.scanner.list }
                compartments := { s.compartments with table := t.compartments.table } } t
            ∧ SweepQueued s t ((fins 192).filter fun n =>
                (s.comp n).contents.contains (.foreign tag) && !s.scanner.list.any (·.comp == n)))

/-- KEY_EDIT replaces the descriptive fields of an enrolled key and keeps the others; a key in its list whose
group changes moves to the new group's list, the others keeping their order. KEY_REMOVE is refused WRONG_STATE for
a key in COMPARTMENT, OUT or DROP or that a live contract names; else the place becomes free and nothing else changes
(R9, R10). -/
def Obligations.EditAndRemoveChangeTheRecord : Prop :=
  ∀ (s : State) (tg : Byte) (k : KeyId) (r : KeyRecord), s.serves tg → s.key k = some r →
    (∀ (l : List Byte) (g : Group) (tr : Transmission) (en : Energy) (seats : Nat),
      LabelOk l → 2 ≤ seats → seats ≤ 9 →
      ∃ t, exec (.keyEdit tg (toBytes 2 k.val ++ padded l
          ++ [byte g.val, byte tr.code, byte en.code, byte seats])) s = .next t
        ∧ Sent { s.answered 0x91 tg [0] with keys := t.keys } t
        ∧ t.key k = some { r with label := l, group := g, transmission := tr, energy := en, seats := seats }
        ∧ (∀ j, j ≠ k → t.key j = s.key j)
        ∧ (g = r.group ∨ k ∉ s.keys.lists.get r.group → t.keys.lists = s.keys.lists)
        ∧ (g ≠ r.group → k ∈ s.keys.lists.get r.group →
          t.keys.lists.get r.group = (s.keys.lists.get r.group).filter (· != k)
          ∧ k ∈ t.keys.lists.get g
          ∧ (t.keys.lists.get g).filter (· != k) = (s.keys.lists.get g).filter (· != k)
          ∧ ∀ h, h ≠ g → h ≠ r.group → t.keys.lists.get h = s.keys.lists.get h))
    ∧ (((∃ n, r.location = .compartment n) ∨ (∃ c, r.location = .out c) ∨ r.location = .drop
        ∨ ∃ sl c, s.slot sl = some c
          ∧ ((c.entitlement = .specific k ∧ (c.state = .ticket ∨ c.state = .suspended
              ∨ c.state = .picking))
            ∨ (c.key = some k ∧ (c.state = .picking ∨ c.state = .out ∨ c.state = .returning)))) →
      ∃ t, exec (.keyRemove tg (toBytes 2 k.val)) s = .next t ∧ Refused s t 0x92 tg 11)
    ∧ ((r.location = .staffHand ∨ r.location = .missing) →
      (∀ sl c, s.slot sl = some c →
        ¬ (c.entitlement = .specific k ∧ (c.state = .ticket ∨ c.state = .suspended
            ∨ c.state = .picking))
        ∧ ¬ (c.key = some k ∧ (c.state = .picking ∨ c.state = .out ∨ c.state = .returning))) →
      ∃ t, exec (.keyRemove tg (toBytes 2 k.val)) s = .next t
        ∧ Settled { s.answered 0x92 tg [0] with
            keys := { s.keys with places := s.keys.places.set k none } } t)

/-- KEY_HOLD and KEY_CHECKED change the one field they name and re-examine the key against R5; a value already
held changes nothing (R12, R13). -/
def Obligations.HoldAndCheckReexamine : Prop :=
  ∀ (s : State) (tg : Byte) (k : KeyId) (r : KeyRecord), s.serves tg → s.key k = some r →
    (∀ hold : Bool, ∃ t,
      exec (.keyHold tg (toBytes 2 k.val ++ [if hold then 1 else 0])) s = .next t
      ∧ Sent { s.answered 0x94 tg [0] with keys := t.keys } t
      ∧ (r.hold = hold → t.keys = s.keys)
      ∧ (r.hold ≠ hold → Reexamined s t k { r with hold := hold }))
    ∧ ∃ t, exec (.keyChecked tg (toBytes 2 k.val)) s = .next t
      ∧ Sent { s.answered 0x95 tg [0] with keys := t.keys } t
      ∧ (r.mark = .checked → t.keys = s.keys)
      ∧ (r.mark = .unchecked → Reexamined s t k { r with mark := .checked })

/-- KEY_QUERY, by index or by tag number, and AVAIL_QUERY report what the key table holds and change nothing
(R11, R14; log 12, log 13). -/
def Obligations.KeyQueriesReport : Prop :=
  ∀ (s : State) (tg : Byte), s.serves tg →
    (∀ (k : KeyId) (r : KeyRecord), s.key k = some r → ∃ t,
      exec (.keyQuery tg (0 :: toBytes 2 k.val)) s = .next t
      ∧ ((∀ j a, s.key j = some a → a.tag = r.tag → j = k) → r.tag ≤ 1099511627775 →
        exec (.keyQuery tg (1 :: toBytes 5 r.tag)) s = .next t)
      ∧ Sent (s.answered 0x93 tg (0 :: toBytes 2 k.val ++ toBytes 5 r.tag ++ padded r.label
        ++ [byte r.group.val, byte r.transmission.code, byte r.energy.code, byte r.seats,
          byte r.location.code,
          match r.location with
            | .compartment n => byte (n.val + 1)
            | _ => 0]
        ++ toBytes 4 (match r.location with
            | .out c => c
            | _ => 0)
        ++ [byte r.mark.code, if r.hold then 1 else 0]
        ++ (match r.promisedTo with
            | some c => 1 :: toBytes 4 c
            | none => [0, 0, 0, 0, 0])
        ++ toBytes 4 r.idleSince
        ++ (if k ∈ s.keys.lists.get r.group
            then [1, byte ((s.keys.lists.get r.group).findIdx (· == k) + 1)] else [0, 0]))) t)
    ∧ (∀ (g : Group) (start : Nat), start ≤ 255 → ∃ t,
      exec (.availQuery tg [byte g.val, byte start]) s = .next t
      ∧ Sent (s.answered 0x96 tg (0 :: [byte g.val, byte (s.keys.lists.get g).length, byte start,
          byte (((s.keys.lists.get g).drop start).take 24).length]
        ++ (((s.keys.lists.get g).drop start).take 24).flatMap fun k => match s.key k with
          | some r => toBytes 2 k.val ++ [match r.location with
              | .compartment n => byte (n.val + 1)
              | _ => 0] ++ toBytes 4 r.idleSince
          | none => toBytes 2 k.val ++ [0, 0, 0, 0, 0])) t)
    ∧ ∀ start : Byte, ∃ t, exec (.availQuery tg [0xFF, start]) s = .next t
      ∧ Sent (s.answered 0x96 tg (0 :: 0xFF
        :: byte (((fins 16).map fun g => (s.keys.lists.get g).length).sum)
        :: (fins 16).map fun g => byte (s.keys.lists.get g).length)) t

/-! ### Contracts -/

/-- ISSUE with a value out of range is refused BAD_VALUE, and with a SPECIFIC key index above 383 NOT_FOUND. With
values in range it makes a TICKET of the lowest free slot, or is refused NOT_FOUND, CODE_IN_USE, KEY_CLAIMED or
TABLE_FULL, tested in this order; its code enters the index, and the key of a SPECIFIC ticket leaves its list
(R61). -/
def Obligations.IssueMakesATicket : Prop :=
  ∀ (s : State) (tg : Byte), s.serves tg →
    (∀ body : List Byte, body.length = 31 → ∃ t, exec (.issue tg body) s = .next t
      ∧ (IssueOutOfRange body → Refused s t 0xA0 tg 4)
      ∧ (¬ IssueOutOfRange body → field body 4 1 = 0 → 383 < field body 5 2 → Refused s t 0xA0 tg 5))
    ∧ ∀ (number : Nat) (ent : Entitlement) (code start stop grace : Option Nat) (due : Nat),
    1 ≤ number → number ≤ 4294967295 →
    (∀ g t e m u, ent = .cls g t e m u → m ≤ 9 ∧ u ≤ 2) → Within 999999 code →
    Within 4294967295 start → Within 4294967295 stop → due ≤ 4294967295 → Within 720 grace →
    WindowOk start stop due →
    ∃ t, exec (.issue tg (toBytes 4 number ++ ent.bytes ++ optional 3 code ++ optional 4 start
        ++ optional 4 stop ++ toBytes 4 due ++ optional 2 grace)) s = .next t
      ∧ (((∃ k, ent = .specific k ∧ s.key k = none) → Refused s t 0xA0 tg 5)
        ∧ ((∀ k, ent = .specific k → (s.key k).isSome = true) →
          ((∃ sl c, s.slot sl = some c ∧ c.number = number)
              ∨ (∃ p ∈ s.contracts.codes, code = some p.1) → Refused s t 0xA0 tg 7)
          ∧ ((∀ sl c, s.slot sl = some c → c.number ≠ number) →
            (∀ p ∈ s.contracts.codes, code ≠ some p.1) →
            ((∃ k, ent = .specific k ∧ ∃ sl c, s.slot sl = some c ∧ NamesKey c k) →
              Refused s t 0xA0 tg 8)
            ∧ ((∀ k, ent = .specific k → ∀ sl c, s.slot sl = some c → ¬ NamesKey c k) →
              ((∀ sl, (s.slot sl).isSome = true) → Refused s t 0xA0 tg 6)
              ∧ ∀ sl, s.slot sl = none → (∀ j, j < sl → (s.slot j).isSome = true) →
                Sent { s.answered 0xA0 tg (0 :: toBytes 2 sl.val) with
                    contracts := {
                      slots := s.contracts.slots.set sl (some
                        ⟨number, .ticket, ent, code, start, stop, due, grace, none, none, none, none,
                          none, .none, 0, 0, none⟩)
                      codes := t.contracts.codes }
                    keys := { s.keys with lists := t.keys.lists } } t
                ∧ (code = none → t.contracts.codes = s.contracts.codes)
                ∧ (∀ x, code = some x →
                  (∀ p, p ∈ t.contracts.codes ↔ p ∈ s.contracts.codes ∨ p = (x, sl)))
                ∧ ((∀ k, ent ≠ .specific k) → t.keys.lists = s.keys.lists)
                ∧ (∀ k r, s.key k = some r → ent = .specific k →
                  t.keys.lists.get r.group = (s.keys.lists.get r.group).filter (· != k)
                  ∧ ∀ g, g ≠ r.group → t.keys.lists.get g = s.keys.lists.get g)))))

/-- AMEND of a contract with values in range is refused WRONG_STATE, BAD_VALUE for its dates, CODE_IN_USE or
CLOCK_NOT_SET, tested in this order; else a ticket takes every change, its code the index's, and its tier is not
evaluated (R62). -/
def Obligations.AmendChangesATicket : Prop :=
  ∀ (s : State) (tg : Byte) (sl : Slot) (c : Contract) (code start stop grace : Option (Option Nat))
    (due : Option Nat), s.serves tg → s.IndexOk → s.slot sl = some c → c.number ≤ 4294967295 →
    (∀ x, code = some x → Within 999999 x) → (∀ x, start = some x → Within 4294967295 x) →
    (∀ x, stop = some x → Within 4294967295 x) → Within 4294967295 due →
    (∀ x, grace = some x → Within 720 x) →
    let c' : Contract := { c with
      code := code.getD c.code, windowStart := start.getD c.windowStart
      windowEnd := stop.getD c.windowEnd, due := due.getD c.due, grace := grace.getD c.grace }
    ∃ t, exec (.amend tg (amendBody c.number code start stop due grace)) s = .next t
      ∧ ((c.state = .picking ∨ c.state = .closed ∨ c.state = .lapsed ∨ c.state = .void
          ∨ ((c.state = .ticket ∨ c.state = .suspended) ∧ grace ≠ none)
          ∨ (c.isOpen = true ∧ (code ≠ none ∨ start ≠ none ∨ stop ≠ none)) →
          Refused s t 0xA1 tg 11)
        ∧ (((c.state = .ticket ∨ c.state = .suspended) ∧ grace = none)
            ∨ (c.isOpen = true ∧ code = none ∧ start = none ∧ stop = none) →
          (¬ WindowOk c'.windowStart c'.windowEnd c'.due → Refused s t 0xA1 tg 4)
          ∧ (WindowOk c'.windowStart c'.windowEnd c'.due →
            ((∃ p ∈ s.contracts.codes, code = some (some p.1) ∧ p.2 ≠ sl) → Refused s t 0xA1 tg 7)
            ∧ (c.isOpen = true → due ≠ none → s.overdue.clock ≠ .running → Refused s t 0xA1 tg 15)))
        ∧ ((c.state = .ticket ∨ c.state = .suspended) → grace = none →
          WindowOk c'.windowStart c'.windowEnd c'.due →
          (∀ p ∈ s.contracts.codes, code = some (some p.1) → p.2 = sl) →
          Settled { s.answered 0xA1 tg [0, byte c.state.code, byte c.tier.code] with
              contracts := { slots := s.contracts.slots.set sl (some c'), codes := t.contracts.codes } } t
          ∧ (code = none → t.contracts.codes = s.contracts.codes)
          ∧ ∀ x, code = some x → ∀ p, p ∈ t.contracts.codes ↔
            (p ∈ s.contracts.codes ∧ p.2 ≠ sl) ∨ (x = some p.1 ∧ p.2 = sl)))

/-- AMEND of an open contract records a new grace override, and a new due minute with it resets the stored tier
to the tier computed at the present minute, up or down, with the reminder base there; only a rise enters
TIER_RAISED (R62, R63). -/
def Obligations.AmendResetsAnOpenContract : Prop :=
  ∀ (s : State) (tg : Byte) (sl : Slot) (c : Contract) (k : KeyId) (r : KeyRecord)
    (grace : Option (Option Nat)) (due : Option Nat) (m : Nat) (x : Tier),
    s.serves tg → s.IndexOk → s.slot sl = some c → c.number ≤ 4294967295 → c.isOpen = true →
    c.key = some k → s.key k = some r → Within 4294967295 due →
    (∀ y, grace = some y → Within 720 y) → s.overdue.clock = .running → s.overdue.value = m →
    let c' : Contract := { c with due := due.getD c.due, grace := grace.getD c.grace }
    WindowOk c.windowStart c.windowEnd c'.due → TierAt (s.policy r.group) c' m x →
    ∃ t, exec (.amend tg (amendBody c.number none none none due grace)) s = .next t
      ∧ (due = none → Settled { s.answered 0xA1 tg [0, byte c.state.code, byte c.tier.code] with
          contracts := { s.contracts with slots := s.contracts.slots.set sl (some c') } } t)
      ∧ (due ≠ none →
        Settled { (s.answered 0xA1 tg [0, byte c.state.code, byte x.code]).noted
            (if c.tier.code < x.code then
              [{ kind := .tierRaised, minute := some m, key := some k, contract := some c.number
                 detailA := 10 * c.tier.code + x.code
                 detailB := hoursLate (s.policy r.group) c' m }]
            else []) with
          contracts := { s.contracts with
            slots := s.contracts.slots.set sl (some { c' with tier := x, reminderBase := m }) } } t)

/-- HANDOUT of a TICKET starts a pickup with origin LINK: of the key it names, else of the entitled key, else of
the key class selection chooses over all panels; the contract is PICKING, the key promised and out of its list,
the release taken in the priority class, and the reply names key, compartment, group and position; a full release
queue is refused QUEUE_FULL. Before that, a contract not in TICKET is refused WRONG_STATE, a class without a key
NOT_AVAILABLE, an UNCHECKED named key NOT_CHECKED, and a key behind a door that is not LOCKED or in no compartment
NOT_AVAILABLE (R67, R68, R69). -/
def Obligations.HandoutStartsThePickup : Prop :=
  ∀ (s : State) (tg : Byte) (sl : Slot) (c : Contract), s.serves tg → s.IndexOk → s.LatchOk →
    s.AvailOk → s.slot sl = some c → c.number ≤ 4294967295 →
    (∀ (named : Option KeyId) (k : KeyId) (r : KeyRecord) (n : CompId), c.state = .ticket →
      s.key k = some r → r.location = .compartment n → (s.comp n).door = .locked →
      ((named = some k ∨ (named = none ∧ c.entitlement = .specific k))
          ∧ (k ∈ s.keys.lists.get r.group
            ∨ (c.entitlement = .specific k
              ∧ MayBeListed { s with contracts := { s.contracts with
                  slots := s.contracts.slots.set sl none } } k r))
        ∨ (named = none ∧ ∃ g t e m u, c.entitlement = .cls g t e m u
          ∧ Chosen s (fun _ => True) g t e m u k)) →
      ∃ t, exec (.handout tg (toBytes 4 c.number ++ (match named with
          | some j => 1 :: toBytes 2 j.val
          | none => [0, 0, 0]))) s = .next t
        ∧ (s.compartments.queue.length < 16 →
          Sent { s.answered 0xA2 tg (1 :: toBytes 2 k.val
              ++ [byte (n.val + 1), byte r.group.val, byte s.priorityPosition]) with
            contracts := t.contracts, keys := t.keys, compartments := t.compartments } t
          ∧ PickupStarted s t sl c k r ∧ ReleaseTaken s t n ⟨.pickup c.number k, .link⟩)
        ∧ (16 ≤ s.compartments.queue.length →
          t.link.replies = s.link.replies ++ [⟨0xA2, tg, [13], .nothing⟩]
          ∧ t.compartments = s.compartments ∧ t.contracts.codes = s.contracts.codes
          ∧ t.slot sl = some { c with key := none, grantedGroup := none }
          ∧ (∀ j, j ≠ sl → t.slot j = s.slot j) ∧ (t.key k).map KeyRecord.promisedTo = some none))
    ∧ (c.state ≠ .ticket → ∃ t, exec (.handout tg (toBytes 4 c.number ++ [0, 0, 0])) s = .next t
      ∧ Refused s t 0xA2 tg 11)
    ∧ (∀ g x e m u, c.state = .ticket → c.entitlement = .cls g x e m u →
      (∀ k, ¬ Chosen s (fun _ => True) g x e m u k) →
      ∃ t, exec (.handout tg (toBytes 4 c.number ++ [0, 0, 0])) s = .next t ∧ Refused s t 0xA2 tg 10)
    ∧ ∀ k r, s.key k = some r → c.state = .ticket →
      (r.mark = .unchecked →
        ∃ t, exec (.handout tg (toBytes 4 c.number ++ 1 :: toBytes 2 k.val)) s = .next t
          ∧ Refused s t 0xA2 tg 9)
      ∧ (r.mark = .checked → (∀ n, r.location = .compartment n → (s.comp n).door ≠ .locked) →
        ∃ t, exec (.handout tg (toBytes 4 c.number ++ 1 :: toBytes 2 k.val)) s = .next t
          ∧ Refused s t 0xA2 tg 10)

/-- CANCEL, RESUME and RETIRE: no slot holding the number is refused NOT_FOUND and another state WRONG_STATE; else
a booking becomes VOID with its code out of the index and its claim ended, a suspended ticket becomes TICKET with
no attempts, and a finished contract's slot becomes free; nothing else changes (R64, R65, R66). -/
def Obligations.CancelResumeRetire : Prop :=
  ∀ (s : State) (tg : Byte) (number : Nat), s.serves tg → s.IndexOk → number ≤ 4294967295 →
    ((∀ sl c, s.slot sl = some c → c.number ≠ number) →
      (∃ t, exec (.cancel tg (toBytes 4 number)) s = .next t ∧ Refused s t 0xA3 tg 5)
      ∧ (∃ t, exec (.resume tg (toBytes 4 number)) s = .next t ∧ Refused s t 0xA4 tg 5)
      ∧ ∃ t, exec (.retire tg (toBytes 4 number)) s = .next t ∧ Refused s t 0xA6 tg 5)
    ∧ ∀ sl c, s.slot sl = some c → c.number = number →
      (∃ t, exec (.cancel tg (toBytes 4 number)) s = .next t
        ∧ (c.state ≠ .ticket ∧ c.state ≠ .suspended → Refused s t 0xA3 tg 11)
        ∧ (c.state = .ticket ∨ c.state = .suspended →
          Sent { s.answered 0xA3 tg [0] with
              contracts := {
                slots := s.contracts.slots.set sl (some { c with state := .void })
                codes := s.contracts.codes.filter fun p => p.2 != sl }
              keys := t.keys } t
          ∧ ((∀ k, c.entitlement ≠ .specific k) → t.keys = s.keys)
          ∧ ∀ k r, s.key k = some r → c.entitlement = .specific k →
            Reexamined { s with contracts := t.contracts } t k r))
      ∧ (∃ t, exec (.resume tg (toBytes 4 number)) s = .next t
        ∧ (c.state ≠ .suspended → Refused s t 0xA4 tg 11)
        ∧ (c.state = .suspended → Sent { s.answered 0xA4 tg [0] with
            contracts := { s.contracts with
              slots := s.contracts.slots.set sl (some { c with state := .ticket, attempts := 0 }) } } t))
      ∧ ∃ t, exec (.retire tg (toBytes 4 number)) s = .next t
        ∧ (c.state ≠ .closed ∧ c.state ≠ .lapsed ∧ c.state ≠ .void → Refused s t 0xA6 tg 11)
        ∧ (c.state = .closed ∨ c.state = .lapsed ∨ c.state = .void →
          Sent { s.answered 0xA6 tg [0] with
            contracts := { s.contracts with slots := s.contracts.slots.set sl none } } t)

/-- FORCE_CLOSE is refused BAD_FORMAT for a body of another length, NOT_FOUND for a number that no slot holds and
WRONG_STATE for a contract that is neither OUT nor RETURNING. It closes an open contract with route FORCE_CLOSED at
the present minute, and its key's location becomes MISSING. The release of a return in flight is cancelled when its
door has not opened, and otherwise runs on with its reservation cleared; its outcome enters no notice (R78, R80). -/
def Obligations.ForceCloseClosesTheContract : Prop :=
  ∀ (s : State) (tg : Byte), s.serves tg → s.IndexOk →
    (∀ body : List Byte, body.length ≠ 4 → ∃ t, exec (.forceClose tg body) s = .next t
      ∧ Refused s t 0xA5 tg 2)
    ∧ (∀ number, number ≤ 4294967295 → (∀ sl c, s.slot sl = some c → c.number ≠ number) →
      ∃ t, exec (.forceClose tg (toBytes 4 number)) s = .next t ∧ Refused s t 0xA5 tg 5)
    ∧ ∀ sl c, s.slot sl = some c → c.number ≤ 4294967295 →
      (c.state ≠ .out → c.state ≠ .returning →
        ∃ t, exec (.forceClose tg (toBytes 4 c.number)) s = .next t ∧ Refused s t 0xA5 tg 11)
      ∧ (c.state = .out ∨ c.state = .returning → s.CabinetOk → s.RentalOk →
        ∀ k r x, c.key = some k → s.key k = some r → FinalTier (s.policy r.group) c s.present x →
        ∃ t, exec (.forceClose tg (toBytes 4 c.number)) s = .next t
        ∧ Settled { (s.answered 0xA5 tg (0 :: byte x.code :: optional 2
              (s.present.map (hoursLate (s.policy r.group) c)))).noted
            [returnDone (s.policy r.group) c .forceClosed s.present x none] with
          contracts := { s.contracts with
            slots := s.contracts.slots.set sl
              (some (closedAs (s.policy r.group) c .forceClosed s.present x)) }
          keys := t.keys, compartments := t.compartments, kiosk := t.kiosk
          scanner := { s.scanner with list := t.scanner.list } } t
        ∧ Reexamined { s with contracts := t.contracts } t k { r with location := .missing }
        ∧ ReturnGivenUp s t c.number k)

/-- CONTRACT_QUERY reports one contract in 60 bytes; LIST_LATE up to twelve open contracts at or above a tier, in slot
order from its start slot; and COMPARTMENT_QUERY one compartment in 54 bytes. They change nothing (R37, R81, R82). -/
def Obligations.ContractAndCompartmentQueries : Prop :=
  ∀ (s : State) (tg : Byte), s.serves tg → s.IndexOk → s.ScanOk →
    (∀ sl c, s.slot sl = some c → c.number ≤ 4294967295 →
      ∃ t, exec (.contractQuery tg (toBytes 4 c.number)) s = .next t
      ∧ Sent (s.answered 0xA7 tg (0 :: toBytes 2 sl.val ++ toBytes 4 c.number ++ [byte c.state.code]
          ++ (match c.entitlement with
            | .specific k => 0 :: toBytes 2 k.val ++ [0, 0, 0]
            | .cls g x e m u => [1, byte g.val,
                match x with
                  | some x => byte x.code
                  | none => 2,
                match e with
                  | some e => byte e.code
                  | none => 4, byte m, byte u])
          ++ optional 3 c.code ++ optional 4 c.windowStart ++ optional 4 c.windowEnd
          ++ toBytes 4 c.due ++ optional 2 c.grace ++ optional 2 (c.key.map Fin.val)
          ++ optional 1 (c.grantedGroup.map Fin.val) ++ optional 4 c.handoutMinute
          ++ optional 4 c.returnMinute ++ optional 1 (c.route.map Route.code) ++ [byte c.tier.code]
          ++ toBytes 4 c.reminderBase ++ [byte c.attempts] ++ optional 2 c.lateHours)) t)
    ∧ (∀ tier start, tier ≤ 4 → start ≤ 511 →
      let late := (fins 512).filter fun sl => start ≤ sl.val
        && (s.slot sl).any fun c => c.isOpen && tier ≤ c.tier.code
      ∃ t, exec (.listLate tg (byte tier :: toBytes 2 start)) s = .next t
        ∧ Sent (s.answered 0xA8 tg (0 :: byte (late.take 12).length
          :: toBytes 2 (if late.length < 12 ∨ late[11]? = some 511 then 0xFFFF
            else (late[11]?.map Fin.val).getD 0 + 1)
          ++ (late.take 12).flatMap fun sl => match s.slot sl with
            | some c => toBytes 2 sl.val ++ toBytes 4 c.number ++ toBytes 2 ((c.key.map Fin.val).getD 0)
              ++ [byte c.tier.code] ++ toBytes 4 c.due
            | none => [])) t)
    ∧ ∀ n : CompId, (s.comp n).contents.length ≤ 4 →
      ∃ t, exec (.compartmentQuery tg [byte (n.val + 1)]) s = .next t
      ∧ Sent (s.answered 0xB3 tg (0 :: [byte (n.val + 1), byte (n.val / 24 + 1),
          byte (s.comp n).door.code, byte (s.comp n).service.code,
          if (s.comp n).known then 1 else 0, if (s.comp n).forced then 1 else 0,
          byte (s.comp n).contents.length]
        ++ (s.comp n).contents.flatMap itemFields
        ++ List.replicate (24 - 6 * (s.comp n).contents.length) (0 : Byte)
        ++ optional 4 (s.comp n).reservation
        ++ releaseFields (s.comp n).release
        ++ [if s.compartments.channel1 = some n then 1
              else if s.compartments.channel2 = some n then 2 else 0,
            byte (match s.compartments.queue.findIdx? (· == n) with
              | some i => i + 1
              | none => 0)]
        ++ toBytes 2 (if (s.comp n).door = DoorState.unlatched then ((s.comp n).window.getD 0 + 999) / 1000
            else if (s.comp n).door = .opened then ((s.comp n).hold.getD 0 + 999) / 1000 else 0)
        ++ [(if s.scanner.list.any (fun e => e.comp == n && e.cls == .door) then 1
            else if s.scanner.list.any (·.comp == n) then 2 else 0 : Byte)])) t

/-! ### Compartments, releases and scans -/

/-- OPEN is refused BAD_VALUE for a number out of range, WRONG_STATE for a compartment out of service or not LOCKED
and QUEUE_FULL for a full release queue; else its LINK release is taken in the priority class, and the reply gives 0 for a granted channel or the
position in the queue (R20, R21, R22, R34). -/
def Obligations.OpenRequestsARelease : Prop :=
  ∀ (s : State) (tg : Byte), s.serves tg → s.LatchOk →
    (∀ b : Byte, b = 0 ∨ 192 < b.toNat → ∃ t, exec (.openRelease tg [b]) s = .next t
      ∧ Refused s t 0xB0 tg 4)
    ∧ ∀ n : CompId, ∃ t, exec (.openRelease tg [byte (n.val + 1)]) s = .next t
      ∧ ((s.comp n).service = .outOfService ∨ (s.comp n).door ≠ .locked → Refused s t 0xB0 tg 11)
      ∧ ((s.comp n).service = .inService → (s.comp n).door = .locked →
        (16 ≤ s.compartments.queue.length → Refused s t 0xB0 tg 13)
        ∧ (s.compartments.queue.length < 16 →
          Sent { s.answered 0xB0 tg [1, byte s.priorityPosition] with
            compartments := t.compartments } t
          ∧ ReleaseTaken s t n ⟨.link, .link⟩))

/-- A release that ends before its door opens, by CANCEL_RELEASE in WAITING or UNLATCHED or by the end of its
window, gives up its place or its channel, which the next request takes; its compartment is LOCKED, or SCANNING
with a scan to come; and its owner is told, with reason EXPIRED or CANCELLED. In every other door state a cancel is
refused WRONG_STATE, and a window's end finds nothing to do (R18, R22, R24, R30, R35, R72, R77, R90, R94, R95). That
the kiosk keeps, as its record of a staff session's releases, the compartments they were asked for is the model's
choice of log 17, and that a window's end is taken in UNLATCHED whatever ticks are left that of log 44. -/
def Obligations.ReleaseEndsUnopened : Prop :=
  ∀ (s : State) (tg : Byte) (n : CompId), s.CabinetOk → s.ContractsOk →
    (∀ (cancel : Bool) (r : Release), (s.comp n).release = some r →
      (cancel = true → s.serves tg ∧ ((s.comp n).door = .waiting ∨ (s.comp n).door = .unlatched)) →
      (cancel = false → s.powered = true ∧ (s.comp n).door = .unlatched) →
      ∃ t, exec (if cancel then .cancelRelease tg [byte (n.val + 1)] else .windowExpiry n) s = .next t
        ∧ ReleaseDropped s t n ∧ ListKept s t
        ∧ ∃ e, OwnerTold { (if cancel then s.answered 0xB1 tg
              [0, byte r.purpose.code, byte r.origin.code] else s) with
            compartments := t.compartments, scanner := { s.scanner with list := t.scanner.list } }
            e n r (if cancel then 2 else 1)
          ∧ Settled e t)
    ∧ (s.powered = true → (s.comp n).door ≠ .unlatched → exec (.windowExpiry n) s = .next s)
    ∧ (s.serves tg → (s.comp n).door ≠ .unlatched → (s.comp n).door ≠ .waiting →
      ∃ t, exec (.cancelRelease tg [byte (n.val + 1)]) s = .next t ∧ Refused s t 0xB1 tg 11)

/-- SERVICE is refused WRONG_STATE but in LOCKED and UNKNOWN, and a service already held changes nothing; taking a
compartment out keeps its records and takes its key out of its list; putting it back queues a SWEEP scan, and its keys
stay outside their lists until that scan completes (R31, against R5 and section 1.4.1: log 28). RESCAN of one
compartment queues one in the same states, and RESCAN of all queues every compartment without an entry, in number
order, as a sweep (R31, R36, R41, R44, R54). -/
def Obligations.ServiceAndRescanQueueScans : Prop :=
  ∀ (s : State) (tg : Byte) (n : CompId), s.serves tg → s.ScanOk →
    ((s.comp n).door ≠ .locked → (s.comp n).door ≠ .unknown →
      (∀ b : Bool, ∃ t, exec (.service tg [byte (n.val + 1), if b then 1 else 0]) s = .next t
        ∧ Refused s t 0xB2 tg 11)
      ∧ ∃ t, exec (.rescan tg [byte (n.val + 1)]) s = .next t ∧ Refused s t 0xB4 tg 11)
    ∧ ((s.comp n).door = .locked ∨ (s.comp n).door = .unknown →
      (∃ t, exec (.service tg [byte (n.val + 1), 1]) s = .next t
        ∧ Settled { s.answered 0xB2 tg [0] with
            keys := t.keys
            compartments := { s.compartments with
              table := s.compartments.table.set n { s.comp n with service := .outOfService } } } t
        ∧ ((s.comp n).service = .outOfService → t.keys = s.keys)
        ∧ ((s.comp n).service = .inService → (∀ k, Item.key k ∉ (s.comp n).contents) → t.keys = s.keys)
        ∧ ∀ k r, s.key k = some r → (s.comp n).service = .inService →
          (s.comp n).contents = [.key k] → r.location = .compartment n →
          Reexamined { s with compartments := t.compartments } t k r)
      ∧ (∃ t, exec (.service tg [byte (n.val + 1), 0]) s = .next t
        ∧ Settled { s.answered 0xB2 tg [0] with
            scanner := { s.scanner with list := t.scanner.list }
            compartments := { s.compartments with table := t.compartments.table } } t
        ∧ SweepQueued { s with compartments := { s.compartments with
              table := s.compartments.table.set n { s.comp n with service := .inService } } } t
            (if (s.comp n).service = .outOfService ∧ s.scanner.list.all (·.comp != n)
              then [n] else []))
      ∧ ∃ t, exec (.rescan tg [byte (n.val + 1)]) s = .next t
        ∧ Settled { s.answered 0xB4 tg [1, if s.scanner.list.any (·.comp == n) then 0 else 1] with
            scanner := { s.scanner with list := t.scanner.list }
            compartments := { s.compartments with table := t.compartments.table } } t
        ∧ SweepQueued s t (if s.scanner.list.any (·.comp == n) then [] else [n]))
    ∧ ∃ t, exec (.rescan tg [0xFF]) s = .next t
      ∧ SweepQueued s t ((fins 192).filter fun m => !s.scanner.list.any (·.comp == m))
      ∧ ((∃ e ∈ t.scanner.list, e.cls = .sweep) →
        Settled { s.answered 0xB4 tg
            [1, byte ((fins 192).filter fun m => !s.scanner.list.any (·.comp == m)).length] with
          scanner := { list := t.scanner.list, sweeping := true }
          compartments := { s.compartments with table := t.compartments.table } } t)
      ∧ ((∀ e ∈ t.scanner.list, e.cls ≠ .sweep) →
        Settled { (s.answered 0xB4 tg [1, 0]).noted
            [{ kind := .sweepDone, minute := s.present
               detailB := (fins 192).countP fun m => !(s.comp m).known }] with
          scanner := { list := t.scanner.list, sweeping := false } } t)

/-- A door opened in UNLATCHED opens under its release: the channel is freed and the next request granted, the
door is OPEN with its hold running and the release attached, and the kiosk is told: a session still in STAFF that
asked for the release shows STAFF_READY (R22, R23, R90, R94, R95). That the session's releases are kept as their
compartments is the model's choice of log 17. -/
def Obligations.DoorOpensUnderItsRelease : Prop :=
  ∀ (s : State) (n : CompId) (r : Release), s.powered = true → s.CabinetOk →
    (s.comp n).door = .unlatched → (s.comp n).release = some r →
    ∃ t, exec (.doorOpened n) s = .next t
      ∧ Settled { s with
          doorPins := s.doorPins.set n true, compartments := t.compartments
          kiosk := match r.purpose with
            | .link => s.kiosk
            | .staff _ => s.kioskTold n
            | _ => if s.kiosk.mode = .waitDoor ∧ s.kiosk.waited.map Prod.fst = some n
              then { s.kiosk.toIdle .thankYou with resultHold := some 5000 } else s.kiosk } t
      ∧ Regranted s t n
      ∧ t.comp n = { s.comp n with
          door := .opened, window := none
          hold := some (s.store.working.profile.value.hold * 1000) }

/-- A door opened in LOCKED, WAITING, SCANNING or UNKNOWN is a forced opening: FORCED_OPEN, the flag set, the
notice entered; a scan list entry is withdrawn in SCANNING and UNKNOWN, with a release carried kept, and in WAITING
the request leaves the queue and its release ends CANCELLED (R25, R26, R45). That SWEEP_DONE follows FORCED_DOOR is
the model's choice of log 36, and that a staff session's releases are kept as their compartments that of log 17. -/
def Obligations.ForcedOpeningIsRecorded : Prop :=
  ∀ (s : State) (n : CompId), s.powered = true → s.CabinetOk → s.ContractsOk →
    let forced : NoticeBody :=
      { kind := .forcedDoor, minute := s.present, comp := some n
        contract := (s.comp n).release.bind fun r => match r.purpose with
          | .pickup c _ => some c
          | .ret c _ => some c
          | _ => none }
    let left := s.scanner.list.filter (·.comp != n)
    (((s.comp n).door = .locked ∨ (s.comp n).door = .scanning ∨ (s.comp n).door = .unknown) →
      ∃ t, exec (.doorOpened n) s = .next t
        ∧ Settled { ({ s with scanner := { s.scanner with list := left } }.noted [forced]).noted
              ({ s with scanner := { s.scanner with list := left } }.sweepNotice
                ((fins 192).countP fun m => !(s.comp m).known)) with
            doorPins := s.doorPins.set n true
            scanner := { list := t.scanner.list
                         sweeping := s.scanner.sweeping && left.any (·.cls == .sweep) }
            compartments := { s.compartments with
              table := s.compartments.table.set n
                { s.comp n with door := .forcedOpen, forced := true } } } t
        ∧ ListKept { s with scanner := { s.scanner with list := left } } t)
    ∧ ∀ r, (s.comp n).release = some r → (s.comp n).door = .waiting →
      ∃ t, exec (.doorOpened n) s = .next t
        ∧ t.comp n = { s.comp n with
            door := .forcedOpen, forced := true, release := none
            reservation := match r.purpose with
              | .ret _ _ => none
              | _ => (s.comp n).reservation }
        ∧ (∀ m, m ≠ n → t.comp m = s.comp m)
        ∧ ∃ e, OwnerTold { s.noted [forced] with
            doorPins := s.doorPins.set n true
            compartments := { s.compartments with
              table := t.compartments.table
              queue := s.compartments.queue.filter (· != n) } } e n r 2
          ∧ Settled e t

/-- A switch event that agrees with the state already held is taken with no effect: an opening in OPEN, LEFT_OPEN or
FORCED_OPEN, a closing in LOCKED, WAITING, UNLATCHED, SCANNING or UNKNOWN (R29); only the switch itself is recorded
(log 4). -/
def Obligations.AgreeingSwitchEventsHaveNoEffect : Prop :=
  ∀ (s : State) (n : CompId), s.powered = true →
    (((s.comp n).door = .opened ∨ (s.comp n).door = .leftOpen ∨ (s.comp n).door = .forcedOpen) →
      exec (.doorOpened n) s = .next { s with doorPins := s.doorPins.set n true })
    ∧ (((s.comp n).door = .locked ∨ (s.comp n).door = .waiting ∨ (s.comp n).door = .unlatched
        ∨ (s.comp n).door = .scanning ∨ (s.comp n).door = .unknown) →
      exec (.doorClosed n) s = .next { s with doorPins := s.doorPins.set n false })

/-- A closing in OPEN, LEFT_OPEN or FORCED_OPEN ends the opening: SCANNING, the hold stopped, and an entry at the
tail of the DOOR class with the purpose its scan is to carry, an entry the compartment held being promoted (R28,
R41, R45). In OPEN the hold's end makes the door LEFT_OPEN with its notice, and elsewhere it does nothing (R27); that it is taken
in OPEN whatever ticks the hold has left is the model's choice of log 44. -/
def Obligations.DoorClosesOrStandsOpen : Prop :=
  ∀ (s : State) (n : CompId), s.powered = true → s.CabinetOk →
    let others := s.scanner.list.filter (·.comp != n)
    let carried : Carried := if (s.comp n).release.isSome then .release
      else if (s.comp n).door = .forcedOpen then .forced else .nothing
    let list := others.filter (·.cls == .door) ++ [⟨n, .door, carried, false⟩]
      ++ others.filter (·.cls == .sweep)
    (((s.comp n).door = .opened ∨ (s.comp n).door = .leftOpen ∨ (s.comp n).door = .forcedOpen) →
      ∃ t, exec (.doorClosed n) s = .next t
        ∧ Settled { s.noted ({ s with scanner := { s.scanner with list := list } }.sweepNotice
              ((fins 192).countP fun m => !(s.comp m).known)) with
            doorPins := s.doorPins.set n false
            scanner := { list := t.scanner.list
                         sweeping := s.scanner.sweeping && list.any (·.cls == .sweep) }
            compartments := { s.compartments with
              table := s.compartments.table.set n { s.comp n with door := .scanning, hold := none } } } t
        ∧ ListKept { s with scanner := { s.scanner with list := list } } t)
    ∧ ((s.comp n).door = .opened →
      ∃ t, exec (.holdExpiry n) s = .next t
        ∧ Settled { s.noted [{ kind := .doorLeftOpen, minute := s.present, comp := some n
                               key := (s.comp n).release.bind fun r => match r.purpose with
                                 | .pickup _ k => some k
                                 | .ret _ k => some k
                                 | _ => none
                               contract := (s.comp n).release.bind fun r => match r.purpose with
                                 | .pickup c _ => some c
                                 | .ret c _ => some c
                                 | _ => none }] with
            compartments := { s.compartments with
              table := s.compartments.table.set n { s.comp n with door := .leftOpen, hold := none } } } t)
    ∧ ((s.comp n).door ≠ .opened → exec (.holdExpiry n) s = .next s)

/-- A scan completion leaves the list, writes the compartment's contents as the found tags in read order, known, and
clears its release and reservation with its door LOCKED; every enrolled key found is in the compartment, and every
key it held before and that was not found is elsewhere. Where no key is concerned and the release carried, if any, is
a STAFF or LINK one, nothing else changes, and FOREIGN_TAG is entered, in read order, for each found tag that the
compartment did not already hold as a foreign item (R43, R47, R50, R52). The completion of a compartment that is not
being read, as behind an opening that abandoned its read, is discarded (R42, R43; that the command names its
compartment is log 14's). -/
def Obligations.ScanWritesTheContents : Prop :=
  ∀ (s : State) (found : List Nat), s.powered = true →
    (∀ n, (∀ e ∈ s.scanner.list, e.reading = true → e.comp ≠ n) →
      exec (.scanCompletion ⟨n, found⟩) s = .next s)
    ∧ ∀ x : ScanEntry, s.CabinetOk → s.LocationOk →
      x ∈ s.scanner.list → x.reading = true → found.length ≤ 4 → found.Nodup →
      ∃ t, exec (.scanCompletion ⟨x.comp, found⟩) s = .next t
        ∧ t.comp x.comp = { s.comp x.comp with
            door := .locked, release := none, reservation := none, known := true
            contents := found.map fun tag => match s.keyOfTag tag with
              | some k => .key k
              | none => .foreign tag }
        ∧ (∀ e ∈ t.scanner.list, e.comp ≠ x.comp)
        ∧ (∀ k r, s.key k = some r → r.tag ∈ found →
          (t.key k).map KeyRecord.location = some (.compartment x.comp))
        ∧ (∀ k r, s.key k = some r → r.tag ∉ found →
          (t.key k).map KeyRecord.location ≠ some (.compartment x.comp))
        ∧ (∀ k, (t.key k).map KeyRecord.tag = (s.key k).map KeyRecord.tag)
        ∧ let n := x.comp
          let left := s.scanner.list.filter (·.comp != n)
          ((∀ r, (s.comp n).release = some r → r.purpose.key? = none) →
            (∀ k, Item.key k ∉ (s.comp n).contents) → (∀ k r, s.key k = some r → r.tag ∉ found) →
            Settled { s.noted ((found.filter fun tag => !(s.comp n).contents.contains (.foreign tag)).map
                  (fun tag => { kind := .foreignTag, minute := s.present, comp := some n, tag := some tag })
                ++ { s with scanner := { s.scanner with list := left } }.sweepNotice
                  ((fins 192).countP fun m => m != n && !(s.comp m).known)) with
              compartments := { s.compartments with
                table := s.compartments.table.set n ((s.comp n).scanned (found.map Item.foreign)) }
              scanner := { list := t.scanner.list
                           sweeping := s.scanner.sweeping && left.any (·.cls == .sweep) } } t
            ∧ ListKept { s with scanner := { s.scanner with list := left } } t)

/-- The scan of a compartment whose release's purpose it settles, or whose one key it no longer finds (R47, R51, R52,
R53, R74). The key is gone: under a PICKUP of that key the handout is complete, the contract OUT and its code out of the
index; under a STAFF or LINK release the key is in staff's hand; otherwise, a RETURN and the PICKUP of another key
among it, it is MISSING. A PICKUP whose key is still there, or left by another path, is not taken, and a RETURN whose key
is not found is not placed: its contract falls back, with the notices. A promise on the release's key is cleared,
whichever contract holds it. -/
def Obligations.ScanFindsTheKeyGone : Prop :=
  ∀ (s : State) (x : ScanEntry) (k : KeyId) (r : KeyRecord),
    s.powered = true → s.CabinetOk → s.ContractsOk → s.LocationOk →
    x ∈ s.scanner.list → x.reading = true → s.key k = some r →
    let n := x.comp
    let left := s.scanner.list.filter (·.comp != n)
    let note := { s with scanner := { s.scanner with list := left } }.sweepNotice
      ((fins 192).countP fun m => m != n && !(s.comp m).known)
    let base := fun (t : State) (items : List Item) (bs : List NoticeBody) => { s.noted (bs ++ note) with
      compartments := { s.compartments with
        table := s.compartments.table.set n ((s.comp n).scanned items) }
      scanner := { list := t.scanner.list
                   sweeping := s.scanner.sweeping && left.any (·.cls == .sweep) }
      keys := t.keys }
    let written := fun (e : State) (sl : Slot) (d : Contract) => { e with
      contracts := { s.contracts with slots := s.contracts.slots.set sl (some d) } }
    let after := fun (t : State) => { s with contracts := t.contracts, compartments := t.compartments }
    let ends := fun (e t : State) =>
      Settled e t ∧ ListKept { s with scanner := { s.scanner with list := left } } t
    let carries := fun (p : Purpose) => x.carried = .release ∧ ∃ o, (s.comp n).release = some ⟨p, o⟩
    ((s.comp n).contents = [.key k] →
      (∀ c, carries (.pickup c k) → ∀ sl d, s.slot sl = some d → d.number = c →
        (∀ e, d.entitlement = .specific e → e = k) →
        ∃ t, exec (.scanCompletion ⟨n, []⟩) s = .next t
          ∧ ends { base t [] [{ kind := .handoutDone, minute := s.present, comp := some n, key := some k
                                contract := some c }] with
              contracts := {
                slots := s.contracts.slots.set sl (some { d with
                  state := .out, handoutMinute := s.present })
                codes := s.contracts.codes.filter fun p => p.2 != sl } } t
          ∧ Reexamined (after t) t k { r with location := .out c, promisedTo := none })
      ∧ (∀ p, carries p → p = .link ∨ (∃ b, p = .staff b) →
        ∃ t, exec (.scanCompletion ⟨n, []⟩) s = .next t
          ∧ ends (base t [] [{ kind := .keyToStaff, minute := s.present, comp := some n, key := some k }]) t
          ∧ Reexamined (after t) t k { r with location := .staffHand })
      ∧ ((x.carried ≠ .release ∧ (s.comp n).release = none) →
        ∃ t, exec (.scanCompletion ⟨n, []⟩) s = .next t
          ∧ ends (base t [] [{ kind := .keyMissing, minute := s.present, comp := some n, key := some k }]) t
          ∧ Reexamined (after t) t k { r with location := .missing })
      ∧ (∀ p c j, carries p → (p = .ret c j ∨ (p = .pickup c j ∧ j ≠ k)) →
        ∀ sl d, s.slot sl = some d → d.number = c →
        ∃ t, exec (.scanCompletion ⟨n, []⟩) s = .next t
          ∧ ends (written (base t [] ({ kind := .keyMissing, minute := s.present, comp := some n
                                        key := some k
                                        contract := if p = .ret c j ∧ d.state ≠ .returning then none
                                             else some c }
              :: (unmet s.present n p d).1)) sl (unmet s.present n p d).2) t
          ∧ t.key k = some { r with
              location := .missing, promisedTo := if j = k then none else r.promisedTo }
          ∧ k ∉ t.keys.lists.get r.group ∧ (∀ i, i ≠ j → i ≠ k → t.key i = s.key i)
          ∧ ∀ y, s.key j = some y → j ≠ k → (t.key j).map (fun z => (z.location, z.promisedTo))
            = some (y.location, none))
      ∧ ∀ c, carries (.pickup c k) → ∀ sl d, s.slot sl = some d → d.number = c →
        ∃ t, exec (.scanCompletion ⟨n, [r.tag]⟩) s = .next t
          ∧ ends (written (base t [.key k] (handoutFailed s.present n k d 0)) sl (fellBack d)) t
          ∧ Reexamined (after t) t k { r with promisedTo := none })
    ∧ ((s.comp n).contents = [] →
      ∀ p c, carries p → p = .ret c k ∨ p = .pickup c k → ∀ sl d, s.slot sl = some d → d.number = c →
        ∃ t, exec (.scanCompletion ⟨n, []⟩) s = .next t
          ∧ ends (written (base t [] (unmet s.present n p d).1) sl (unmet s.present n p d).2) t
          ∧ Reexamined (after t) t k { r with promisedTo := none })

/-- A key is found alone by a scan of an empty compartment (R48, R49, R50, R52, R53, R78, R79). The contract of a key that
is OUT is closed, with route COMPARTMENT when the scan carries that contract's return and STRAY otherwise, a return in
flight elsewhere being given up; the key is UNCHECKED after a stray return or under its group's check on return. A key in
DROP leaves the drop list, and one in STAFF_HAND or MISSING simply arrives. A key in another compartment leaves its
contents, a SWEEP scan is queued there, and the pickup it was promised to is cancelled, its contract falling back, or,
its door having opened, runs on; that the notices of the fall back name the scanned compartment, not the pickup's own, is
the model's choice of log 19. The key is in the compartment, and re-examined with its contents known. -/
def Obligations.ScanFindsAReturnedKey : Prop :=
  ∀ (s : State) (x : ScanEntry) (k : KeyId) (r : KeyRecord),
    s.powered = true → s.CabinetOk → s.ContractsOk → s.LocationOk →
    x ∈ s.scanner.list → x.reading = true → (s.comp x.comp).contents = [] → s.key k = some r →
    let n := x.comp
    let left := s.scanner.list.filter (·.comp != n)
    let unknown := (fins 192).countP fun m => m != n && !(s.comp m).known
    let base := fun (t : State) (list : List ScanEntry) (bs : List NoticeBody) =>
      { s.noted (bs ++ { s with scanner := { s.scanner with list := list } }.sweepNotice unknown) with
        compartments := t.compartments
        scanner := { list := t.scanner.list
                     sweeping := s.scanner.sweeping && list.any (·.cls == .sweep) }
        keys := t.keys }
    let ends := fun (list : List ScanEntry) (e t : State) =>
      Settled e t ∧ ListKept { s with scanner := { s.scanner with list := list } } t
    let filled := fun (u : State) => { u.compartments with
      table := u.compartments.table.set n ((s.comp n).scanned [.key k]) }
    let after := fun (t : State) => { s with contracts := t.contracts, compartments := t.compartments }
    let here : KeyRecord := { r with location := .compartment n }
    let plain := ∀ q, (s.comp n).release = some q → q.purpose.key? = none
    (∀ sl c final, s.slot sl = some c → r.location = .out c.number →
      let p := s.policy r.group
      FinalTier p c s.present final →
      let closed := fun (t : State) (route : Route) =>
        { base t left [returnDone p c route s.present final (some n)] with
          contracts := { s.contracts with
            slots := s.contracts.slots.set sl (some (closedAs p c route s.present final)) } }
      (x.carried = .release → c.state = .returning →
        (s.comp n).release.map Release.purpose = some (.ret c.number k) →
        ∃ t, exec (.scanCompletion ⟨n, [r.tag]⟩) s = .next t
          ∧ ends left (closed t .compartment) t ∧ t.compartments = filled s
          ∧ Reexamined (after t) t k { here with
              promisedTo := none, mark := if p.checkOnReturn then .unchecked else r.mark })
      ∧ (plain → (s.comp n).reservation ≠ some c.number →
        ∃ t u, exec (.scanCompletion ⟨n, [r.tag]⟩) s = .next t
          ∧ ends left { closed t .stray with kiosk := u.kiosk } t
          ∧ ReturnGivenUp s u c.number k ∧ t.compartments = filled u
          ∧ Reexamined (after t) t k { here with mark := .unchecked }))
    ∧ (plain → r.location = .drop ∨ r.location = .staffHand ∨ r.location = .missing →
      let entries := s.drop.entries.filter (·.key != some k)
      ∃ t, exec (.scanCompletion ⟨n, [r.tag]⟩) s = .next t
        ∧ ends left { base t left [] with
            drop := if r.location = .drop then { s.drop with
                entries := entries
                flap := if s.mode = .unstaffed ∧ entries.length < 48 ∧ s.drop.staffDoor = .closed then
                  .opened else .locked }
              else s.drop } t
        ∧ t.compartments = filled s ∧ Reexamined (after t) t k here)
    ∧ ∀ m, plain → r.location = .compartment m → (∀ j, j ≠ k → Item.key j ∉ (s.comp m).contents) →
      let held := left.any (·.comp == m)
      let list := left ++ if held then [] else [⟨m, .sweep, .nothing, false⟩]
      let moved := { s with
        scanner := { s.scanner with list := left }
        compartments := { s.compartments with table := s.compartments.table.set m { s.comp m with
          contents := (s.comp m).contents.filter (· != Item.key k) } } }
      let pickup := fun c => ∃ o, (s.comp m).release = some ⟨.pickup c k, o⟩
      let shut := (s.comp m).door = .waiting ∨ (s.comp m).door = .unlatched
      (r.promisedTo = none ∨ (∃ c, r.promisedTo = some c ∧ pickup c ∧ ¬ shut) →
        ∃ t, exec (.scanCompletion ⟨n, [r.tag]⟩) s = .next t
          ∧ ends list (base t list []) t
          ∧ SweepQueued { moved with compartments := filled moved } t (if held then [] else [m])
          ∧ Reexamined (after t) t k { here with promisedTo := none })
      ∧ ∀ sl d, s.slot sl = some d → r.promisedTo = some d.number → pickup d.number → shut →
        k ∉ s.keys.lists.get r.group →
        ∃ t u, exec (.scanCompletion ⟨n, [r.tag]⟩) s = .next t
          ∧ ends list { base t list (handoutFailed s.present n k d 2) with
              kiosk := s.kioskAfter m
              contracts := { s.contracts with
                slots := s.contracts.slots.set sl (some (fellBack d)) } } t
          ∧ ReleaseDropped { moved with scanner := { s.scanner with list := list } } u m
          ∧ t.compartments = filled u
          ∧ Reexamined (after t) t k { here with promisedTo := none }

/-! ### The kiosk -/

/-- A digit key and CLEAR in each kiosk state (R86, R89, R90, R94, R95, R99): a digit opens or extends a code, or a
compartment number in STAFF, and restarts the state's timer; CLEAR empties what is held and leaves the state, and in
IDLE ends a result prompt. In a wait each shows PLEASE_WAIT briefly, and in LOCKOUT neither has an effect. The prompt
after a staff action, and the ends of a result prompt by CLEAR in IDLE and of a brief prompt in CALLING, are the
model's choices of log 15 and log 16. -/
def Obligations.DigitsAndClearAreTaken : Prop :=
  ∀ (s : State) (d : Fin 10), s.powered = true →
    let begun : Kiosk := { s.kiosk.toIdle .enterCode with
      mode := .codeEntry, digits := [d], interDigit := some 15000 }
    (s.kiosk.mode = .idle → exec (.digitKey d) s = .next { s with
        kiosk := if s.mode = .lockdown then
            { s.kiosk.toIdle .outOfService with resultHold := some 5000 }
          else begun }
      ∧ exec .clearKey s = .next { s with kiosk := s.displayEnded })
    ∧ (s.kiosk.mode = .codeEntry → exec (.digitKey d) s = .next { s with kiosk := { s.kiosk with
        digits := if s.kiosk.digits.length < 6 then s.kiosk.digits ++ [d] else s.kiosk.digits
        interDigit := some 15000, brief := none, prompt := .enterCode } }
      ∧ exec .clearKey s = .next { s with kiosk := s.kiosk.toIdle s.idlePrompt })
    ∧ (s.kiosk.mode = .waitDoor → ∀ c ∈ [Instr.digitKey d, .clearKey], exec c s = .next { s with
        kiosk := { s.kiosk with prompt := .pleaseWait, brief := some 5000 } })
    ∧ (s.kiosk.mode = .staff → exec (.digitKey d) s = .next { s with kiosk := { s.kiosk with
        digits := if s.kiosk.digits.length < 3 then s.kiosk.digits ++ [d] else s.kiosk.digits
        staffTimer := some 60000, prompt := .staffReady } }
      ∧ exec .clearKey s = .next { s with
        kiosk := if s.kiosk.digits = [] then s.kiosk.toIdle s.idlePrompt
          else { s.kiosk with digits := [], staffTimer := some 60000, prompt := .staffReady } })
    ∧ (s.kiosk.mode = .lockout → ∀ c ∈ [Instr.digitKey d, .clearKey], exec c s = .next s)
    ∧ (s.kiosk.mode = .calling → exec (.digitKey d) s = .next { s with
        kiosk := if s.mode = .lockdown then { s.kiosk with prompt := .callingStaff, brief := none }
          else begun }
      ∧ exec .clearKey s = .next { s with kiosk := s.kiosk.toIdle s.idlePrompt })

/-- The ends of the kiosk's timers and of a pager pulse: the inter-digit, lockout and staff timers end their
states, the result hold ends a result prompt in IDLE, the brief-prompt timer brings back the state's own prompt
(R84, R85, R86, R89, R94, R165). Elsewhere such an end has no effect (the model's choice of log 9), and in its own
state it is taken whatever ticks the timer has left (that of log 44). -/
def Obligations.KioskTimersEndTheirStates : Prop :=
  ∀ (s : State), s.powered = true →
    (∀ p ∈ [(Instr.interDigitExpiry, KioskMode.codeEntry), (.lockoutExpiry, .lockout),
        (.staffTimerExpiry, .staff)],
      exec p.1 s = .next
        (if s.kiosk.mode = p.2 then { s with kiosk := s.kiosk.toIdle s.idlePrompt } else s))
    ∧ exec .resultHoldExpiry s = .next (if s.kiosk.mode = .idle then
        { s with kiosk := { s.kiosk with prompt := s.idlePrompt, resultHold := none } } else s)
    ∧ (s.kiosk.brief = none → exec .briefPromptExpiry s = .next s)
    ∧ (s.kiosk.brief ≠ none → exec .briefPromptExpiry s = .next { s with kiosk := { s.kiosk with
        brief := none
        prompt := match s.kiosk.mode, s.kiosk.waited with
          | .codeEntry, _ => .enterCode
          | .calling, _ => .callingStaff
          | .waitDoor, some (n, .pickup) => .openDoor n
          | .waitDoor, some (n, .ret) => .returnTo n
          | _, _ => s.kiosk.prompt } })
    ∧ exec .pagerPulseEnd s = .next { s with notices := { s.notices with pager := none } }

/-- OK in CODE_ENTRY (R70, R71, R87, R88): fewer than six digits and an unknown code are answered CODE_NOT_VALID, the
fifth unknown code in succession locking the kiosk; a known code that cannot start a pickup is answered with the
first obstacle that applies; else the pickup starts and the kiosk waits for its door. A full release queue is
answered PLEASE_WAIT (R68, R70, R71). That a SPECIFIC key which meets none of R71's obstacles and is promised already is
answered SEE_COUNTER is the model's choice of log 25: R71 has no row for it. OK in IDLE and CALLING does no more than
end the result prompt or the brief prompt shown (R99; the model's choice of log 15), in WAIT_DOOR it shows PLEASE_WAIT
briefly (R90), and in LOCKOUT it has no effect. -/
def Obligations.OkSubmitsTheCode : Prop :=
  ∀ (s : State), s.powered = true → s.IndexOk → s.LatchOk → s.AvailOk →
    let code := digitValue s.kiosk.digits
    let shown := fun (p : Prompt) => { s.kiosk.toIdle p with resultHold := some 5000 }
    let told := fun (p : Prompt) => { s with kiosk := { shown p with wrongCodes := 0 } }
    let early := fun (c : Contract) => s.overdue.clock = .running
      ∧ ∃ w, c.windowStart = some w ∧ s.overdue.value < w
    let late := fun (c : Contract) => s.overdue.clock = .running
      ∧ ∃ w, c.windowEnd = some w ∧ w < s.overdue.value
    let starts := fun (sl : Slot) (c : Contract) (k : KeyId) (r : KeyRecord) (n : CompId) =>
      ∃ t, exec .okKey s = .next t
        ∧ (s.compartments.queue.length < 16 →
          t = { s with
            contracts := t.contracts, keys := t.keys, compartments := t.compartments
            kiosk := { s.kiosk.toIdle (.openDoor n) with
              mode := .waitDoor, waited := some (n, .pickup), wrongCodes := 0 } }
          ∧ PickupStarted s t sl c k r ∧ ReleaseTaken s t n ⟨.pickup c.number k, .kiosk⟩)
        ∧ (16 ≤ s.compartments.queue.length → t.kiosk = { shown .pleaseWait with wrongCodes := 0 }
          ∧ t.compartments = s.compartments ∧ t.contracts.codes = s.contracts.codes
          ∧ t.slot sl = some { c with key := none, grantedGroup := none }
          ∧ (∀ j, j ≠ sl → t.slot j = s.slot j) ∧ (t.key k).map KeyRecord.promisedTo = some none)
    (s.kiosk.mode = .lockout → exec .okKey s = .next s)
    ∧ (s.kiosk.mode = .idle ∨ s.kiosk.mode = .calling →
      exec .okKey s = .next { s with kiosk := s.displayEnded })
    ∧ (s.kiosk.mode = .waitDoor → exec .okKey s = .next { s with
        kiosk := { s.kiosk with prompt := .pleaseWait, brief := some 5000 } })
    ∧ (s.kiosk.mode = .codeEntry →
      (s.kiosk.digits.length < 6 → exec .okKey s = .next { s with kiosk := shown .codeNotValid })
      ∧ (s.kiosk.digits.length = 6 → s.mode ≠ .lockdown →
        ((∀ p ∈ s.contracts.codes, p.1 ≠ code) →
          (s.kiosk.wrongCodes < 4 → exec .okKey s = .next { s with
            kiosk := { shown .codeNotValid with wrongCodes := s.kiosk.wrongCodes + 1 } })
          ∧ (s.kiosk.wrongCodes = 4 → ∃ t, exec .okKey s = .next t
            ∧ Settled { s.noted [{ kind := .codeLockout, minute := s.present, detailB := 5 }] with
                kiosk := { s.kiosk.toIdle .lockedOut with
                  mode := .lockout, wrongCodes := 0, lockout := some 120000 } } t))
        ∧ ∀ sl c, s.slot sl = some c → (code, sl) ∈ s.contracts.codes →
          (c.state = .suspended → exec .okKey s = .next (told .seeCounter))
          ∧ (c.state = .picking → exec .okKey s = .next (told .pleaseWait))
          ∧ (c.state = .ticket → early c → exec .okKey s = .next (told .notYet))
          ∧ (c.state = .ticket → ¬ early c → late c → exec .okKey s = .next (told .expired))
          ∧ (c.state = .ticket → ¬ early c → ¬ late c →
            (∀ g x e m u, c.entitlement = .cls g x e m u →
              ((∀ k, ¬ Chosen s (fun n => (s.panel n).pickup = true) g x e m u k) →
                exec .okKey s = .next (told .noVehicle))
              ∧ ∀ k r, s.key k = some r → ∀ n, r.location = .compartment n →
                Chosen s (fun n => (s.panel n).pickup = true) g x e m u k → starts sl c k r n)
            ∧ ∀ k, c.entitlement = .specific k →
              ((∀ r, s.key k = some r → ∀ n, r.location ≠ .compartment n) →
                exec .okKey s = .next (told .seeCounter))
              ∧ ∀ r, s.key k = some r → ∀ n, r.location = .compartment n →
                let staff := (s.comp n).service = .outOfService ∨ (s.comp n).contents ≠ [.key k]
                  ∨ r.mark = .unchecked ∨ r.hold = true ∨ (s.panel n).pickup = false
                let busy := (s.comp n).known = false ∨ (s.comp n).door ≠ .locked
                (staff → exec .okKey s = .next (told .seeCounter))
                ∧ (¬ staff → busy → exec .okKey s = .next (told .pleaseWait))
                ∧ (¬ staff → ¬ busy → r.promisedTo ≠ none → exec .okKey s = .next (told .seeCounter))
                ∧ (¬ staff → ¬ busy → r.promisedTo = none → starts sl c k r n))))

/-- OK in STAFF (R95, R97): with no digits a level 3 badge clears every forced flag; a number asks to open that
compartment, judged by number, level, service and release request in this order, and the release is taken in the
priority class. Every outcome is a staff action. That a taken open joins the session's releases (kiosk.opens) is the
model's choice of log 17. -/
def Obligations.StaffOpenAndAcknowledge : Prop :=
  ∀ (s : State) (badge level : Nat), s.powered = true → s.LatchOk → s.kiosk.mode = .staff →
    s.kiosk.badge = some (badge, level) →
    let shown := fun (p : Prompt) =>
      { s.kiosk with digits := [], prompt := p, staffTimer := some 60000 }
    let asked := digitValue s.kiosk.digits
    let denied := fun (n : Option CompId) (reason : Nat) => { s.noted
        [{ kind := .accessDenied, minute := s.present, comp := n, detailA := reason, detailB := level }]
      with kiosk := shown .notPermitted }
    (s.kiosk.digits = [] → ∃ t, exec .okKey s = .next t
      ∧ (level < 3 → Settled (denied none 3) t)
      ∧ (3 ≤ level → Settled { s with
          kiosk := shown .thankYou
          compartments := { s.compartments with table := t.compartments.table } } t
        ∧ ∀ n, t.comp n = { s.comp n with forced := false }))
    ∧ (s.kiosk.digits ≠ [] →
      (asked = 0 ∨ 192 < asked → exec .okKey s = .next { s with kiosk := shown .codeNotValid })
      ∧ ∀ n : CompId, asked = n.val + 1 →
        let needed := if s.mode = .lockdown then 3 else (s.panel n).openLevel
        (level < needed → ∃ t, exec .okKey s = .next t ∧ Settled (denied (some n) 1) t)
        ∧ (needed ≤ level →
          ((s.comp n).service = .outOfService →
            exec .okKey s = .next { s with kiosk := shown .outOfService })
          ∧ ((s.comp n).service = .inService →
            ((s.comp n).door ≠ .locked ∨ 16 ≤ s.compartments.queue.length →
              exec .okKey s = .next { s with kiosk := shown .pleaseWait })
            ∧ ((s.comp n).door = .locked → s.compartments.queue.length < 16 →
              ∃ t, exec .okKey s = .next t
                ∧ t = { s with
                    kiosk := { shown (.openDoor n) with opens := s.kiosk.opens ++ [n] }
                    compartments := t.compartments }
                ∧ ReleaseTaken s t n ⟨.staff badge, .kiosk⟩))))

/-- A tag at the pad in IDLE, CODE_ENTRY and CALLING starts a return (R75, R76, R91, R92): a key that is OUT with a
contract in OUT is offered the lowest compartment that can take it, whose RETURN release is requested and
reservation set, the contract becoming RETURNING; every other tag, a full queue and a full cabinet are answered with
their prompts. In STAFF it asks to clear a check mark (R96): with level 2 the key becomes CHECKED wherever it is and is
re-examined; that the digits held stay is the model's choice of log 35. In WAIT_DOOR it shows PLEASE_WAIT briefly, and
in LOCKOUT it has no effect. -/
def Obligations.TagsReturnOrClearTheCheck : Prop :=
  ∀ (s : State) (tag : Nat), s.powered = true → s.IndexOk → s.LatchOk → s.LocationOk →
    let shown := fun (p : Prompt) =>
      { s with kiosk := { s.kiosk.toIdle p with resultHold := some 5000 } }
    let takes := fun (n : CompId) => (s.comp n).service = .inService ∧ (s.comp n).door = .locked
      ∧ (s.comp n).known = true ∧ (s.comp n).contents = [] ∧ (s.comp n).reservation = none
      ∧ (s.panel n).ret = true
    (s.kiosk.mode = .lockout → exec (.tagAtPad tag) s = .next s)
    ∧ (s.kiosk.mode = .waitDoor → exec (.tagAtPad tag) s = .next { s with
        kiosk := { s.kiosk with prompt := .pleaseWait, brief := some 5000 } })
    ∧ (∀ badge level, s.kiosk.badge = some (badge, level) → s.kiosk.mode = .staff →
      let staffed := fun (p : Prompt) => { s.kiosk with prompt := p, staffTimer := some 60000 }
      ((∀ k r, s.key k = some r → r.tag ≠ tag) →
        exec (.tagAtPad tag) s = .next { s with kiosk := staffed .tagNotRecognised })
      ∧ ∀ k r, s.key k = some r → r.tag = tag →
        (level < 2 → ∃ t, exec (.tagAtPad tag) s = .next t
          ∧ Settled { s.noted [{ kind := .accessDenied, minute := s.present, key := some k, detailA := 2
                                 detailB := level }] with kiosk := staffed .notPermitted } t)
        ∧ (2 ≤ level → ∃ t, exec (.tagAtPad tag) s = .next t
          ∧ t = { s with kiosk := staffed .thankYou, keys := t.keys }
          ∧ (r.mark = .checked → t.keys = s.keys)
          ∧ (r.mark = .unchecked → Reexamined s t k { r with mark := .checked })))
    ∧ (s.kiosk.mode = .idle ∨ s.kiosk.mode = .codeEntry ∨ s.kiosk.mode = .calling →
      (s.mode = .lockdown → exec (.tagAtPad tag) s = .next (shown .outOfService))
      ∧ (s.mode ≠ .lockdown →
        ((∀ k r, s.key k = some r → r.tag = tag → ∀ sl c, s.slot sl = some c →
            r.location = .out c.number → c.state ≠ .out) →
          exec (.tagAtPad tag) s = .next (shown .tagNotRecognised))
        ∧ ∀ k r, s.key k = some r → r.tag = tag → ∀ sl c, s.slot sl = some c →
          r.location = .out c.number → c.state = .out →
          ((∀ n, ¬ takes n) → exec (.tagAtPad tag) s = .next
            (shown (if s.mode = .unstaffed ∧ s.drop.flap = .opened then .useDropBox
              else .cabinetFullSeeCounter)))
          ∧ ∀ n, takes n → (∀ m, m < n → ¬ takes m) →
            (16 ≤ s.compartments.queue.length →
              exec (.tagAtPad tag) s = .next (shown .pleaseWait))
            ∧ (s.compartments.queue.length < 16 → ∃ t, exec (.tagAtPad tag) s = .next t
              ∧ t = { s with
                  kiosk := { s.kiosk.toIdle (.returnTo n) with
                    mode := .waitDoor, waited := some (n, .ret) }
                  contracts := { s.contracts with
                    slots := s.contracts.slots.set sl (some { c with state := .returning }) }
                  compartments := t.compartments }
              ∧ ReleaseTaken s t n ⟨.ret c.number k, .kiosk⟩)))

/-- A badge in IDLE, CODE_ENTRY, CALLING and STAFF: an ENABLED one acknowledges the staff call and opens a staff
session at its level, any other is refused with an ACCESS_DENIED notice; elsewhere it is not examined (R89, R90, R93,
R142). The call button: a press starts the press timer and a release stops it; a long press in IDLE, CODE_ENTRY and
WAIT_DOOR brings the kiosk to CALLING and raises STAFF_CALL, with a notice unless a call is already pending, and in
CALLING, STAFF and LOCKOUT it does not (R98). The model's choices: a badge in STAFF leaves the digits held as they are
when refused (log 35), and continues the session with its releases when accepted (log 17); a press, a release and a
long press without effect of their own end a result prompt in IDLE and a brief prompt (log 15); LONG_PRESS is taken as
it comes (log 9); and a press that follows another without a release between starts the press timer afresh (log 41). -/
def Obligations.BadgesAndCallsForStaff : Prop :=
  ∀ (s : State) (number : Nat), s.powered = true →
    (s.kiosk.mode = .lockout → exec (.badgePresented number) s = .next s)
    ∧ (s.kiosk.mode = .waitDoor → exec (.badgePresented number) s = .next { s with
        kiosk := { s.kiosk with prompt := .pleaseWait, brief := some 5000 } })
    ∧ (s.kiosk.mode ≠ .lockout → s.kiosk.mode ≠ .waitDoor →
      (∀ x, s.BadgeHeld number x → x.enabled = true → ∃ t, exec (.badgePresented number) s = .next t
        ∧ Settled { s with
            notices := { s.notices with callLatch := false }
            kiosk := { s.kiosk.toIdle .staffReady with
              mode := .staff, badge := some (number, x.level), staffTimer := some 60000
              opens := if s.kiosk.mode = .staff then s.kiosk.opens else [] } } t)
      ∧ (s.BadgeRefused number → ∃ t, exec (.badgePresented number) s = .next t
        ∧ Settled { s.noted [{ kind := .accessDenied, minute := s.present }] with
            kiosk := if s.kiosk.mode = .idle then
                { s.kiosk.toIdle .notPermitted with resultHold := some 5000 }
              else if s.kiosk.mode = .staff then
                { s.kiosk with prompt := .notPermitted, staffTimer := some 60000 }
              else { s.kiosk with prompt := .notPermitted, brief := some 5000 } } t))
    ∧ exec .callButtonPressed s = .next { s with kiosk := { s.displayEnded with press := some 2000 } }
    ∧ exec .callButtonReleased s = .next { s with kiosk := { s.displayEnded with press := none } }
    ∧ (s.kiosk.mode = .calling ∨ s.kiosk.mode = .staff ∨ s.kiosk.mode = .lockout →
      exec .longPress s = .next { s with kiosk := { s.displayEnded with press := none } })
    ∧ (s.kiosk.mode = .idle ∨ s.kiosk.mode = .codeEntry ∨ s.kiosk.mode = .waitDoor →
      let called : Kiosk := { s.kiosk.toIdle .callingStaff with mode := .calling, press := none }
      ∃ t, exec .longPress s = .next t
        ∧ (s.notices.callLatch = true → Settled { s with kiosk := called } t)
        ∧ (s.notices.callLatch = false →
          Settled { s with
            kiosk := called
            notices := { (s.noted [{ kind := .staffCall, minute := s.present }]).notices with
              callLatch := true } } t))

/-! ### The drop box -/

/-- A chute read in the first case of R103 that applies (R103-R107): at a LOCKED flap no entry is made; a tag already
held is passed over; else an entry joins the tail and the forty-eighth locks the flap. A read of a key that is OUT
closes its contract with route DROP, and the key is UNCHECKED in DROP; a key leaves its compartment's contents, a
SWEEP scan is queued there, and its promise ends (R3): the pickup in flight for it is cancelled and its contract falls
back, or, its door having opened, runs on (R73). That DROP_FULL follows the notices of the cancelled pickup is the
model's choice of log 39. -/
def Obligations.ChuteReadsEnterTheDropList : Prop :=
  ∀ (s : State) (tag : Option Nat), s.powered = true → s.DropOk → s.CabinetOk → s.ContractsOk →
    s.LocationOk →
    let count := s.drop.entries.length
    let foreign := fun (reason entries : Nat) => ({ kind := .dropForeign, minute := s.present, tag := tag
                                                    detailA := reason, detailB := entries } : NoticeBody)
    let full : List NoticeBody :=
      if count = 47 then [{ kind := .dropFull, minute := s.present, detailB := 48 }] else []
    let joined := fun (k : Option KeyId) (c : Option Nat) => ({ s.drop with
      entries := s.drop.entries ++ [⟨tag, k, s.present, c⟩]
      flap := if count = 47 then .locked else .opened } : DropBox)
    (s.drop.flap = .locked → ∃ t, exec (.chuteRead tag) s = .next t
      ∧ Settled (s.noted [foreign 2 count]) t)
    ∧ (s.drop.flap = .opened →
      (tag = none → ∃ t, exec (.chuteRead tag) s = .next t
        ∧ Settled { s.noted (foreign 1 (count + 1) :: full) with drop := joined none none } t)
      ∧ ∀ x, tag = some x →
        ((∃ e ∈ s.drop.entries, e.tag = some x) → exec (.chuteRead tag) s = .next s)
        ∧ ((∀ e ∈ s.drop.entries, e.tag ≠ some x) →
          ((∀ k r, s.key k = some r → r.tag ≠ x) → ∃ t, exec (.chuteRead tag) s = .next t
            ∧ Settled { s.noted (foreign 0 (count + 1) :: full) with drop := joined none none } t)
          ∧ ∀ k r, s.key k = some r → r.tag = x →
            let dropped := { r with location := .drop, mark := .unchecked }
            (∀ sl c, s.slot sl = some c → r.location = .out c.number → let p := s.policy r.group
              ∀ final, FinalTier p c s.present final → ∃ t, exec (.chuteRead tag) s = .next t
                ∧ Settled { s.noted (returnDone p c .drop s.present final none :: full) with
                    drop := joined (some k) (some c.number)
                    contracts := { s.contracts with
                      slots := s.contracts.slots.set sl (some (closedAs p c .drop s.present final)) }
                    keys := t.keys, compartments := t.compartments, kiosk := t.kiosk
                    scanner := { s.scanner with list := t.scanner.list } } t
                ∧ Reexamined { s with contracts := t.contracts } t k dropped
                ∧ ReturnGivenUp s t c.number k)
            ∧ ((r.location = .staffHand ∨ r.location = .missing) →
              ∃ t, exec (.chuteRead tag) s = .next t
                ∧ Settled { s.noted full with
                    drop := joined (some k) none
                    keys := { s.keys with places := s.keys.places.set k (some dropped) } } t)
            ∧ ∀ n, r.location = .compartment n → ∃ t, exec (.chuteRead tag) s = .next t
              ∧ t.key k = some { dropped with promisedTo := none }
              ∧ (∀ j, j ≠ k → (t.key j).map KeyRecord.location = (s.key j).map KeyRecord.location)
              ∧ t.drop = joined (some k) none
              ∧ (t.comp n).contents = (s.comp n).contents.filter (· != .key k)
              ∧ (∃ e ∈ t.scanner.list, e.comp = n)
              ∧ (let moved := { s with compartments := { s.compartments with
                    table := s.compartments.table.set n { s.comp n with
                      contents := (s.comp n).contents.filter (· != Item.key k) } } }
                let held := s.scanner.list.any (·.comp == n)
                let queued := { moved with scanner := { s.scanner with
                  list := s.scanner.list ++ if held then [] else [⟨n, .sweep, .nothing, false⟩] } }
                let pickup := fun c => ∃ o, (s.comp n).release = some ⟨.pickup c k, o⟩
                let shut := (s.comp n).door = .waiting ∨ (s.comp n).door = .unlatched
                (r.promisedTo = none ∨ (∃ c, r.promisedTo = some c ∧ pickup c ∧ ¬ shut) →
                  Settled { s.noted full with
                    drop := joined (some k) none, keys := t.keys
                    compartments := { s.compartments with table := t.compartments.table }
                    scanner := { s.scanner with list := t.scanner.list } } t
                  ∧ SweepQueued moved t (if held then [] else [n])
                  ∧ ((s.comp n).contents = [.key k] →
                    Reexamined { s with compartments := t.compartments } t k
                      { dropped with promisedTo := none }))
                ∧ ∀ sl d, s.slot sl = some d → r.promisedTo = some d.number → pickup d.number → shut →
                  Settled { s.noted (handoutFailed s.present n k d 2 ++ full) with
                    drop := joined (some k) none, keys := t.keys, kiosk := s.kioskAfter n
                    contracts := { s.contracts with
                      slots := s.contracts.slots.set sl (some (fellBack d)) }
                    compartments := t.compartments
                    scanner := { s.scanner with list := t.scanner.list } } t
                  ∧ ReleaseDropped queued t n ∧ ListKept queued t
                  ∧ ((s.comp n).contents = [.key k] →
                    Reexamined { s with contracts := t.contracts, compartments := t.compartments } t k
                      { dropped with promisedTo := none }))))

/-- The staff door and DROP_EMPTIED (R102, R108, R109): an opening locks the flap; the closing after it and the message
empty the list, its keys going to STAFF_HAND, with a notice that counts the entries, and the flap follows the mode.
A switch event that agrees with the state held has no effect but to record the switch (log 4), and a message with a body
is refused BAD_FORMAT. -/
def Obligations.EmptyingTheDropBox : Prop :=
  ∀ (s : State) (tg : Byte),
    let emptied := fun (e t : State) (reason : Nat) (door : StaffDoor) =>
      Settled { e.noted [{ kind := .dropEmptied, minute := s.present, detailA := reason
                           detailB := s.drop.entries.length }] with
          drop := { entries := [], staffDoor := door
                    flap := if s.mode = .unstaffed ∧ door = .closed then .opened else .locked }
          keys := { s.keys with places := t.keys.places } } t
        ∧ ∀ k, t.key k = (s.key k).map fun r =>
          if r.location = .drop ∧ (∃ x ∈ s.drop.entries, x.key = some k) then
            { r with location := .staffHand } else r
    (s.powered = true →
      (s.drop.staffDoor = .closed →
        exec .staffDoorOpened s = .next { s with
          staffDoorPin := true, drop := { s.drop with staffDoor := .opened, flap := .locked } }
        ∧ exec .staffDoorClosed s = .next { s with staffDoorPin := false })
      ∧ (s.drop.staffDoor = .opened →
        exec .staffDoorOpened s = .next { s with staffDoorPin := true }
        ∧ ∃ t, exec .staffDoorClosed s = .next t
          ∧ emptied { s with staffDoorPin := false } t 0 .closed))
    ∧ (s.serves tg → (∀ body : List Byte, body ≠ [] → ∃ t, exec (.dropEmptied tg body) s = .next t
      ∧ Refused s t 0xB9 tg 2))
    ∧ (s.serves tg → ∃ t, exec (.dropEmptied tg []) s = .next t
      ∧ emptied (s.answered 0xB9 tg [0, byte s.drop.entries.length]) t 1 s.drop.staffDoor)

/-! ### Notices and attention -/

/-- CONSUME removes every notice up to and including the one whose number it names, and answers how many it removed
and how many are left; a number no notice holds is refused NOT_FOUND, and a body of another length BAD_FORMAT (R159). -/
def Obligations.ConsumeRemovesTheOldest : Prop :=
  ∀ (s : State) (tg : Byte) (q : Nat), s.serves tg → q ≤ 65535 →
    (∀ body : List Byte, body.length ≠ 2 → ∃ t, exec (.consume tg body) s = .next t
      ∧ Refused s t 0xC1 tg 2)
    ∧ ((∀ x ∈ s.notices.ring, x.seq ≠ q) → ∃ t, exec (.consume tg (toBytes 2 q)) s = .next t
        ∧ Refused s t 0xC1 tg 5)
    ∧ ∀ a x b, s.notices.ring = a ++ x :: b → x.seq = q → (∀ y ∈ a, y.seq ≠ q) →
      ∃ t, exec (.consume tg (toBytes 2 q)) s = .next t
        ∧ Settled { s.answered 0xC1 tg [0, byte (a.length + 1), byte b.length] with
            notices := { s.notices with ring := b } } t

/-- FETCH reports the oldest six notices, ATTENTION_QUERY the causes, the beacon and the missing-key count, and
DROP_QUERY up to ten entries of the drop list; they change nothing. A body of another length is refused BAD_FORMAT
(R111, R158, R162). -/
def Obligations.NoticeAndDropQueriesReport : Prop :=
  ∀ (s : State) (tg : Byte), s.serves tg →
    (∀ body : List Byte, body ≠ [] → ∃ t, exec (.fetch tg body) s = .next t
      ∧ Refused s t 0xC0 tg 2)
    ∧ (∀ body : List Byte, body ≠ [] → ∃ t, exec (.attentionQuery tg body) s = .next t
      ∧ Refused s t 0xC2 tg 2)
    ∧ (∀ body : List Byte, body.length ≠ 1 → ∃ t, exec (.dropQuery tg body) s = .next t
      ∧ Refused s t 0xB8 tg 2)
    ∧ (∃ t, exec (.fetch tg []) s = .next t
      ∧ Sent (s.answered 0xC0 tg (0 :: byte s.notices.ring.length
        :: (if s.notices.overflow then 1 else 0) :: toBytes 2 s.notices.nextSeq
        ++ [byte (s.notices.ring.take 6).length]
        ++ (s.notices.ring.take 6).flatMap fun x =>
          toBytes 2 x.seq ++ [byte x.body.kind.code] ++ optional 4 x.body.minute
            ++ optional 1 (x.body.comp.map fun n => n.val + 1)
            ++ optional 2 (x.body.key.map Fin.val)
            ++ optional 4 x.body.contract ++ optional 5 x.body.tag ++ [byte x.body.detailA]
            ++ toBytes 2 x.body.detailB)) t)
    ∧ (∃ t, exec (.attentionQuery tg []) s = .next t
      ∧ Sent (s.answered 0xC2 tg ([0, byte ((s.notices.pending.head?.map Cause.code).getD 0),
          byte ((s.reportCause.map Cause.code).getD 0),
          byte ((s.link.lastReported.map Cause.code).getD 0)]
        ++ Cause.all.map (fun c => if c ∈ s.notices.pending then (1 : Byte) else 0)
        ++ [byte s.notices.beacon.code] ++ toBytes 2 s.notices.missing)) t)
    ∧ ∀ start, start ≤ 255 → ∃ t, exec (.dropQuery tg [byte start]) s = .next t
      ∧ Sent (s.answered 0xB8 tg (0 :: [byte s.drop.entries.length, byte s.drop.flap.code,
          byte s.drop.staffDoor.code, byte start, byte ((s.drop.entries.drop start).take 10).length]
        ++ ((s.drop.entries.drop start).take 10).flatMap fun e => optional 5 e.tag
          ++ optional 2 (e.key.map Fin.val) ++ optional 4 e.minute ++ optional 4 e.contract)) t

/-- ACKNOWLEDGE clears the forced flags, the call latch or the overflow flag, an answered call leaving CALLING, and
replies the highest cause pending afterwards; the other causes are refused WRONG_STATE, other codes BAD_VALUE and
bodies of another length BAD_FORMAT (R161). That outside CALLING a result hold or a brief prompt runs on is the model's
choice of log 45. -/
def Obligations.AcknowledgeEndsACause : Prop :=
  ∀ (s : State) (tg : Byte) (code : Nat), s.serves tg → code ≤ 255 →
    (∀ body : List Byte, body.length ≠ 1 → ∃ t, exec (.acknowledge tg body) s = .next t
      ∧ Refused s t 0xC3 tg 2)
    ∧ ∃ t, exec (.acknowledge tg [byte code]) s = .next t
      ∧ (code = 0 ∨ 10 < code → Refused s t 0xC3 tg 4)
      ∧ (code ∈ [2, 3, 4, 5, 7, 8, 10] → Refused s t 0xC3 tg 11)
      ∧ (let reply := s.answered 0xC3 tg [0, byte ((t.notices.pending.head?.map Cause.code).getD 0)]
        (code = 1 → Settled { reply with
            compartments := { s.compartments with table := t.compartments.table } } t
          ∧ ∀ n, t.comp n = { s.comp n with forced := false })
        ∧ (code = 6 → Settled { reply with
            notices := { s.notices with callLatch := false }
            kiosk := if s.notices.callLatch = true ∧ s.kiosk.mode = .calling then
                s.kiosk.toIdle s.idlePrompt
              else s.kiosk } t)
        ∧ (code = 9 → Settled { reply with
            notices := { s.notices with overflow := false } } t))

/-! ### Lateness and the forecast -/

/-- FORECAST_QUERY computes the forecast at the present minute, with the notice of a short field that changes, and
reports it; while the clock is not RUNNING it reports the result held, or is refused CLOCK_NOT_SET when none has
been computed. A body that is not empty is refused BAD_FORMAT (R132-R140). -/
def Obligations.ForecastQueryComputes : Prop :=
  ∀ (s : State) (tg : Byte), s.serves tg →
    (∀ body : List Byte, body ≠ [] → ∃ t, exec (.forecastQuery tg body) s = .next t
      ∧ Refused s t 0xC8 tg 2)
    ∧ ∃ t, exec (.forecastQuery tg []) s = .next t
    ∧ (s.overdue.clock ≠ .running → s.overdue.forecast.computed = true →
      Sent (s.answered 0xC8 tg (0 :: forecastFields s.overdue.forecast)) t)
    ∧ (s.overdue.clock ≠ .running → s.overdue.forecast.computed = false → Refused s t 0xC8 tg 15)
    ∧ (s.overdue.clock = .running →
      ForecastOf s s.overdue.value t.overdue.forecast
      ∧ Settled { (s.answered 0xC8 tg (0 :: forecastFields t.overdue.forecast)).noted
            (s.capacityNotice t.overdue.forecast) with
          overdue := { s.overdue with forecast := t.overdue.forecast } } t)

/-- A RUNNING clock advances by a minute event, to its last minute at most, and a lateness scan at the new minute
starts, or becomes the pending start of the scan in flight (R114, R123). That a minute event taken at any tick count
returns the count to 0 is the model's choice of log 38. -/
def Obligations.MinuteEventAdvancesTheClock : Prop :=
  ∀ (s : State), s.powered = true →
    let v := min (s.overdue.value + 1) 4294967295
    (s.overdue.clock ≠ .running →
      exec .minuteEvent s = .next { s with timeBase := { s.timeBase with ticks := 0 } })
    ∧ (s.overdue.clock = .running → exec .minuteEvent s = .next { s with
        timeBase := { s.timeBase with ticks := 0 }
        overdue := { s.overdue with
          value := v
          scan := if s.overdue.scan.scanning then { s.overdue.scan with pendingStart := some v }
            else { s.overdue.scan with scanning := true, minute := v, nextSlot := 0 } } })

/-- A visit of the lateness scan takes the slot in the state it holds (R121-R126): an open contract's stored tier rises
to the computed one, with a notice, and otherwise a reminder falls due; a ticket past its window end lapses; other
slots are passed over. The visit of slot 511 computes the forecast and ends the scan, or starts the pending one; that
an idle scan keeps its last minute is the model's choice of log 23. -/
def Obligations.ScanVisitsTakeTheSlot : Prop :=
  ∀ (s : State) (sl : Slot), s.powered = true → s.overdue.scan.scanning = true →
    s.overdue.scan.nextSlot = sl.val →
    let m := s.overdue.scan.minute
    let last := sl.val = 511
    ∃ t, exec .latenessScanVisit s = .next t
      ∧ (¬ last → t.overdue.forecast = s.overdue.forecast
        ∧ t.overdue.scan = { s.overdue.scan with nextSlot := sl.val + 1 })
      ∧ (last → ForecastOf t m t.overdue.forecast
        ∧ t.overdue.scan = match s.overdue.scan.pendingStart with
          | some p => ⟨true, p, 0, none⟩
          | none => ⟨false, m, 512, none⟩)
      ∧ (let after := fun (bs : List NoticeBody) =>
          { s.noted (bs ++ if last then s.capacityNotice t.overdue.forecast else []) with
            overdue := { s.overdue with scan := t.overdue.scan, forecast := t.overdue.forecast } }
        (s.slot sl = none → Settled (after []) t)
        ∧ ∀ c, s.slot sl = some c →
          let lapses := (c.state = .ticket ∨ c.state = .suspended)
            ∧ ∃ w, c.windowEnd = some w ∧ w < m
          (¬ lapses → c.isOpen = false → Settled (after []) t)
          ∧ (lapses → Settled { after [{ kind := .ticketLapsed, minute := some m
                                         key := match c.entitlement with
                                           | .specific k => some k
                                           | _ => none
                                         contract := some c.number
                                         detailA := if c.state = .ticket then 0 else 1 }] with
                contracts := {
                  slots := s.contracts.slots.set sl (some { c with state := .lapsed })
                  codes := s.contracts.codes.filter fun p => p.2 != sl }
                keys := t.keys } t
            ∧ ((∀ k, c.entitlement ≠ .specific k) → t.keys = s.keys)
            ∧ ∀ k r, s.key k = some r → c.entitlement = .specific k →
              Reexamined { s with contracts := t.contracts } t k r)
          ∧ ∀ k r, s.key k = some r → c.isOpen = true → c.key = some k →
            ∀ x, TierAt (s.policy r.group) c m x →
            let p := s.policy r.group
            let written := fun (c' : Contract) (bs : List NoticeBody) => { after bs with
              contracts := { s.contracts with slots := s.contracts.slots.set sl (some c') } }
            (c.tier.code < x.code → (p.reminder = 0 ∨ 30 ≤ p.reminder) →
              Settled (written { c with tier := x, reminderBase := m }
                [{ kind := .tierRaised, minute := some m, key := some k, contract := some c.number
                   detailA := 10 * c.tier.code + x.code, detailB := hoursLate p c m }]) t)
            ∧ (x.code ≤ c.tier.code → (c.tier.code < 2 ∨ p.reminder = 0) → Settled (after []) t)
            ∧ (x.code ≤ c.tier.code → 2 ≤ c.tier.code → p.reminder ≠ 0 →
              (m < c.reminderBase → Settled (written { c with reminderBase := m } []) t)
              ∧ (c.reminderBase ≤ m → m - c.reminderBase < p.reminder → Settled (after []) t)
              ∧ (c.reminderBase ≤ m → p.reminder ≤ m - c.reminderBase →
                Settled (written { c with reminderBase := m }
                  [{ kind := .reminder, minute := some m, key := some k, contract := some c.number
                     detailA := c.tier.code, detailB := hoursLate p c m }]) t)))

/-! ### The branch store -/

/-- STORE_READ reports a record's working copy and its source, and refuses BAD_VALUE a class or a number out of range
(R180). STORE_COMMIT begins the write of the staged record, and PROFILE_LOCK sets the lock and drops a staged
PROFILE or PANEL record; both are refused BUSY during a write. STORE_READ and PROFILE_LOCK refuse BAD_FORMAT a body of
another length (R154, R180, R182, R185). -/
def Obligations.StoreIsReadCommittedAndLocked : Prop :=
  ∀ (s : State) (tg : Byte), s.serves tg →
    (∀ body : List Byte, body.length ≠ 2 → ∃ t, exec (.storeRead tg body) s = .next t
      ∧ Refused s t 0xD0 tg 2)
    ∧ (∀ body : List Byte, body ≠ [] → ∃ t, exec (.profileLock tg body) s = .next t
      ∧ Refused s t 0xD3 tg 2)
    ∧ (∀ (x : StoreRecord) (source : Bool), s.Working source x →
      ∃ t, exec (.storeRead tg [byte x.name.1, byte x.name.2]) s = .next t
        ∧ Sent (s.answered 0xD0 tg
          (0 :: byte x.name.1 :: byte x.name.2 :: (if source then 1 else 0) :: storeFields x)) t)
    ∧ (∀ cls num, cls ≤ 255 → num ≤ 255 → (∀ x : StoreRecord, x.name ≠ (cls, num)) →
      ∃ t, exec (.storeRead tg [byte cls, byte num]) s = .next t ∧ Refused s t 0xD0 tg 4)
    ∧ (∃ t, exec (.storeCommit tg []) s = .next t
      ∧ (s.store.busy = true ∨ s.startPending ≠ none → Refused s t 0xD2 tg 12)
      ∧ (s.store.busy = false → s.startPending = none →
        (s.store.staging = none → Refused s t 0xD2 tg 11)
        ∧ (s.store.staging ≠ none →
          Sent { s.answered 0xD2 tg [1] with store := { s.store with busy := true } } t)))
    ∧ ∃ t, exec (.profileLock tg []) s = .next t
      ∧ (s.store.busy = true → Refused s t 0xD3 tg 12)
      ∧ (s.store.busy = false →
        Sent { s.answered 0xD3 tg [0, if s.store.lock then 1 else 0] with
          store := { s.store with
            lock := true
            staging := if s.store.lock then s.store.staging
              else s.store.staging.filter fun x => !x.locked } } t)

/-- STORE_STAGE of any record whose fields fit their bytes is refused BUSY during a write, PROTECTED for a locked PROFILE
or PANEL, BAD_VALUE for a field out of range and CODE_IN_USE for a badge number another place holds, tested in this
order; else the staging record holds it, and nothing else changes (R143, R144, R153, R163, R181). -/
def Obligations.StagePlacesTheRecord : Prop :=
  ∀ (s : State) (tg : Byte) (x : StoreRecord), s.serves tg → x.Encodable →
    ∃ t, exec (.storeStage tg (byte x.name.1 :: byte x.name.2 :: storeFields x)) s = .next t
      ∧ (s.store.busy = true → Refused s t 0xD1 tg 12)
      ∧ (s.store.busy = false →
        (x.locked = true → s.store.lock = true → Refused s t 0xD1 tg 14)
        ∧ (x.locked = false ∨ s.store.lock = false →
          (¬ x.InRange → Refused s t 0xD1 tg 4)
          ∧ (x.InRange →
            (let taken := ∃ (p q : BadgePlace) (b y : Badge), x = .badge p (some b) ∧ q ≠ p
                ∧ (s.store.working.badges.get q).value = some y ∧ y.number = b.number
            (taken → Refused s t 0xD1 tg 7)
            ∧ (¬ taken → Sent { s.answered 0xD1 tg [0] with
                store := { s.store with staging := some x } } t)))))

/-- The completion of a write: the staged contents are stored with a sound check value and in the working copy with
source 0, the other records as before, the staging record empty and the store no longer busy; STORE_WRITTEN names the
record; and a badge the kiosk holds is examined again (R94, R143, R182). Without a write in flight it has no effect
(the model's choice of log 9). -/
def Obligations.WriteCompletionTakesEffect : Prop :=
  ∀ (s : State), s.powered = true →
    (s.store.busy = false ∨ s.store.staging = none → exec .storeWriteComplete s = .next s)
    ∧ ∀ x, s.store.staging = some x → s.store.busy = true →
      ∃ t, exec .storeWriteComplete s = .next t
        ∧ Settled { s.noted [{ kind := .storeWritten, minute := s.present, detailA := x.name.1
                               detailB := x.name.2 }] with
            store := { s.store with
              stored := t.store.stored, working := t.store.working, staging := none, busy := false }
            kiosk := t.kiosk } t
        ∧ t.Working false x ∧ t.StoredAs true x
        ∧ (∀ (y : StoreRecord) (b : Bool), y.name ≠ x.name →
          (s.Working b y ↔ t.Working b y) ∧ (s.StoredAs b y ↔ t.StoredAs b y))
        ∧ (s.kiosk.mode ≠ .staff ∨ x.name.1 ≠ 4 → t.kiosk = s.kiosk)
        ∧ ∀ number level, s.kiosk.badge = some (number, level) → s.kiosk.mode = .staff → x.name.1 = 4 →
          (t.BadgeRefused number → t.kiosk = s.kiosk.toIdle s.idlePrompt)
          ∧ ∀ b, t.BadgeHeld number b → b.enabled = true →
            t.kiosk = { s.kiosk with badge := some (number, b.level) }

/-! ### Invariants that every step keeps -/

/-- Every step keeps the notice ring's law (R157), the line's law (R170, R173, R175) and the drop box's law
(R101, R102). -/
def Obligations.QueuesAreKept : Prop :=
  ∀ (s t : State), step s = .next t →
    (s.notices.RingOk → t.notices.RingOk) ∧ (s.link.Ok → t.link.Ok) ∧ (s.DropOk → t.DropOk)

/-- Every step keeps the laws of the latch channels, the release queue and the scan list (R17, R20-R22, R32, R40, R42,
R45). -/
def Obligations.CabinetIsKept : Prop :=
  ∀ (s t : State), step s = .next t → s.CabinetOk → t.CabinetOk

/-- Every step keeps the law of location, one record for a tag and a key in COMPARTMENT n exactly when n's contents
list it (R1), no item standing twice (R16); with it and the cabinet's law it keeps the laws of the contract table,
every open contract's key OUT with that contract among them, and moves each slot's contract by a transition of R59;
only a cold start, by POWER_UP or by the end of PURGE's reply, does otherwise, emptying every slot (R56, R58, R59,
R74, R83). -/
def Obligations.LocationsAndContractsAreKept : Prop :=
  ∀ (s t : State), step s = .next t → s.LocationOk →
    t.LocationOk
    ∧ (s.CabinetOk → s.ContractsOk → t.ContractsOk
      ∧ ((∀ sl, transitionAllowed ((s.slot sl).map Contract.state) ((t.slot sl).map Contract.state) = true)
        ∨ ((∃ c rest, s.pending = c :: rest ∧ (c = .powerUp true ∨ ∃ byMessage, StartOf s c true byMessage))
          ∧ ∀ sl, t.slot sl = none)))

/-- Every step keeps the availability lists in their order and holding no key that R5 does not allow. Every step that
puts no compartment back in service keeps them holding every key that R5 allows; and every step keeps them holding
every one whose compartment is LOCKED, WAITING or UNLATCHED, as a key put back in service waits for its scan, by the
model's choice of log 28 (R5, R6, R31). -/
def Obligations.AvailabilityIsKept : Prop :=
  ∀ (s t : State), step s = .next t → s.Lawful → s.AvailOk →
    t.AvailOk ∧ (s.AvailBehindDoors → t.AvailBehindDoors)
    ∧ (s.AvailExact → (∀ n, (s.comp n).service = .outOfService → (t.comp n).service = .outOfService) →
      t.AvailExact)

/-- Every step keeps the pending causes, the counts behind them and the beacon in agreement with the records, and keeps
the last reported cause at the highest report-enabled one unless the frame-waiting mark is set (R127, R160, R164,
R166). -/
def Obligations.AttentionIsKept : Prop :=
  ∀ (s t : State), step s = .next t → s.Lawful → s.AttentionOk →
    t.AttentionOk ∧ (s.ReportOk → t.ReportOk)

/-- The state after reset meets every law that the steps keep. -/
def Obligations.ResetMeetsEveryLaw : Prop :=
  State.reset.Lawful ∧ State.reset.AvailOk ∧ State.reset.AvailExact ∧ State.reset.AvailBehindDoors
    ∧ State.reset.AttentionOk ∧ State.reset.ReportOk
end

