-- ==== Sys2Proof/Laws/State.lean ====
section
/-! SUPPORT. One lemma per field of State for each update of a block's state, true by `rfl`, so that no
later proof unfolds a record update; and the laws of a table's reads after writes. -/

namespace Sys2Proof

theorem fins_eq (n : Nat) : fins n = List.finRange n := by
  apply List.ext_getElem
  · simp [fins]
  · intro i h1 h2
    simp [fins]

@[simp] theorem mem_fins {n : Nat} (i : Fin n) : i ∈ fins n := by simp [fins_eq]

namespace Table

variable {α β : Type} {n : Nat}

/-- What `find` answers satisfies the test. -/
theorem get_of_find {t : Table α n} {p : α → Bool} {i : Fin n} (h : t.find p = some i) :
    p (t.get i) = true := by
  unfold find at h
  split at h
  · next j hj =>
    split at h
    · next hlt =>
      obtain rfl := Option.some.inj h
      obtain ⟨_, hp, _⟩ := List.findIdx?_eq_some_iff_getElem.mp hj
      exact hp
    · cases h
  · cases h

/-- `find` answers the first place: no earlier row satisfies the test. -/
theorem find_first {t : Table α n} {p : α → Bool} {i j : Fin n} (h : t.find p = some i) (hj : j < i) :
    p (t.get j) = false := by
  unfold find at h
  split at h
  · next k hk =>
    split at h
    · next hlt =>
      obtain rfl := Option.some.inj h
      obtain ⟨_, _, hf⟩ := List.findIdx?_eq_some_iff_getElem.mp hk
      simpa [get] using hf j.val hj
    · cases h
  · cases h

/-- `find` answers nothing exactly when no row satisfies the test. -/
theorem find_eq_none {t : Table α n} {p : α → Bool} : t.find p = none ↔ ∀ i, p (t.get i) = false := by
  unfold find
  split
  · next k hk =>
    obtain ⟨hk1, hk2, _⟩ := List.findIdx?_eq_some_iff_getElem.mp hk
    have hlt : k < n := by rw [← t.size]; exact hk1
    simp only [hlt, dite_true, reduceCtorEq, false_iff, not_forall, Bool.not_eq_false]
    exact ⟨⟨k, hlt⟩, hk2⟩
  · next hk =>
    simp only [true_iff]
    intro i
    have := List.findIdx?_eq_none_iff.mp hk (t.get i) (List.getElem_mem _)
    simpa using this

/-- A place is among `places` exactly when its row satisfies the test. -/
theorem mem_places {t : Table α n} {p : α → Bool} {i : Fin n} : i ∈ t.places p ↔ p (t.get i) = true := by
  unfold places
  simp only [List.mem_filterMap, Prod.exists]
  constructor
  · rintro ⟨a, b, hm, hi⟩
    split at hi
    · next hp =>
      obtain rfl := Option.some.inj hi
      obtain ⟨k, hk, hab⟩ := List.mem_iff_getElem.mp hm
      simp [fins_eq, Prod.ext_iff] at hab
      obtain ⟨h1, h2⟩ := hab
      subst h1
      simpa [get, h2] using hp
    · cases hi
  · intro hp
    refine ⟨i, t.get i, ?_, by simp [hp]⟩
    rw [List.mem_iff_getElem]
    refine ⟨i.val, by simp [fins_eq, t.size], ?_⟩
    simp [fins_eq, get]

@[simp] theorem get_set_self (t : Table α n) (i : Fin n) (a : α) : (t.set i a).get i = a := by
  simp [get, set]

theorem get_set_ne (t : Table α n) {i j : Fin n} (a : α) (h : i ≠ j) :
    (t.set i a).get j = t.get j := by
  simp only [get, set]
  rw [List.getElem_set_ne]
  exact fun e => h (Fin.ext e)

theorem get_set (t : Table α n) (i j : Fin n) (a : α) :
    (t.set i a).get j = if i = j then a else t.get j := by
  split
  · next h => subst h; simp
  · next h => exact get_set_ne t a h

@[simp] theorem get_modify_self (t : Table α n) (i : Fin n) (f : α → α) :
    (t.modify i f).get i = f (t.get i) := by simp [modify]

theorem get_modify_ne (t : Table α n) {i j : Fin n} (f : α → α) (h : i ≠ j) :
    (t.modify i f).get j = t.get j := get_set_ne t _ h

@[simp] theorem get_map (t : Table α n) (f : α → β) (i : Fin n) : (t.map f).get i = f (t.get i) := by
  simp [get, map]

@[simp] theorem get_replicate (a : α) (i : Fin n) : (replicate n a).get i = a := by
  simp [get, replicate]

/-- Two tables with the same rows at every place are equal. -/
theorem ext_get {t u : Table α n} (h : ∀ i, t.get i = u.get i) : t = u := by
  obtain ⟨tr, ht⟩ := t
  obtain ⟨ur, hu⟩ := u
  have : tr = ur := by
    apply List.ext_getElem (by omega)
    intro i h1 h2
    exact h ⟨i, by omega⟩
  subst this
  rfl

end Table

namespace Machine

/-! Replacing `keys`. -/

@[simp] theorem State.withKeys_keys (s : State) (x : KeyTable) : (s.withKeys x).keys = x := rfl
@[simp] theorem State.withKeys_compartments (s : State) (x : KeyTable) : (s.withKeys x).compartments = s.compartments := rfl
@[simp] theorem State.withKeys_scanner (s : State) (x : KeyTable) : (s.withKeys x).scanner = s.scanner := rfl
@[simp] theorem State.withKeys_contracts (s : State) (x : KeyTable) : (s.withKeys x).contracts = s.contracts := rfl
@[simp] theorem State.withKeys_kiosk (s : State) (x : KeyTable) : (s.withKeys x).kiosk = s.kiosk := rfl
@[simp] theorem State.withKeys_drop (s : State) (x : KeyTable) : (s.withKeys x).drop = s.drop := rfl
@[simp] theorem State.withKeys_overdue (s : State) (x : KeyTable) : (s.withKeys x).overdue = s.overdue := rfl
@[simp] theorem State.withKeys_mode (s : State) (x : KeyTable) : (s.withKeys x).mode = s.mode := rfl
@[simp] theorem State.withKeys_notices (s : State) (x : KeyTable) : (s.withKeys x).notices = s.notices := rfl
@[simp] theorem State.withKeys_store (s : State) (x : KeyTable) : (s.withKeys x).store = s.store := rfl
@[simp] theorem State.withKeys_link (s : State) (x : KeyTable) : (s.withKeys x).link = s.link := rfl
@[simp] theorem State.withKeys_timeBase (s : State) (x : KeyTable) : (s.withKeys x).timeBase = s.timeBase := rfl
@[simp] theorem State.withKeys_startPending (s : State) (x : KeyTable) : (s.withKeys x).startPending = s.startPending := rfl
@[simp] theorem State.withKeys_powered (s : State) (x : KeyTable) : (s.withKeys x).powered = s.powered := rfl
@[simp] theorem State.withKeys_doorPins (s : State) (x : KeyTable) : (s.withKeys x).doorPins = s.doorPins := rfl
@[simp] theorem State.withKeys_staffDoorPin (s : State) (x : KeyTable) : (s.withKeys x).staffDoorPin = s.staffDoorPin := rfl
@[simp] theorem State.withKeys_free (s : State) (x : KeyTable) : (s.withKeys x).free = s.free := rfl
@[simp] theorem State.withKeys_pending (s : State) (x : KeyTable) : (s.withKeys x).pending = s.pending := rfl

/-! Replacing `compartments`. -/

@[simp] theorem State.withCompartments_keys (s : State) (x : Compartments) : (s.withCompartments x).keys = s.keys := rfl
@[simp] theorem State.withCompartments_compartments (s : State) (x : Compartments) : (s.withCompartments x).compartments = x := rfl
@[simp] theorem State.withCompartments_scanner (s : State) (x : Compartments) : (s.withCompartments x).scanner = s.scanner := rfl
@[simp] theorem State.withCompartments_contracts (s : State) (x : Compartments) : (s.withCompartments x).contracts = s.contracts := rfl
@[simp] theorem State.withCompartments_kiosk (s : State) (x : Compartments) : (s.withCompartments x).kiosk = s.kiosk := rfl
@[simp] theorem State.withCompartments_drop (s : State) (x : Compartments) : (s.withCompartments x).drop = s.drop := rfl
@[simp] theorem State.withCompartments_overdue (s : State) (x : Compartments) : (s.withCompartments x).overdue = s.overdue := rfl
@[simp] theorem State.withCompartments_mode (s : State) (x : Compartments) : (s.withCompartments x).mode = s.mode := rfl
@[simp] theorem State.withCompartments_notices (s : State) (x : Compartments) : (s.withCompartments x).notices = s.notices := rfl
@[simp] theorem State.withCompartments_store (s : State) (x : Compartments) : (s.withCompartments x).store = s.store := rfl
@[simp] theorem State.withCompartments_link (s : State) (x : Compartments) : (s.withCompartments x).link = s.link := rfl
@[simp] theorem State.withCompartments_timeBase (s : State) (x : Compartments) : (s.withCompartments x).timeBase = s.timeBase := rfl
@[simp] theorem State.withCompartments_startPending (s : State) (x : Compartments) : (s.withCompartments x).startPending = s.startPending := rfl
@[simp] theorem State.withCompartments_powered (s : State) (x : Compartments) : (s.withCompartments x).powered = s.powered := rfl
@[simp] theorem State.withCompartments_doorPins (s : State) (x : Compartments) : (s.withCompartments x).doorPins = s.doorPins := rfl
@[simp] theorem State.withCompartments_staffDoorPin (s : State) (x : Compartments) : (s.withCompartments x).staffDoorPin = s.staffDoorPin := rfl
@[simp] theorem State.withCompartments_free (s : State) (x : Compartments) : (s.withCompartments x).free = s.free := rfl
@[simp] theorem State.withCompartments_pending (s : State) (x : Compartments) : (s.withCompartments x).pending = s.pending := rfl

/-! Replacing `scanner`. -/

@[simp] theorem State.withScanner_keys (s : State) (x : Scanner) : (s.withScanner x).keys = s.keys := rfl
@[simp] theorem State.withScanner_compartments (s : State) (x : Scanner) : (s.withScanner x).compartments = s.compartments := rfl
@[simp] theorem State.withScanner_scanner (s : State) (x : Scanner) : (s.withScanner x).scanner = x := rfl
@[simp] theorem State.withScanner_contracts (s : State) (x : Scanner) : (s.withScanner x).contracts = s.contracts := rfl
@[simp] theorem State.withScanner_kiosk (s : State) (x : Scanner) : (s.withScanner x).kiosk = s.kiosk := rfl
@[simp] theorem State.withScanner_drop (s : State) (x : Scanner) : (s.withScanner x).drop = s.drop := rfl
@[simp] theorem State.withScanner_overdue (s : State) (x : Scanner) : (s.withScanner x).overdue = s.overdue := rfl
@[simp] theorem State.withScanner_mode (s : State) (x : Scanner) : (s.withScanner x).mode = s.mode := rfl
@[simp] theorem State.withScanner_notices (s : State) (x : Scanner) : (s.withScanner x).notices = s.notices := rfl
@[simp] theorem State.withScanner_store (s : State) (x : Scanner) : (s.withScanner x).store = s.store := rfl
@[simp] theorem State.withScanner_link (s : State) (x : Scanner) : (s.withScanner x).link = s.link := rfl
@[simp] theorem State.withScanner_timeBase (s : State) (x : Scanner) : (s.withScanner x).timeBase = s.timeBase := rfl
@[simp] theorem State.withScanner_startPending (s : State) (x : Scanner) : (s.withScanner x).startPending = s.startPending := rfl
@[simp] theorem State.withScanner_powered (s : State) (x : Scanner) : (s.withScanner x).powered = s.powered := rfl
@[simp] theorem State.withScanner_doorPins (s : State) (x : Scanner) : (s.withScanner x).doorPins = s.doorPins := rfl
@[simp] theorem State.withScanner_staffDoorPin (s : State) (x : Scanner) : (s.withScanner x).staffDoorPin = s.staffDoorPin := rfl
@[simp] theorem State.withScanner_free (s : State) (x : Scanner) : (s.withScanner x).free = s.free := rfl
@[simp] theorem State.withScanner_pending (s : State) (x : Scanner) : (s.withScanner x).pending = s.pending := rfl

/-! Replacing `contracts`. -/

@[simp] theorem State.withContracts_keys (s : State) (x : ContractTable) : (s.withContracts x).keys = s.keys := rfl
@[simp] theorem State.withContracts_compartments (s : State) (x : ContractTable) : (s.withContracts x).compartments = s.compartments := rfl
@[simp] theorem State.withContracts_scanner (s : State) (x : ContractTable) : (s.withContracts x).scanner = s.scanner := rfl
@[simp] theorem State.withContracts_contracts (s : State) (x : ContractTable) : (s.withContracts x).contracts = x := rfl
@[simp] theorem State.withContracts_kiosk (s : State) (x : ContractTable) : (s.withContracts x).kiosk = s.kiosk := rfl
@[simp] theorem State.withContracts_drop (s : State) (x : ContractTable) : (s.withContracts x).drop = s.drop := rfl
@[simp] theorem State.withContracts_overdue (s : State) (x : ContractTable) : (s.withContracts x).overdue = s.overdue := rfl
@[simp] theorem State.withContracts_mode (s : State) (x : ContractTable) : (s.withContracts x).mode = s.mode := rfl
@[simp] theorem State.withContracts_notices (s : State) (x : ContractTable) : (s.withContracts x).notices = s.notices := rfl
@[simp] theorem State.withContracts_store (s : State) (x : ContractTable) : (s.withContracts x).store = s.store := rfl
@[simp] theorem State.withContracts_link (s : State) (x : ContractTable) : (s.withContracts x).link = s.link := rfl
@[simp] theorem State.withContracts_timeBase (s : State) (x : ContractTable) : (s.withContracts x).timeBase = s.timeBase := rfl
@[simp] theorem State.withContracts_startPending (s : State) (x : ContractTable) : (s.withContracts x).startPending = s.startPending := rfl
@[simp] theorem State.withContracts_powered (s : State) (x : ContractTable) : (s.withContracts x).powered = s.powered := rfl
@[simp] theorem State.withContracts_doorPins (s : State) (x : ContractTable) : (s.withContracts x).doorPins = s.doorPins := rfl
@[simp] theorem State.withContracts_staffDoorPin (s : State) (x : ContractTable) : (s.withContracts x).staffDoorPin = s.staffDoorPin := rfl
@[simp] theorem State.withContracts_free (s : State) (x : ContractTable) : (s.withContracts x).free = s.free := rfl
@[simp] theorem State.withContracts_pending (s : State) (x : ContractTable) : (s.withContracts x).pending = s.pending := rfl

/-! Replacing `kiosk`. -/

@[simp] theorem State.withKiosk_keys (s : State) (x : Kiosk) : (s.withKiosk x).keys = s.keys := rfl
@[simp] theorem State.withKiosk_compartments (s : State) (x : Kiosk) : (s.withKiosk x).compartments = s.compartments := rfl
@[simp] theorem State.withKiosk_scanner (s : State) (x : Kiosk) : (s.withKiosk x).scanner = s.scanner := rfl
@[simp] theorem State.withKiosk_contracts (s : State) (x : Kiosk) : (s.withKiosk x).contracts = s.contracts := rfl
@[simp] theorem State.withKiosk_kiosk (s : State) (x : Kiosk) : (s.withKiosk x).kiosk = x := rfl
@[simp] theorem State.withKiosk_drop (s : State) (x : Kiosk) : (s.withKiosk x).drop = s.drop := rfl
@[simp] theorem State.withKiosk_overdue (s : State) (x : Kiosk) : (s.withKiosk x).overdue = s.overdue := rfl
@[simp] theorem State.withKiosk_mode (s : State) (x : Kiosk) : (s.withKiosk x).mode = s.mode := rfl
@[simp] theorem State.withKiosk_notices (s : State) (x : Kiosk) : (s.withKiosk x).notices = s.notices := rfl
@[simp] theorem State.withKiosk_store (s : State) (x : Kiosk) : (s.withKiosk x).store = s.store := rfl
@[simp] theorem State.withKiosk_link (s : State) (x : Kiosk) : (s.withKiosk x).link = s.link := rfl
@[simp] theorem State.withKiosk_timeBase (s : State) (x : Kiosk) : (s.withKiosk x).timeBase = s.timeBase := rfl
@[simp] theorem State.withKiosk_startPending (s : State) (x : Kiosk) : (s.withKiosk x).startPending = s.startPending := rfl
@[simp] theorem State.withKiosk_powered (s : State) (x : Kiosk) : (s.withKiosk x).powered = s.powered := rfl
@[simp] theorem State.withKiosk_doorPins (s : State) (x : Kiosk) : (s.withKiosk x).doorPins = s.doorPins := rfl
@[simp] theorem State.withKiosk_staffDoorPin (s : State) (x : Kiosk) : (s.withKiosk x).staffDoorPin = s.staffDoorPin := rfl
@[simp] theorem State.withKiosk_free (s : State) (x : Kiosk) : (s.withKiosk x).free = s.free := rfl
@[simp] theorem State.withKiosk_pending (s : State) (x : Kiosk) : (s.withKiosk x).pending = s.pending := rfl

/-! Replacing `drop`. -/

@[simp] theorem State.withDrop_keys (s : State) (x : DropBox) : (s.withDrop x).keys = s.keys := rfl
@[simp] theorem State.withDrop_compartments (s : State) (x : DropBox) : (s.withDrop x).compartments = s.compartments := rfl
@[simp] theorem State.withDrop_scanner (s : State) (x : DropBox) : (s.withDrop x).scanner = s.scanner := rfl
@[simp] theorem State.withDrop_contracts (s : State) (x : DropBox) : (s.withDrop x).contracts = s.contracts := rfl
@[simp] theorem State.withDrop_kiosk (s : State) (x : DropBox) : (s.withDrop x).kiosk = s.kiosk := rfl
@[simp] theorem State.withDrop_drop (s : State) (x : DropBox) : (s.withDrop x).drop = x := rfl
@[simp] theorem State.withDrop_overdue (s : State) (x : DropBox) : (s.withDrop x).overdue = s.overdue := rfl
@[simp] theorem State.withDrop_mode (s : State) (x : DropBox) : (s.withDrop x).mode = s.mode := rfl
@[simp] theorem State.withDrop_notices (s : State) (x : DropBox) : (s.withDrop x).notices = s.notices := rfl
@[simp] theorem State.withDrop_store (s : State) (x : DropBox) : (s.withDrop x).store = s.store := rfl
@[simp] theorem State.withDrop_link (s : State) (x : DropBox) : (s.withDrop x).link = s.link := rfl
@[simp] theorem State.withDrop_timeBase (s : State) (x : DropBox) : (s.withDrop x).timeBase = s.timeBase := rfl
@[simp] theorem State.withDrop_startPending (s : State) (x : DropBox) : (s.withDrop x).startPending = s.startPending := rfl
@[simp] theorem State.withDrop_powered (s : State) (x : DropBox) : (s.withDrop x).powered = s.powered := rfl
@[simp] theorem State.withDrop_doorPins (s : State) (x : DropBox) : (s.withDrop x).doorPins = s.doorPins := rfl
@[simp] theorem State.withDrop_staffDoorPin (s : State) (x : DropBox) : (s.withDrop x).staffDoorPin = s.staffDoorPin := rfl
@[simp] theorem State.withDrop_free (s : State) (x : DropBox) : (s.withDrop x).free = s.free := rfl
@[simp] theorem State.withDrop_pending (s : State) (x : DropBox) : (s.withDrop x).pending = s.pending := rfl

/-! Replacing `overdue`. -/

@[simp] theorem State.withOverdue_keys (s : State) (x : Overdue) : (s.withOverdue x).keys = s.keys := rfl
@[simp] theorem State.withOverdue_compartments (s : State) (x : Overdue) : (s.withOverdue x).compartments = s.compartments := rfl
@[simp] theorem State.withOverdue_scanner (s : State) (x : Overdue) : (s.withOverdue x).scanner = s.scanner := rfl
@[simp] theorem State.withOverdue_contracts (s : State) (x : Overdue) : (s.withOverdue x).contracts = s.contracts := rfl
@[simp] theorem State.withOverdue_kiosk (s : State) (x : Overdue) : (s.withOverdue x).kiosk = s.kiosk := rfl
@[simp] theorem State.withOverdue_drop (s : State) (x : Overdue) : (s.withOverdue x).drop = s.drop := rfl
@[simp] theorem State.withOverdue_overdue (s : State) (x : Overdue) : (s.withOverdue x).overdue = x := rfl
@[simp] theorem State.withOverdue_mode (s : State) (x : Overdue) : (s.withOverdue x).mode = s.mode := rfl
@[simp] theorem State.withOverdue_notices (s : State) (x : Overdue) : (s.withOverdue x).notices = s.notices := rfl
@[simp] theorem State.withOverdue_store (s : State) (x : Overdue) : (s.withOverdue x).store = s.store := rfl
@[simp] theorem State.withOverdue_link (s : State) (x : Overdue) : (s.withOverdue x).link = s.link := rfl
@[simp] theorem State.withOverdue_timeBase (s : State) (x : Overdue) : (s.withOverdue x).timeBase = s.timeBase := rfl
@[simp] theorem State.withOverdue_startPending (s : State) (x : Overdue) : (s.withOverdue x).startPending = s.startPending := rfl
@[simp] theorem State.withOverdue_powered (s : State) (x : Overdue) : (s.withOverdue x).powered = s.powered := rfl
@[simp] theorem State.withOverdue_doorPins (s : State) (x : Overdue) : (s.withOverdue x).doorPins = s.doorPins := rfl
@[simp] theorem State.withOverdue_staffDoorPin (s : State) (x : Overdue) : (s.withOverdue x).staffDoorPin = s.staffDoorPin := rfl
@[simp] theorem State.withOverdue_free (s : State) (x : Overdue) : (s.withOverdue x).free = s.free := rfl
@[simp] theorem State.withOverdue_pending (s : State) (x : Overdue) : (s.withOverdue x).pending = s.pending := rfl

/-! Replacing `mode`. -/

@[simp] theorem State.withMode_keys (s : State) (x : BranchMode) : (s.withMode x).keys = s.keys := rfl
@[simp] theorem State.withMode_compartments (s : State) (x : BranchMode) : (s.withMode x).compartments = s.compartments := rfl
@[simp] theorem State.withMode_scanner (s : State) (x : BranchMode) : (s.withMode x).scanner = s.scanner := rfl
@[simp] theorem State.withMode_contracts (s : State) (x : BranchMode) : (s.withMode x).contracts = s.contracts := rfl
@[simp] theorem State.withMode_kiosk (s : State) (x : BranchMode) : (s.withMode x).kiosk = s.kiosk := rfl
@[simp] theorem State.withMode_drop (s : State) (x : BranchMode) : (s.withMode x).drop = s.drop := rfl
@[simp] theorem State.withMode_overdue (s : State) (x : BranchMode) : (s.withMode x).overdue = s.overdue := rfl
@[simp] theorem State.withMode_mode (s : State) (x : BranchMode) : (s.withMode x).mode = x := rfl
@[simp] theorem State.withMode_notices (s : State) (x : BranchMode) : (s.withMode x).notices = s.notices := rfl
@[simp] theorem State.withMode_store (s : State) (x : BranchMode) : (s.withMode x).store = s.store := rfl
@[simp] theorem State.withMode_link (s : State) (x : BranchMode) : (s.withMode x).link = s.link := rfl
@[simp] theorem State.withMode_timeBase (s : State) (x : BranchMode) : (s.withMode x).timeBase = s.timeBase := rfl
@[simp] theorem State.withMode_startPending (s : State) (x : BranchMode) : (s.withMode x).startPending = s.startPending := rfl
@[simp] theorem State.withMode_powered (s : State) (x : BranchMode) : (s.withMode x).powered = s.powered := rfl
@[simp] theorem State.withMode_doorPins (s : State) (x : BranchMode) : (s.withMode x).doorPins = s.doorPins := rfl
@[simp] theorem State.withMode_staffDoorPin (s : State) (x : BranchMode) : (s.withMode x).staffDoorPin = s.staffDoorPin := rfl
@[simp] theorem State.withMode_free (s : State) (x : BranchMode) : (s.withMode x).free = s.free := rfl
@[simp] theorem State.withMode_pending (s : State) (x : BranchMode) : (s.withMode x).pending = s.pending := rfl

/-! Replacing `notices`. -/

@[simp] theorem State.withNotices_keys (s : State) (x : NoticeUnit) : (s.withNotices x).keys = s.keys := rfl
@[simp] theorem State.withNotices_compartments (s : State) (x : NoticeUnit) : (s.withNotices x).compartments = s.compartments := rfl
@[simp] theorem State.withNotices_scanner (s : State) (x : NoticeUnit) : (s.withNotices x).scanner = s.scanner := rfl
@[simp] theorem State.withNotices_contracts (s : State) (x : NoticeUnit) : (s.withNotices x).contracts = s.contracts := rfl
@[simp] theorem State.withNotices_kiosk (s : State) (x : NoticeUnit) : (s.withNotices x).kiosk = s.kiosk := rfl
@[simp] theorem State.withNotices_drop (s : State) (x : NoticeUnit) : (s.withNotices x).drop = s.drop := rfl
@[simp] theorem State.withNotices_overdue (s : State) (x : NoticeUnit) : (s.withNotices x).overdue = s.overdue := rfl
@[simp] theorem State.withNotices_mode (s : State) (x : NoticeUnit) : (s.withNotices x).mode = s.mode := rfl
@[simp] theorem State.withNotices_notices (s : State) (x : NoticeUnit) : (s.withNotices x).notices = x := rfl
@[simp] theorem State.withNotices_store (s : State) (x : NoticeUnit) : (s.withNotices x).store = s.store := rfl
@[simp] theorem State.withNotices_link (s : State) (x : NoticeUnit) : (s.withNotices x).link = s.link := rfl
@[simp] theorem State.withNotices_timeBase (s : State) (x : NoticeUnit) : (s.withNotices x).timeBase = s.timeBase := rfl
@[simp] theorem State.withNotices_startPending (s : State) (x : NoticeUnit) : (s.withNotices x).startPending = s.startPending := rfl
@[simp] theorem State.withNotices_powered (s : State) (x : NoticeUnit) : (s.withNotices x).powered = s.powered := rfl
@[simp] theorem State.withNotices_doorPins (s : State) (x : NoticeUnit) : (s.withNotices x).doorPins = s.doorPins := rfl
@[simp] theorem State.withNotices_staffDoorPin (s : State) (x : NoticeUnit) : (s.withNotices x).staffDoorPin = s.staffDoorPin := rfl
@[simp] theorem State.withNotices_free (s : State) (x : NoticeUnit) : (s.withNotices x).free = s.free := rfl
@[simp] theorem State.withNotices_pending (s : State) (x : NoticeUnit) : (s.withNotices x).pending = s.pending := rfl

/-! Replacing `store`. -/

@[simp] theorem State.withStore_keys (s : State) (x : Store) : (s.withStore x).keys = s.keys := rfl
@[simp] theorem State.withStore_compartments (s : State) (x : Store) : (s.withStore x).compartments = s.compartments := rfl
@[simp] theorem State.withStore_scanner (s : State) (x : Store) : (s.withStore x).scanner = s.scanner := rfl
@[simp] theorem State.withStore_contracts (s : State) (x : Store) : (s.withStore x).contracts = s.contracts := rfl
@[simp] theorem State.withStore_kiosk (s : State) (x : Store) : (s.withStore x).kiosk = s.kiosk := rfl
@[simp] theorem State.withStore_drop (s : State) (x : Store) : (s.withStore x).drop = s.drop := rfl
@[simp] theorem State.withStore_overdue (s : State) (x : Store) : (s.withStore x).overdue = s.overdue := rfl
@[simp] theorem State.withStore_mode (s : State) (x : Store) : (s.withStore x).mode = s.mode := rfl
@[simp] theorem State.withStore_notices (s : State) (x : Store) : (s.withStore x).notices = s.notices := rfl
@[simp] theorem State.withStore_store (s : State) (x : Store) : (s.withStore x).store = x := rfl
@[simp] theorem State.withStore_link (s : State) (x : Store) : (s.withStore x).link = s.link := rfl
@[simp] theorem State.withStore_timeBase (s : State) (x : Store) : (s.withStore x).timeBase = s.timeBase := rfl
@[simp] theorem State.withStore_startPending (s : State) (x : Store) : (s.withStore x).startPending = s.startPending := rfl
@[simp] theorem State.withStore_powered (s : State) (x : Store) : (s.withStore x).powered = s.powered := rfl
@[simp] theorem State.withStore_doorPins (s : State) (x : Store) : (s.withStore x).doorPins = s.doorPins := rfl
@[simp] theorem State.withStore_staffDoorPin (s : State) (x : Store) : (s.withStore x).staffDoorPin = s.staffDoorPin := rfl
@[simp] theorem State.withStore_free (s : State) (x : Store) : (s.withStore x).free = s.free := rfl
@[simp] theorem State.withStore_pending (s : State) (x : Store) : (s.withStore x).pending = s.pending := rfl

/-! Replacing `link`. -/

@[simp] theorem State.withLink_keys (s : State) (x : Link) : (s.withLink x).keys = s.keys := rfl
@[simp] theorem State.withLink_compartments (s : State) (x : Link) : (s.withLink x).compartments = s.compartments := rfl
@[simp] theorem State.withLink_scanner (s : State) (x : Link) : (s.withLink x).scanner = s.scanner := rfl
@[simp] theorem State.withLink_contracts (s : State) (x : Link) : (s.withLink x).contracts = s.contracts := rfl
@[simp] theorem State.withLink_kiosk (s : State) (x : Link) : (s.withLink x).kiosk = s.kiosk := rfl
@[simp] theorem State.withLink_drop (s : State) (x : Link) : (s.withLink x).drop = s.drop := rfl
@[simp] theorem State.withLink_overdue (s : State) (x : Link) : (s.withLink x).overdue = s.overdue := rfl
@[simp] theorem State.withLink_mode (s : State) (x : Link) : (s.withLink x).mode = s.mode := rfl
@[simp] theorem State.withLink_notices (s : State) (x : Link) : (s.withLink x).notices = s.notices := rfl
@[simp] theorem State.withLink_store (s : State) (x : Link) : (s.withLink x).store = s.store := rfl
@[simp] theorem State.withLink_link (s : State) (x : Link) : (s.withLink x).link = x := rfl
@[simp] theorem State.withLink_timeBase (s : State) (x : Link) : (s.withLink x).timeBase = s.timeBase := rfl
@[simp] theorem State.withLink_startPending (s : State) (x : Link) : (s.withLink x).startPending = s.startPending := rfl
@[simp] theorem State.withLink_powered (s : State) (x : Link) : (s.withLink x).powered = s.powered := rfl
@[simp] theorem State.withLink_doorPins (s : State) (x : Link) : (s.withLink x).doorPins = s.doorPins := rfl
@[simp] theorem State.withLink_staffDoorPin (s : State) (x : Link) : (s.withLink x).staffDoorPin = s.staffDoorPin := rfl
@[simp] theorem State.withLink_free (s : State) (x : Link) : (s.withLink x).free = s.free := rfl
@[simp] theorem State.withLink_pending (s : State) (x : Link) : (s.withLink x).pending = s.pending := rfl

/-! Replacing `timeBase`. -/

@[simp] theorem State.withTimeBase_keys (s : State) (x : TimeBase) : (s.withTimeBase x).keys = s.keys := rfl
@[simp] theorem State.withTimeBase_compartments (s : State) (x : TimeBase) : (s.withTimeBase x).compartments = s.compartments := rfl
@[simp] theorem State.withTimeBase_scanner (s : State) (x : TimeBase) : (s.withTimeBase x).scanner = s.scanner := rfl
@[simp] theorem State.withTimeBase_contracts (s : State) (x : TimeBase) : (s.withTimeBase x).contracts = s.contracts := rfl
@[simp] theorem State.withTimeBase_kiosk (s : State) (x : TimeBase) : (s.withTimeBase x).kiosk = s.kiosk := rfl
@[simp] theorem State.withTimeBase_drop (s : State) (x : TimeBase) : (s.withTimeBase x).drop = s.drop := rfl
@[simp] theorem State.withTimeBase_overdue (s : State) (x : TimeBase) : (s.withTimeBase x).overdue = s.overdue := rfl
@[simp] theorem State.withTimeBase_mode (s : State) (x : TimeBase) : (s.withTimeBase x).mode = s.mode := rfl
@[simp] theorem State.withTimeBase_notices (s : State) (x : TimeBase) : (s.withTimeBase x).notices = s.notices := rfl
@[simp] theorem State.withTimeBase_store (s : State) (x : TimeBase) : (s.withTimeBase x).store = s.store := rfl
@[simp] theorem State.withTimeBase_link (s : State) (x : TimeBase) : (s.withTimeBase x).link = s.link := rfl
@[simp] theorem State.withTimeBase_timeBase (s : State) (x : TimeBase) : (s.withTimeBase x).timeBase = x := rfl
@[simp] theorem State.withTimeBase_startPending (s : State) (x : TimeBase) : (s.withTimeBase x).startPending = s.startPending := rfl
@[simp] theorem State.withTimeBase_powered (s : State) (x : TimeBase) : (s.withTimeBase x).powered = s.powered := rfl
@[simp] theorem State.withTimeBase_doorPins (s : State) (x : TimeBase) : (s.withTimeBase x).doorPins = s.doorPins := rfl
@[simp] theorem State.withTimeBase_staffDoorPin (s : State) (x : TimeBase) : (s.withTimeBase x).staffDoorPin = s.staffDoorPin := rfl
@[simp] theorem State.withTimeBase_free (s : State) (x : TimeBase) : (s.withTimeBase x).free = s.free := rfl
@[simp] theorem State.withTimeBase_pending (s : State) (x : TimeBase) : (s.withTimeBase x).pending = s.pending := rfl

/-! Replacing `startPending`. -/

@[simp] theorem State.withStartPending_keys (s : State) (x : Option Bool) : (s.withStartPending x).keys = s.keys := rfl
@[simp] theorem State.withStartPending_compartments (s : State) (x : Option Bool) : (s.withStartPending x).compartments = s.compartments := rfl
@[simp] theorem State.withStartPending_scanner (s : State) (x : Option Bool) : (s.withStartPending x).scanner = s.scanner := rfl
@[simp] theorem State.withStartPending_contracts (s : State) (x : Option Bool) : (s.withStartPending x).contracts = s.contracts := rfl
@[simp] theorem State.withStartPending_kiosk (s : State) (x : Option Bool) : (s.withStartPending x).kiosk = s.kiosk := rfl
@[simp] theorem State.withStartPending_drop (s : State) (x : Option Bool) : (s.withStartPending x).drop = s.drop := rfl
@[simp] theorem State.withStartPending_overdue (s : State) (x : Option Bool) : (s.withStartPending x).overdue = s.overdue := rfl
@[simp] theorem State.withStartPending_mode (s : State) (x : Option Bool) : (s.withStartPending x).mode = s.mode := rfl
@[simp] theorem State.withStartPending_notices (s : State) (x : Option Bool) : (s.withStartPending x).notices = s.notices := rfl
@[simp] theorem State.withStartPending_store (s : State) (x : Option Bool) : (s.withStartPending x).store = s.store := rfl
@[simp] theorem State.withStartPending_link (s : State) (x : Option Bool) : (s.withStartPending x).link = s.link := rfl
@[simp] theorem State.withStartPending_timeBase (s : State) (x : Option Bool) : (s.withStartPending x).timeBase = s.timeBase := rfl
@[simp] theorem State.withStartPending_startPending (s : State) (x : Option Bool) : (s.withStartPending x).startPending = x := rfl
@[simp] theorem State.withStartPending_powered (s : State) (x : Option Bool) : (s.withStartPending x).powered = s.powered := rfl
@[simp] theorem State.withStartPending_doorPins (s : State) (x : Option Bool) : (s.withStartPending x).doorPins = s.doorPins := rfl
@[simp] theorem State.withStartPending_staffDoorPin (s : State) (x : Option Bool) : (s.withStartPending x).staffDoorPin = s.staffDoorPin := rfl
@[simp] theorem State.withStartPending_free (s : State) (x : Option Bool) : (s.withStartPending x).free = s.free := rfl
@[simp] theorem State.withStartPending_pending (s : State) (x : Option Bool) : (s.withStartPending x).pending = s.pending := rfl

/-! Replacing `powered`. -/

@[simp] theorem State.withPowered_keys (s : State) (x : Bool) : (s.withPowered x).keys = s.keys := rfl
@[simp] theorem State.withPowered_compartments (s : State) (x : Bool) : (s.withPowered x).compartments = s.compartments := rfl
@[simp] theorem State.withPowered_scanner (s : State) (x : Bool) : (s.withPowered x).scanner = s.scanner := rfl
@[simp] theorem State.withPowered_contracts (s : State) (x : Bool) : (s.withPowered x).contracts = s.contracts := rfl
@[simp] theorem State.withPowered_kiosk (s : State) (x : Bool) : (s.withPowered x).kiosk = s.kiosk := rfl
@[simp] theorem State.withPowered_drop (s : State) (x : Bool) : (s.withPowered x).drop = s.drop := rfl
@[simp] theorem State.withPowered_overdue (s : State) (x : Bool) : (s.withPowered x).overdue = s.overdue := rfl
@[simp] theorem State.withPowered_mode (s : State) (x : Bool) : (s.withPowered x).mode = s.mode := rfl
@[simp] theorem State.withPowered_notices (s : State) (x : Bool) : (s.withPowered x).notices = s.notices := rfl
@[simp] theorem State.withPowered_store (s : State) (x : Bool) : (s.withPowered x).store = s.store := rfl
@[simp] theorem State.withPowered_link (s : State) (x : Bool) : (s.withPowered x).link = s.link := rfl
@[simp] theorem State.withPowered_timeBase (s : State) (x : Bool) : (s.withPowered x).timeBase = s.timeBase := rfl
@[simp] theorem State.withPowered_startPending (s : State) (x : Bool) : (s.withPowered x).startPending = s.startPending := rfl
@[simp] theorem State.withPowered_powered (s : State) (x : Bool) : (s.withPowered x).powered = x := rfl
@[simp] theorem State.withPowered_doorPins (s : State) (x : Bool) : (s.withPowered x).doorPins = s.doorPins := rfl
@[simp] theorem State.withPowered_staffDoorPin (s : State) (x : Bool) : (s.withPowered x).staffDoorPin = s.staffDoorPin := rfl
@[simp] theorem State.withPowered_free (s : State) (x : Bool) : (s.withPowered x).free = s.free := rfl
@[simp] theorem State.withPowered_pending (s : State) (x : Bool) : (s.withPowered x).pending = s.pending := rfl

/-! Replacing `doorPins`. -/

@[simp] theorem State.withDoorPins_keys (s : State) (x : Table Bool 192) : (s.withDoorPins x).keys = s.keys := rfl
@[simp] theorem State.withDoorPins_compartments (s : State) (x : Table Bool 192) : (s.withDoorPins x).compartments = s.compartments := rfl
@[simp] theorem State.withDoorPins_scanner (s : State) (x : Table Bool 192) : (s.withDoorPins x).scanner = s.scanner := rfl
@[simp] theorem State.withDoorPins_contracts (s : State) (x : Table Bool 192) : (s.withDoorPins x).contracts = s.contracts := rfl
@[simp] theorem State.withDoorPins_kiosk (s : State) (x : Table Bool 192) : (s.withDoorPins x).kiosk = s.kiosk := rfl
@[simp] theorem State.withDoorPins_drop (s : State) (x : Table Bool 192) : (s.withDoorPins x).drop = s.drop := rfl
@[simp] theorem State.withDoorPins_overdue (s : State) (x : Table Bool 192) : (s.withDoorPins x).overdue = s.overdue := rfl
@[simp] theorem State.withDoorPins_mode (s : State) (x : Table Bool 192) : (s.withDoorPins x).mode = s.mode := rfl
@[simp] theorem State.withDoorPins_notices (s : State) (x : Table Bool 192) : (s.withDoorPins x).notices = s.notices := rfl
@[simp] theorem State.withDoorPins_store (s : State) (x : Table Bool 192) : (s.withDoorPins x).store = s.store := rfl
@[simp] theorem State.withDoorPins_link (s : State) (x : Table Bool 192) : (s.withDoorPins x).link = s.link := rfl
@[simp] theorem State.withDoorPins_timeBase (s : State) (x : Table Bool 192) : (s.withDoorPins x).timeBase = s.timeBase := rfl
@[simp] theorem State.withDoorPins_startPending (s : State) (x : Table Bool 192) : (s.withDoorPins x).startPending = s.startPending := rfl
@[simp] theorem State.withDoorPins_powered (s : State) (x : Table Bool 192) : (s.withDoorPins x).powered = s.powered := rfl
@[simp] theorem State.withDoorPins_doorPins (s : State) (x : Table Bool 192) : (s.withDoorPins x).doorPins = x := rfl
@[simp] theorem State.withDoorPins_staffDoorPin (s : State) (x : Table Bool 192) : (s.withDoorPins x).staffDoorPin = s.staffDoorPin := rfl
@[simp] theorem State.withDoorPins_free (s : State) (x : Table Bool 192) : (s.withDoorPins x).free = s.free := rfl
@[simp] theorem State.withDoorPins_pending (s : State) (x : Table Bool 192) : (s.withDoorPins x).pending = s.pending := rfl

/-! Replacing `staffDoorPin`. -/

@[simp] theorem State.withStaffDoorPin_keys (s : State) (x : Bool) : (s.withStaffDoorPin x).keys = s.keys := rfl
@[simp] theorem State.withStaffDoorPin_compartments (s : State) (x : Bool) : (s.withStaffDoorPin x).compartments = s.compartments := rfl
@[simp] theorem State.withStaffDoorPin_scanner (s : State) (x : Bool) : (s.withStaffDoorPin x).scanner = s.scanner := rfl
@[simp] theorem State.withStaffDoorPin_contracts (s : State) (x : Bool) : (s.withStaffDoorPin x).contracts = s.contracts := rfl
@[simp] theorem State.withStaffDoorPin_kiosk (s : State) (x : Bool) : (s.withStaffDoorPin x).kiosk = s.kiosk := rfl
@[simp] theorem State.withStaffDoorPin_drop (s : State) (x : Bool) : (s.withStaffDoorPin x).drop = s.drop := rfl
@[simp] theorem State.withStaffDoorPin_overdue (s : State) (x : Bool) : (s.withStaffDoorPin x).overdue = s.overdue := rfl
@[simp] theorem State.withStaffDoorPin_mode (s : State) (x : Bool) : (s.withStaffDoorPin x).mode = s.mode := rfl
@[simp] theorem State.withStaffDoorPin_notices (s : State) (x : Bool) : (s.withStaffDoorPin x).notices = s.notices := rfl
@[simp] theorem State.withStaffDoorPin_store (s : State) (x : Bool) : (s.withStaffDoorPin x).store = s.store := rfl
@[simp] theorem State.withStaffDoorPin_link (s : State) (x : Bool) : (s.withStaffDoorPin x).link = s.link := rfl
@[simp] theorem State.withStaffDoorPin_timeBase (s : State) (x : Bool) : (s.withStaffDoorPin x).timeBase = s.timeBase := rfl
@[simp] theorem State.withStaffDoorPin_startPending (s : State) (x : Bool) : (s.withStaffDoorPin x).startPending = s.startPending := rfl
@[simp] theorem State.withStaffDoorPin_powered (s : State) (x : Bool) : (s.withStaffDoorPin x).powered = s.powered := rfl
@[simp] theorem State.withStaffDoorPin_doorPins (s : State) (x : Bool) : (s.withStaffDoorPin x).doorPins = s.doorPins := rfl
@[simp] theorem State.withStaffDoorPin_staffDoorPin (s : State) (x : Bool) : (s.withStaffDoorPin x).staffDoorPin = x := rfl
@[simp] theorem State.withStaffDoorPin_free (s : State) (x : Bool) : (s.withStaffDoorPin x).free = s.free := rfl
@[simp] theorem State.withStaffDoorPin_pending (s : State) (x : Bool) : (s.withStaffDoorPin x).pending = s.pending := rfl

/-! Replacing `free`. -/

@[simp] theorem State.withFree_keys (s : State) (x : Nat) : (s.withFree x).keys = s.keys := rfl
@[simp] theorem State.withFree_compartments (s : State) (x : Nat) : (s.withFree x).compartments = s.compartments := rfl
@[simp] theorem State.withFree_scanner (s : State) (x : Nat) : (s.withFree x).scanner = s.scanner := rfl
@[simp] theorem State.withFree_contracts (s : State) (x : Nat) : (s.withFree x).contracts = s.contracts := rfl
@[simp] theorem State.withFree_kiosk (s : State) (x : Nat) : (s.withFree x).kiosk = s.kiosk := rfl
@[simp] theorem State.withFree_drop (s : State) (x : Nat) : (s.withFree x).drop = s.drop := rfl
@[simp] theorem State.withFree_overdue (s : State) (x : Nat) : (s.withFree x).overdue = s.overdue := rfl
@[simp] theorem State.withFree_mode (s : State) (x : Nat) : (s.withFree x).mode = s.mode := rfl
@[simp] theorem State.withFree_notices (s : State) (x : Nat) : (s.withFree x).notices = s.notices := rfl
@[simp] theorem State.withFree_store (s : State) (x : Nat) : (s.withFree x).store = s.store := rfl
@[simp] theorem State.withFree_link (s : State) (x : Nat) : (s.withFree x).link = s.link := rfl
@[simp] theorem State.withFree_timeBase (s : State) (x : Nat) : (s.withFree x).timeBase = s.timeBase := rfl
@[simp] theorem State.withFree_startPending (s : State) (x : Nat) : (s.withFree x).startPending = s.startPending := rfl
@[simp] theorem State.withFree_powered (s : State) (x : Nat) : (s.withFree x).powered = s.powered := rfl
@[simp] theorem State.withFree_doorPins (s : State) (x : Nat) : (s.withFree x).doorPins = s.doorPins := rfl
@[simp] theorem State.withFree_staffDoorPin (s : State) (x : Nat) : (s.withFree x).staffDoorPin = s.staffDoorPin := rfl
@[simp] theorem State.withFree_free (s : State) (x : Nat) : (s.withFree x).free = x := rfl
@[simp] theorem State.withFree_pending (s : State) (x : Nat) : (s.withFree x).pending = s.pending := rfl

/-! Replacing `pending`. -/

@[simp] theorem State.withPending_keys (s : State) (x : List Instr) : (s.withPending x).keys = s.keys := rfl
@[simp] theorem State.withPending_compartments (s : State) (x : List Instr) : (s.withPending x).compartments = s.compartments := rfl
@[simp] theorem State.withPending_scanner (s : State) (x : List Instr) : (s.withPending x).scanner = s.scanner := rfl
@[simp] theorem State.withPending_contracts (s : State) (x : List Instr) : (s.withPending x).contracts = s.contracts := rfl
@[simp] theorem State.withPending_kiosk (s : State) (x : List Instr) : (s.withPending x).kiosk = s.kiosk := rfl
@[simp] theorem State.withPending_drop (s : State) (x : List Instr) : (s.withPending x).drop = s.drop := rfl
@[simp] theorem State.withPending_overdue (s : State) (x : List Instr) : (s.withPending x).overdue = s.overdue := rfl
@[simp] theorem State.withPending_mode (s : State) (x : List Instr) : (s.withPending x).mode = s.mode := rfl
@[simp] theorem State.withPending_notices (s : State) (x : List Instr) : (s.withPending x).notices = s.notices := rfl
@[simp] theorem State.withPending_store (s : State) (x : List Instr) : (s.withPending x).store = s.store := rfl
@[simp] theorem State.withPending_link (s : State) (x : List Instr) : (s.withPending x).link = s.link := rfl
@[simp] theorem State.withPending_timeBase (s : State) (x : List Instr) : (s.withPending x).timeBase = s.timeBase := rfl
@[simp] theorem State.withPending_startPending (s : State) (x : List Instr) : (s.withPending x).startPending = s.startPending := rfl
@[simp] theorem State.withPending_powered (s : State) (x : List Instr) : (s.withPending x).powered = s.powered := rfl
@[simp] theorem State.withPending_doorPins (s : State) (x : List Instr) : (s.withPending x).doorPins = s.doorPins := rfl
@[simp] theorem State.withPending_staffDoorPin (s : State) (x : List Instr) : (s.withPending x).staffDoorPin = s.staffDoorPin := rfl
@[simp] theorem State.withPending_free (s : State) (x : List Instr) : (s.withPending x).free = s.free := rfl
@[simp] theorem State.withPending_pending (s : State) (x : List Instr) : (s.withPending x).pending = x := rfl

end Machine

end Sys2Proof
end

