-- ==== Sys2Proof/Laws/Attention.lean ====
section
/-! SUPPORT. What the end of an event does, said once: the causes are re-examined (`attend`), and the transmitter may
begin a frame (`transmit`); together, `settle` (R160-R166, R175). -/

namespace Sys2Proof

namespace Table

variable {α : Type} {n : Nat}

theorem get_mem (t : Table α n) (i : Fin n) : t.get i ∈ t.rows := List.getElem_mem _

/-- A row is some place's row. -/
theorem exists_get {t : Table α n} {a : α} (h : a ∈ t.rows) : ∃ i, t.get i = a := by
  obtain ⟨k, hk, rfl⟩ := List.mem_iff_getElem.mp h
  exact ⟨⟨k, t.size ▸ hk⟩, rfl⟩

theorem any_rows {t : Table α n} {p : α → Bool} : t.rows.any p = true ↔ ∃ i, p (t.get i) = true := by
  rw [List.any_eq_true]
  constructor
  · rintro ⟨a, ha, hp⟩
    obtain ⟨i, rfl⟩ := exists_get ha
    exact ⟨i, hp⟩
  · rintro ⟨i, hp⟩
    exact ⟨_, get_mem t i, hp⟩

theorem countP_rows_pos {t : Table α n} {p : α → Bool} :
    0 < t.rows.countP p ↔ ∃ i, p (t.get i) = true := by
  rw [List.countP_pos_iff, ← any_rows, List.any_eq_true]

end Table

namespace Machine

/-! ### The counts and the causes -/

theorem State.tierCount_pos {s : State} {x : Tier} :
    0 < s.tierCount x ↔ ∃ sl c, s.slot sl = some c ∧ c.isOpen = true ∧ c.tier = x := by
  simp only [State.tierCount, Table.countP_rows_pos, Option.any_eq_true, Bool.and_eq_true, beq_iff_eq,
    State.slot]

theorem State.missingCount_pos {s : State} :
    0 < s.missingCount ↔ ∃ k r, s.key k = some r ∧ r.location = .missing := by
  simp only [State.missingCount, Table.countP_rows_pos, Option.any_eq_true, beq_iff_eq, State.key]

theorem Item.isForeign_iff {i : Item} : i.isForeign = true ↔ ∃ x, i = .foreign x := by
  cases i <;> simp [Item.isForeign]

theorem State.foreignCount_pos {s : State} :
    0 < s.foreignCount ↔ ∃ n x, Item.foreign x ∈ (s.comp n).contents := by
  simp only [State.foreignCount, Table.countP_rows_pos, List.any_eq_true, Item.isForeign_iff, State.comp]
  exact ⟨fun ⟨n, _, hm, x, hx⟩ => ⟨n, x, hx ▸ hm⟩, fun ⟨n, x, hm⟩ => ⟨n, _, hm, x, rfl⟩⟩

@[simp] theorem Cause.mem_all (c : Cause) : c ∈ Cause.all := by cases c <;> decide

theorem Cause.all_ordered : Cause.all.Pairwise fun a b => a.code < b.code := by decide

/-- With the counts brought to the records, the evaluated condition of a cause is the manual's (R160). -/
theorem State.holds_recount {s : State} {c : Cause} : s.recount.holds c = true ↔ s.CauseHolds c := by
  cases c
  case forcedDoor => exact Table.any_rows
  case doorLeftOpen =>
    exact Table.any_rows.trans (exists_congr fun n => beq_iff_eq)
  case late3Present => exact decide_eq_true_iff.trans State.tierCount_pos
  case keyAnomaly =>
    exact (Bool.or_eq_true _ _).to_iff.trans (or_congr (decide_eq_true_iff.trans State.missingCount_pos)
      (decide_eq_true_iff.trans State.foreignCount_pos))
  case latePresent =>
    have h1 := State.tierCount_pos (s := s) (x := .late1)
    have h2 := State.tierCount_pos (s := s) (x := .late2)
    have h : 0 < s.tierCount .late1 + s.tierCount .late2 ↔ 0 < s.tierCount .late1 ∨ 0 < s.tierCount .late2 := by
      omega
    refine decide_eq_true_iff.trans (h.trans ?_)
    rw [h1, h2]
    constructor
    · rintro (⟨sl, c, h, ho, ht⟩ | ⟨sl, c, h, ho, ht⟩)
      · exact ⟨sl, c, h, ho, .inl ht⟩
      · exact ⟨sl, c, h, ho, .inr ht⟩
    · rintro ⟨sl, c, h, ho, ht | ht⟩
      · exact .inl ⟨sl, c, h, ho, ht⟩
      · exact .inr ⟨sl, c, h, ho, ht⟩
  case dropFull => exact decide_eq_true_iff
  case noticesWaiting => exact decide_eq_true_iff
  all_goals exact Iff.rfl

/-! ### What `attend` changes and what it leaves (R160, R164-R166) -/

/-- `attend` writes the pending set, the two counts, the beacon and the pager, the per-tier counts and the
frame-waiting mark, and nothing else. -/
theorem State.attend_frame (s : State) : s.attend = { s with
    notices := { s.notices with
      pending := s.attend.notices.pending, missing := s.attend.notices.missing
      foreign := s.attend.notices.foreign, beacon := s.attend.notices.beacon
      pager := s.attend.notices.pager }
    overdue := { s.overdue with counts := s.attend.overdue.counts }
    link := { s.link with mark := s.attend.link.mark } } := rfl

theorem State.attend_pending (s : State) : s.attend.notices.pending = Cause.all.filter s.recount.holds := rfl
theorem State.attend_counts (s : State) : s.attend.overdue.counts = s.tierCounts := rfl
theorem State.attend_missing (s : State) : s.attend.notices.missing = s.missingCount := rfl
theorem State.attend_foreign (s : State) : s.attend.notices.foreign = s.foreignCount := rfl
theorem State.attend_comp (s : State) (n : CompId) : s.attend.comp n = s.comp n := rfl
theorem State.attend_key (s : State) (k : KeyId) : s.attend.key k = s.key k := rfl
theorem State.attend_slot (s : State) (sl : Slot) : s.attend.slot sl = s.slot sl := rfl
theorem State.attend_tx (s : State) : s.attend.link.tx = s.link.tx := rfl
theorem State.attend_lastReported (s : State) : s.attend.link.lastReported = s.link.lastReported := rfl

/-- After `attend` the mark stands when it stood, or when the highest report-enabled cause differs from the last
reported one (R166). -/
theorem State.attend_mark (s : State) :
    s.attend.link.mark = (s.link.mark || s.attend.highestReport != s.link.lastReported) := rfl

theorem State.mem_attend_pending (s : State) (c : Cause) :
    c ∈ s.attend.notices.pending ↔ s.CauseHolds c := by
  rw [State.attend_pending, List.mem_filter, State.holds_recount]
  simp

theorem State.attend_beacon (s : State) : s.attend.notices.beacon
    = ((s.attend.notices.pending.map fun c => (s.alertOf c).beacon).find? (· != .off)).getD .off := by
  have h : ∀ l : List Cause, ((l.map fun c => (s.alertOf c).beacon).find? (· != .off)).getD .off
      = match l.find? fun c => (s.alertOf c).beacon != .off with
        | some c => (s.alertOf c).beacon
        | none => .off := by
    intro l
    rw [List.find?_map, show ((· != Beacon.off) ∘ fun c => (s.alertOf c).beacon)
      = fun c => (s.alertOf c).beacon != .off from rfl]
    cases l.find? fun c => (s.alertOf c).beacon != .off <;> rfl
  rw [h]
  rfl

/-- A pulse in progress goes on; else one begins when a pager-enabled cause became pending in UNSTAFFED (R165). -/
theorem State.attend_pager (s : State) : s.attend.notices.pager
    = if s.notices.pager.isSome then s.notices.pager
      else if s.mode = .unstaffed
          ∧ ∃ c ∈ s.attend.notices.pending, c ∉ s.notices.pending ∧ (s.alertOf c).pager = true then
        some 2000
      else none := by
  have h : s.attend.notices.pager = s.recount.examine.pagerAfter s.notices.pending := rfl
  have hp : s.recount.examine.notices.pending = s.attend.notices.pending := rfl
  rw [h, State.pagerAfter, hp]
  change (match s.notices.pager with | some t => some t | none => _) = _
  cases s.notices.pager with
  | some t => rfl
  | none =>
    simp only [Option.isSome_none, Bool.false_eq_true, if_false]
    change (if (s.mode == .unstaffed && s.attend.notices.pending.any fun c =>
      !s.notices.pending.contains c && (s.alertOf c).pager) = true then some 2000 else none) = _
    simp only [Bool.and_eq_true, beq_iff_eq, List.any_eq_true, Bool.not_eq_true', List.contains_eq_mem,
      decide_eq_false_iff_not]

/-- The law of the causes reads the records, the settings and what `attend` writes, and no transmitter. -/
theorem State.AttentionOk.of_same {s t : State} (h : s.AttentionOk) (hk : t.keys = s.keys)
    (hc : t.compartments = s.compartments) (hs : t.contracts = s.contracts) (hd : t.drop = s.drop)
    (ho : t.overdue = s.overdue) (hn : t.notices = s.notices) (hw : t.store = s.store) : t.AttentionOk := by
  have hh : ∀ c, t.CauseHolds c ↔ s.CauseHolds c := by
    intro c
    cases c <;> simp only [State.CauseHolds, State.comp, State.slot, State.key, hk, hc, hs, hd, ho, hn, hw]
  obtain ⟨h1, h2, h3, h4, h5, h6⟩ := h
  refine ⟨fun c => ?_, ?_, ?_, ?_, ?_, ?_⟩
  · rw [hh, hn]; exact h1 c
  · rw [hn]; exact h2
  · rw [ho, h3]; simp only [State.openAt, hs]
  · rw [hn, h4, hk]
  · rw [hn, h5, hc]
  · rw [hn, h6]; simp only [State.alertOf, hw]

/-- After `attend` the pending set, the counts and the beacon are those of the records (R127, R160, R164). -/
theorem State.attend_ok (s : State) : s.attend.AttentionOk := by
  refine ⟨fun c => ?_, Cause.all_ordered.filter _, rfl, rfl, rfl, s.attend_beacon⟩
  rw [s.mem_attend_pending]
  cases c <;> simp only [State.CauseHolds, State.attend_comp, State.attend_slot, State.attend_key] <;> exact Iff.rfl

/-! ### The transmitter (R166, R175) -/

/-- `transmit` writes the transmitter, the last reported cause and the mark, and may spend a free value. -/
theorem State.transmit_frame (b : Bool) (s : State) : s.transmit b = { s with
    link := { s.link with
      tx := (s.transmit b).link.tx, lastReported := (s.transmit b).link.lastReported
      mark := (s.transmit b).link.mark }
    free := (s.transmit b).free } := by
  have hr : ∀ u : State, u.sendReply = { u with
      link := { u.link with
        tx := u.sendReply.link.tx, lastReported := u.sendReply.link.lastReported
        mark := u.sendReply.link.mark }
      free := u.sendReply.free } := by
    intro u
    unfold State.sendReply
    by_cases h : u.link.replies.isEmpty = true
    · rw [if_pos h]
    · rw [if_neg h]; rfl
  generalize ht : s.transmit b = t
  unfold State.transmit at ht
  split at ht
  · subst ht; rfl
  split at ht
  · subst ht; exact hr s
  split at ht
  · subst ht; rw [hr]; rfl
  split at ht
  · subst ht; rfl
  · dsimp only at ht
    split at ht
    · subst ht; rw [hr]; rfl
    · subst ht; rfl

/-- A transmitter at work is left as it is (R175). -/
theorem State.transmit_busy {s : State} (b : Bool) (h : s.link.tx ≠ .idle) : s.transmit b = s := by
  simp [State.transmit, h]

theorem State.attentionFrame_eq (s : State) : s.attentionFrame = s.reportFrame := by
  have h : causeByte s.highestReport = match s.reportCause with
      | none => 0
      | some c => BitVec.ofNat 8 c.code := by
    change causeByte s.reportCause = _
    cases s.reportCause <;> rfl
  rw [State.attentionFrame, State.attentionBody, h]
  exact congrArg (Frame.mk 0xFE 0 <| _ :: ·) (List.map_congr_left fun c _ => by simp [flagByte])

/-- The frame and the cause it reports read the pending set and the settings alone. -/
theorem State.report_of_same {s t : State} (hn : t.notices = s.notices) (hw : t.store = s.store) :
    t.reportCause = s.reportCause ∧ t.reportFrame = s.reportFrame := by
  have h : t.reportCause = s.reportCause := by
    simp only [State.reportCause, State.alertOf, hn, hw]
  exact ⟨h, by simp only [State.reportFrame, h, hn]⟩

/-- What `sendReply` leaves an idle transmitter at. -/
theorem State.sendReply_link {s : State} (h : s.link.tx = .idle) :
    s.sendReply.link.tx = (if s.link.replies = [] then .idle else .reply)
      ∧ s.sendReply.link.lastReported = s.link.lastReported ∧ s.sendReply.link.mark = s.link.mark := by
  unfold State.sendReply
  by_cases hq : s.link.replies = []
  · simp [hq, h]
  · simp [hq]

/-- `transmit` takes the line as R175 orders its frames. -/
theorem State.transmit_line (s : State) : LineTaken s (s.transmit false) s.link.mark := by
  obtain ⟨hc, hb⟩ := State.report_of_same (s := s) (t := s.transmit false)
    (by rw [s.transmit_frame false]) (by rw [s.transmit_frame false])
  have hr : s.highestReport = s.reportCause := rfl
  refine ⟨fun h => ?_, fun h hm => ?_, fun h hm hd => ?_⟩
  · rw [State.transmit_busy false h]; exact ⟨rfl, rfl, rfl⟩
  · rw [hc, ← hr] at hm
    by_cases h0 : s.link.mark = false
    · have ht : s.transmit false = s.sendReply := by simp [State.transmit, h, h0]
      obtain ⟨h1, h2, h3⟩ := State.sendReply_link h
      rw [ht]
      exact ⟨⟨h1, h2⟩, h3.trans h0⟩
    · have he := hm.resolve_left h0
      have ht : s.transmit false = (s.withLink { s.link with mark := false }).sendReply := by
        simp [State.transmit, h, h0, he]
      obtain ⟨h1, h2, h3⟩ :=
        State.sendReply_link (s := s.withLink { s.link with mark := false }) h
      rw [ht]
      exact ⟨⟨h1, h2⟩, h3⟩
  · rw [hc, hb]
    rw [hc, ← hr] at hd
    have ha : s.sendAttention.link.tx = .attention s.reportFrame
        ∧ s.sendAttention.link.lastReported = s.reportCause ∧ s.sendAttention.link.mark = false :=
      ⟨congrArg Transmitter.attention s.attentionFrame_eq, rfl, rfl⟩
    by_cases hq : s.link.replies = []
    · have ht : s.transmit false = s.sendAttention := by simp [State.transmit, h, hm, hd, hq]
      rw [ht]; exact .inl ha
    · by_cases hf : Config.replyFirst s.free = true
      · have ht : s.transmit false = (s.withFree (s.free + 1)).sendReply := by
          simp [State.transmit, h, hm, hd, hq, hf]
        obtain ⟨h1, h2, h3⟩ := State.sendReply_link (s := s.withFree (s.free + 1)) h
        rw [ht]
        exact .inr ⟨hq, ⟨h1, h2⟩, h3.trans hm⟩
      · have ht : s.transmit false = (s.withFree (s.free + 1)).sendAttention := by
          simp [State.transmit, h, hm, hd, hq, hf]
        rw [ht]; exact .inl ha

/-- `transmit` says no more than `Sent`: records and replies stay, and the line is taken as R175 gives it. -/
theorem State.transmit_sent (s : State) : Sent s (s.transmit false) :=
  ⟨s.transmit_frame false, s.transmit_line⟩

/-- A transmitter that became free in this event takes the next frame as R175 orders them. -/
theorem State.transmit_freed {s : State} (h : s.link.tx = .idle) : NextFrame s (s.transmit true) := by
  unfold NextFrame State.transmit
  have hr : s.highestReport = s.reportCause := rfl
  rw [← hr]
  by_cases hm : s.link.mark = true
  · by_cases hc : s.highestReport = s.link.lastReported
    · simp only [hm, hc, h, ne_eq, not_true_eq_false, and_false, if_false, if_true, Bool.true_eq_false,
        State.sendReply, State.withLink_link, List.isEmpty_iff]
      by_cases hq : s.link.replies = [] <;> simp [hq, State.withLink]
    · rw [if_pos ⟨hm, hc⟩]
      simp only [h, hm, hc, ne_eq, not_true_eq_false, if_false, Bool.true_eq_false, true_or, if_true,
        State.sendAttention, State.attentionFrame_eq]
      rfl
  · have hm' : s.link.mark = false := by simpa using hm
    rw [if_neg (by simp [hm'])]
    simp only [h, hm', ne_eq, not_true_eq_false, if_false, if_true, State.sendReply, List.isEmpty_iff]
    by_cases hq : s.link.replies = []
    · rw [if_pos hq, if_pos hq]
      conv_rhs => rw [← hm', ← h]
    · rw [if_neg hq, if_neg hq]
      simp only [State.withLink, ← hm']

/-! ### The two together -/

/-- `settle` in one statement: `Settled` says all that the end of an event can do. -/
theorem State.settle_settled (s : State) : Settled s s.settle := by
  have hf := s.attend.transmit_frame false
  have ha := s.attend_frame
  have hs : s.settle = s.attend.transmit false := rfl
  refine ⟨?_, ?_, ?_, ?_⟩
  · rw [hs, hf, ha]
  · rw [hs]
    refine s.attend_ok.of_same ?_ ?_ ?_ ?_ ?_ ?_ ?_ <;> rw [hf]
  · have h1 : s.settle.notices = s.attend.notices := by rw [hs, hf]
    rw [h1]
    exact s.attend_pager
  · obtain ⟨hc, -⟩ := State.report_of_same (s := s.attend) (t := s.attend.transmit false)
      (by rw [hf]) (by rw [hf])
    have hm : s.attend.link.mark = (s.link.mark || s.settle.reportCause != s.link.lastReported) := by
      rw [State.attend_mark, hs, hc]
      exact rfl
    rw [← hm]
    exact s.attend.transmit_line

/-- A line taken at a mark that stands for every difference leaves the last reported cause the highest one, or the
mark set (R166). -/
theorem LineTaken.reportOk {e t : State} {mark : Bool} (h : LineTaken e t mark)
    (hm : mark = false → t.reportCause = e.link.lastReported) : t.ReportOk := by
  obtain ⟨h1, h2, h3⟩ := h
  intro ht
  by_cases hi : e.link.tx = .idle
  · by_cases hd : t.reportCause = e.link.lastReported
    · rw [(h2 hi (.inr hd)).1.2, hd]
    · by_cases h0 : mark = false
      · exact absurd (hm h0) hd
      · rcases h3 hi (by simpa using h0) hd with ⟨-, hl, -⟩ | ⟨-, -, hk⟩
        · exact hl.symm
        · rw [hk] at ht; cases ht
  · obtain ⟨-, hl, hk⟩ := h1 hi
    rw [hl]
    exact hm (hk ▸ ht)

/-- After an event that settles, a difference from the last reported cause stands with the mark (R166). -/
theorem Settled.reportOk {e t : State} (h : Settled e t) : t.ReportOk :=
  h.2.2.2.reportOk fun hm => by simpa using (Bool.or_eq_false_iff.mp hm).2

/-- After an event that moves no cause the same holds where it held (R166). -/
theorem Sent.reportOk {e t : State} (h : Sent e t) (he : e.ReportOk) : t.ReportOk := by
  refine h.2.reportOk fun hm => ?_
  rw [(State.report_of_same (s := e) (t := t) (by rw [h.1]) (by rw [h.1])).1]
  exact he hm

/-- A state that `attend` would leave as it is has its causes, counts and beacon in order. -/
theorem attentionOk_of_attend {s : State} (h : s.attend = s) : s.AttentionOk := h ▸ s.attend_ok

end Machine

end Sys2Proof
end

