-- ==== Sys2Proof/Laws/Checks.lean ====
section
/-! SUPPORT. Finite checks that imply the laws of the records, so that a concrete state can be shown to meet
them by evaluation. -/

namespace Sys2Proof.Machine

/-- The places of a table whose row is occupied, with what they hold. -/
def held {α : Type} {n : Nat} (t : Table (Option α) n) : List (Fin n × α) :=
  ((fins n).zip t.rows).filterMap fun x => x.2.map fun a => (x.1, a)

theorem mem_held {α : Type} {n : Nat} {t : Table (Option α) n} {i : Fin n} {a : α} :
    (i, a) ∈ held t ↔ t.get i = some a := by
  simp only [held, List.mem_filterMap, Option.map_eq_some_iff, Prod.mk.injEq, Prod.exists]
  constructor
  · rintro ⟨j, b, hm, c, rfl, rfl, rfl⟩
    obtain ⟨k, hk, hab⟩ := List.mem_iff_getElem.mp hm
    simp only [List.getElem_zip, Prod.mk.injEq] at hab
    obtain ⟨h1, h2⟩ := hab
    subst h1
    simpa [Table.get, fins_eq] using h2
  · intro h
    refine ⟨i, some a, ?_, a, rfl, rfl, rfl⟩
    rw [List.mem_iff_getElem]
    exact ⟨i.val, by simp [fins_eq, t.size], by simpa [fins_eq, Table.get] using h⟩

/-- The occupied contract slots. -/
def State.occupied (s : State) : List (Slot × Contract) := held s.contracts.slots

/-- The enrolled keys. -/
def State.enrolled (s : State) : List (KeyId × KeyRecord) := held s.keys.places

/-- The compartments with their numbers. -/
def State.cabinet (s : State) : List (CompId × Compartment) :=
  (fins 192).zip s.compartments.table.rows

theorem mem_occupied {s : State} {sl : Slot} {c : Contract} :
    (sl, c) ∈ s.occupied ↔ s.slot sl = some c := mem_held

theorem mem_enrolled {s : State} {k : KeyId} {r : KeyRecord} :
    (k, r) ∈ s.enrolled ↔ s.key k = some r := mem_held

theorem mem_cabinet {s : State} (n : CompId) : (n, s.comp n) ∈ s.cabinet := by
  rw [State.cabinet, List.mem_iff_getElem]
  exact ⟨n.val, by simp [fins_eq, s.compartments.table.size], by
    simp [fins_eq, State.comp, Table.get]⟩

theorem forall_comp {s : State} {p : CompId → Compartment → Bool}
    (h : (s.cabinet.all fun x => p x.1 x.2) = true) (n : CompId) : p n (s.comp n) = true :=
  List.all_eq_true.mp h _ (mem_cabinet n)

/-- What the latch arbiter's law says of one compartment. -/
def State.latchAt (s : State) (n : CompId) (c : Compartment) : Bool :=
  (c.door == .unlatched) == (s.compartments.channel1 == some n || s.compartments.channel2 == some n)
    && c.window.isSome == (c.door == .unlatched)
    && s.compartments.queue.contains n == (c.door == .waiting)

/-- The latch arbiter's law (LatchOk). -/
def State.latchCheck (s : State) : Bool :=
  (s.cabinet.all fun x => s.latchAt x.1 x.2)
    && (s.compartments.channel1.isNone || s.compartments.channel1 != s.compartments.channel2)
    && decide s.compartments.queue.Nodup && decide (s.compartments.queue.length ≤ 16)
    && decide (s.compartments.queue.Pairwise fun a b => s.priorityAt b = true → s.priorityAt a = true)
    && (s.compartments.channel1.isSome && s.compartments.channel2.isSome
      || s.compartments.queue.isEmpty)

theorem latchOk_of_check {s : State} (h : s.latchCheck = true) : s.LatchOk := by
  simp only [State.latchCheck, Bool.and_eq_true, decide_eq_true_eq] at h
  obtain ⟨⟨⟨⟨⟨h1, h2⟩, h3⟩, h4⟩, h5⟩, h6⟩ := h
  have hc := forall_comp (p := s.latchAt) h1
  simp only [State.latchAt, Bool.and_eq_true, beq_iff_eq] at hc
  refine ⟨fun n => ?_, fun n => ?_, fun n hn hn' => ?_, fun n => ?_, h3, h4, h5, fun hn => ?_⟩
  · have := (hc n).1.1
    rw [Bool.eq_iff_iff] at this
    simpa using this
  · have := (hc n).1.2
    rw [Bool.eq_iff_iff] at this
    simpa using this
  · simp [hn, hn'] at h2
  · have := (hc n).2
    rw [Bool.eq_iff_iff] at this
    simpa using this
  · rcases hn with hn | hn <;> simpa [hn] using h6

/-- The scan list's law (ScanOk). -/
def State.scanCheck (s : State) : Bool :=
  decide (s.scanner.list.map ScanEntry.comp).Nodup
    && decide (s.scanner.list.Pairwise fun a b => a.cls = .sweep → b.cls = .sweep)
    && (s.scanner.list.all fun e => (s.comp e.comp).door != .locked)
    && (s.cabinet.all fun x => x.2.door != .scanning || s.scanner.list.any fun e => e.comp == x.1)
    && decide ((s.scanner.list.filter ScanEntry.reading).length ≤ 1)
    && (s.scanner.list.all fun e => !e.reading || (s.comp e.comp).door.readable)
    && ((s.scanner.list.all fun e => !(s.comp e.comp).door.readable)
      || s.scanner.list.any ScanEntry.reading)
    && (!s.scanner.sweeping || s.scanner.list.any fun e => e.cls == .sweep)

theorem scanOk_of_check {s : State} (h : s.scanCheck = true) : s.ScanOk := by
  simp only [State.scanCheck, Bool.and_eq_true, decide_eq_true_eq] at h
  obtain ⟨⟨⟨⟨⟨⟨⟨h1, h2⟩, h3⟩, h4⟩, h5⟩, h6⟩, h7⟩, h8⟩ := h
  refine ⟨h1, h2, fun e he => ?_, fun n hn => ?_, h5, fun e he hr => ?_, ?_, fun hs => ?_⟩
  · simpa using List.all_eq_true.mp h3 e he
  · have := forall_comp (p := fun n c => c.door != .scanning
      || s.scanner.list.any fun e => e.comp == n) h4 n
    simpa [hn] using this
  · simpa [hr] using List.all_eq_true.mp h6 e he
  · rintro ⟨e, he, hr⟩
    rcases Bool.or_eq_true_iff.mp h7 with h | h
    · have := List.all_eq_true.mp h e he
      simp [hr] at this
    · simpa using h
  · simpa [hs] using h8

theorem cabinetOk_of_checks {s : State} (h : (s.latchCheck && s.scanCheck) = true) : s.CabinetOk := by
  rw [Bool.and_eq_true] at h
  exact ⟨latchOk_of_check h.1, scanOk_of_check h.2⟩

/-- The occupied slots and the index agree (IndexOk). -/
def State.indexCheck (s : State) : Bool :=
  (s.occupied.all fun x => s.occupied.all fun y => x.2.number != y.2.number || x.1 == y.1)
    && decide (s.contracts.codes.Pairwise fun a b => a.1 < b.1)
    && (s.contracts.codes.all fun p => s.occupied.any fun x =>
      x.1 == p.2 && x.2.code == some p.1 && x.2.state.indexed)
    && s.occupied.all fun x => match x.2.code with
      | none => true
      | some code => !x.2.state.indexed || s.contracts.codes.contains (code, x.1)

theorem indexOk_of_check {s : State} (h : s.indexCheck = true) : s.IndexOk := by
  simp only [State.indexCheck, Bool.and_eq_true, List.all_eq_true, decide_eq_true_eq] at h
  obtain ⟨⟨⟨h1, h2⟩, h3⟩, h4⟩ := h
  refine ⟨fun i j c d hi hj hn => ?_, h2, fun code sl => ⟨fun hm => ?_, ?_⟩⟩
  · have := h1 _ (mem_occupied.mpr hi) _ (mem_occupied.mpr hj)
    simpa [hn] using this
  · obtain ⟨x, hx, hp⟩ := List.any_eq_true.mp (h3 _ hm)
    simp only [Bool.and_eq_true, beq_iff_eq] at hp
    obtain ⟨⟨rfl, hc⟩, hi⟩ := hp
    exact ⟨x.2, mem_occupied.mp hx, hc, hi⟩
  · rintro ⟨c, hc, hcode, hst⟩
    have := h4 _ (mem_occupied.mpr hc)
    simpa [hcode, hst] using this

/-- PICKUP releases and keys that are OUT agree with their contracts (RentalOk). -/
def State.rentalCheck (s : State) : Bool :=
  let picks := s.cabinet.filterMap fun n => n.2.release.bind fun r => match r.purpose with
    | .pickup c k => some (n.1, c, k)
    | _ => none
  (picks.all fun x => (s.contract x.2.1).any fun d => d.state == .picking && d.key == some x.2.2)
    && (picks.all fun x => picks.all fun y => x.2.1 != y.2.1 || x.1 == y.1)
    && (s.enrolled.all fun x => match x.2.location with
      | .out c => (s.contract c).any fun d => d.isOpen && d.key == some x.1
      | _ => true)
    && s.occupied.all fun x => !x.2.isOpen
      || x.2.key.any fun k => (s.key k).any fun r => r.location == .out x.2.number

theorem rentalOk_of_check {s : State} (h : s.rentalCheck = true) : s.RentalOk := by
  simp only [State.rentalCheck, Bool.and_eq_true, List.all_eq_true] at h
  obtain ⟨⟨⟨h1, h2⟩, h3⟩, h4⟩ := h
  have hm : ∀ n r c k, (s.comp n).release = some r → r.purpose = .pickup c k →
      (n, c, k) ∈ s.cabinet.filterMap fun n => n.2.release.bind fun r => match r.purpose with
        | .pickup c k => some (n.1, c, k)
        | _ => none := fun n r c k hr hp =>
    List.mem_filterMap.mpr ⟨_, mem_cabinet n, by simp [hr, hp]⟩
  refine ⟨fun n r c k hr hp => ⟨?_, fun m r' k' hr' hp' => ?_⟩, fun k r c hk hl => ?_,
    fun sl d hd ho => ?_⟩
  · simpa [Option.any_eq_true] using h1 _ (hm n r c k hr hp)
  · have := h2 _ (hm m r' c k' hr' hp') _ (hm n r c k hr hp)
    simpa using this
  · have := h3 _ (mem_enrolled.mpr hk)
    simpa [hl, Option.any_eq_true] using this
  · have := h4 _ (mem_occupied.mpr hd)
    simp only [ho, Bool.not_true, Bool.false_or, Option.any_eq_true, beq_iff_eq] at this
    obtain ⟨k, hk, r, hr, hl⟩ := this
    exact ⟨k, r, hk, hr, hl⟩

/-- Tags are unique, locations and contents agree, and no item stands twice (LocationOk). -/
def State.locationCheck (s : State) : Bool :=
  (s.enrolled.all fun x => s.enrolled.all fun y => x.2.tag != y.2.tag || x.1 == y.1)
    && (s.enrolled.all fun x => match x.2.location with
      | .compartment n => (s.comp n).contents.contains (.key x.1)
      | _ => true)
    && (s.cabinet.all fun n => n.2.contents.all fun i => match i with
      | .key k => (s.key k).any fun r => r.location == .compartment n.1
      | .foreign _ => true)
    && s.cabinet.all fun n => decide n.2.contents.Nodup

theorem locationOk_of_check {s : State} (h : s.locationCheck = true) : s.LocationOk := by
  simp only [State.locationCheck, Bool.and_eq_true, List.all_eq_true] at h
  obtain ⟨⟨⟨h1, h2⟩, h3⟩, h4⟩ := h
  refine ⟨fun j k a b hj hk ht => ?_, fun k n => ⟨fun hm => ?_, fun hl => ?_⟩,
    fun n => by simpa using h4 _ (mem_cabinet n)⟩
  · have := h1 _ (mem_enrolled.mpr hj) _ (mem_enrolled.mpr hk)
    simpa [ht] using this
  · have := h3 _ (mem_cabinet n) _ hm
    simp only [Option.any_eq_true, beq_iff_eq] at this
    obtain ⟨r, hr, hl⟩ := this
    simp [hr, hl]
  · obtain ⟨r, hr, hl⟩ := Option.map_eq_some_iff.mp hl
    have := h2 _ (mem_enrolled.mpr hr)
    simpa [hl] using this

end Sys2Proof.Machine
end

