-- ==== Sys2Proof/Laws/Keys.lean ====
section
/-! SUPPORT. The reads of one record after another is written; the moves of a key, the availability lists and what
re-examining a key can do (R2, R5, R6). -/

namespace Sys2Proof.Machine

/-! ### Reading after writing one record -/

@[simp] theorem State.modifyKey_key_self (s : State) (k : KeyId) (f : KeyRecord → KeyRecord) :
    (s.modifyKey k f).key k = (s.key k).map f := by simp [State.modifyKey, State.key]

theorem State.modifyKey_key_ne (s : State) {k j : KeyId} (f : KeyRecord → KeyRecord) (h : k ≠ j) :
    (s.modifyKey k f).key j = s.key j := Table.get_modify_ne _ _ h

@[simp] theorem State.modifyKey_lists (s : State) (k : KeyId) (f : KeyRecord → KeyRecord) :
    (s.modifyKey k f).keys.lists = s.keys.lists := rfl
@[simp] theorem State.modifyKey_comp (s : State) (k : KeyId) (f : KeyRecord → KeyRecord) (n : CompId) :
    (s.modifyKey k f).comp n = s.comp n := rfl
@[simp] theorem State.modifyKey_slot (s : State) (k : KeyId) (f : KeyRecord → KeyRecord) (sl : Slot) :
    (s.modifyKey k f).slot sl = s.slot sl := rfl

@[simp] theorem State.modifyComp_comp_self (s : State) (n : CompId) (f : Compartment → Compartment) :
    (s.modifyComp n f).comp n = f (s.comp n) := by simp [State.modifyComp, State.comp]

theorem State.modifyComp_comp_ne (s : State) {n m : CompId} (f : Compartment → Compartment) (h : n ≠ m) :
    (s.modifyComp n f).comp m = s.comp m := Table.get_modify_ne _ _ h

@[simp] theorem State.modifyComp_key (s : State) (n : CompId) (f : Compartment → Compartment) (k : KeyId) :
    (s.modifyComp n f).key k = s.key k := rfl
@[simp] theorem State.modifyComp_queue (s : State) (n : CompId) (f : Compartment → Compartment) :
    (s.modifyComp n f).compartments.queue = s.compartments.queue := rfl
@[simp] theorem State.modifyComp_channel1 (s : State) (n : CompId) (f : Compartment → Compartment) :
    (s.modifyComp n f).compartments.channel1 = s.compartments.channel1 := rfl
@[simp] theorem State.modifyComp_channel2 (s : State) (n : CompId) (f : Compartment → Compartment) :
    (s.modifyComp n f).compartments.channel2 = s.compartments.channel2 := rfl
@[simp] theorem State.modifyComp_store (s : State) (n : CompId) (f : Compartment → Compartment) :
    (s.modifyComp n f).store = s.store := rfl
@[simp] theorem State.modifyComp_scanner (s : State) (n : CompId) (f : Compartment → Compartment) :
    (s.modifyComp n f).scanner = s.scanner := rfl

@[simp] theorem State.modifySlot_slot_self (s : State) (sl : Slot) (f : Contract → Contract) :
    (s.modifySlot sl f).slot sl = (s.slot sl).map f := by simp [State.modifySlot, State.slot]

theorem State.modifySlot_slot_ne (s : State) {sl i : Slot} (f : Contract → Contract) (h : sl ≠ i) :
    (s.modifySlot sl f).slot i = s.slot i := Table.get_modify_ne _ _ h

/-! ### The order of an availability list (R5, R6) -/

/-- A key is placed once among the others, which keep their order. -/
theorem KeyTable.mem_place (t : KeyTable) (k j : KeyId) (l : List KeyId) :
    j ∈ t.place k l ↔ j = k ∨ j ∈ l := by
  induction l with
  | nil => simp [KeyTable.place]
  | cons x xs ih =>
    unfold KeyTable.place
    split
    · simp only [List.mem_cons, ih]
      tauto
    · simp

theorem KeyTable.place_filter (t : KeyTable) {k : KeyId} {l : List KeyId} (h : k ∉ l) :
    (t.place k l).filter (· != k) = l := by
  have hl : ∀ l : List KeyId, k ∉ l → l.filter (· != k) = l := fun l hl =>
    List.filter_eq_self.mpr fun x hx => by simpa using fun e : x = k => hl (e ▸ hx)
  induction l with
  | nil => simp [KeyTable.place]
  | cons x xs ih =>
    obtain ⟨h1, h2⟩ : k ≠ x ∧ k ∉ xs := by simpa using h
    unfold KeyTable.place
    split
    · rw [List.filter_cons_of_pos (by simpa using Ne.symm h1), ih h2]
    · rw [List.filter_cons_of_neg (by simp), hl _ h]

/-- The condition that `reexamine` evaluates is the manual's R5. -/
theorem State.available_iff {s : State} {k : KeyId} {r : KeyRecord} (h : s.key k = some r) :
    s.available k = true ↔ MayBeListed s k r := by
  have hc : s.claimed k = false ↔ ∀ sl c, s.slot sl = some c → c.claims k = false := by
    constructor
    · intro hn sl c hsl
      by_contra hk
      have : s.claimed k = true := by
        rw [State.claimed, List.any_eq_true]
        exact ⟨some c, hsl ▸ List.getElem_mem _, by simpa using hk⟩
      simp [this] at hn
    · intro hn
      by_contra hk
      have hk' : s.claimed k = true := by simpa using hk
      obtain ⟨x, hx, hp⟩ := List.any_eq_true.mp hk'
      obtain ⟨i, hi, rfl⟩ := List.mem_iff_getElem.mp hx
      obtain ⟨c, hs, hcl⟩ := Option.any_eq_true _ _ |>.mp hp
      have := hn ⟨i, s.contracts.slots.size ▸ hi⟩ c hs
      simp [this] at hcl
  have ha : s.aloneInService k r.location = true ↔ ∃ n, r.location = .compartment n
      ∧ (s.comp n).service = .inService ∧ (s.comp n).known = true ∧ (s.comp n).contents = [.key k] := by
    cases hl : r.location <;> simp [State.aloneInService, and_assoc]
  unfold State.available State.dispensable MayBeListed
  rw [Bool.and_eq_true, Bool.not_eq_true', hc, h]
  simp only [Option.any_some, Bool.and_eq_true, ha, Bool.not_eq_true', beq_iff_eq, Option.isNone_iff_eq_none]
  tauto

/-- Re-examining a key in one statement, for a key whose record stands as `r`: it is outside its list, it joins, or it
stays, as R5 says; no other key's record and no other list changes (R5, R6). -/
theorem State.reexamine_reexamined {s : State} {k : KeyId} {r : KeyRecord} (h : s.key k = some r) :
    Reexamined s (s.reexamine s.joinMinute k) k r := by
  have hav := State.available_iff h
  have hin : s.inList k = true ↔ k ∈ s.keys.lists.get r.group := by simp [State.inList, h]
  have hjoin : s.joinMinute = if s.overdue.clock = .running then s.overdue.value else 0 := by
    unfold State.joinMinute State.present
    split <;> simp_all
  have hfree : k ∉ s.keys.lists.get r.group →
      (s.keys.lists.get r.group).filter (· != k) = s.keys.lists.get r.group := fun hm =>
    List.filter_eq_self.mpr fun x hx => by simpa using fun e : x = k => hm (e ▸ hx)
  by_cases hA : MayBeListed s k r <;> by_cases hL : k ∈ s.keys.lists.get r.group
  · have e : s.reexamine s.joinMinute k = s := by
      simp [State.reexamine, h, hav.mpr hA, hin.mpr hL]
    rw [e]
    exact ⟨fun n => absurd hA n, fun _ n => absurd hL n, fun _ _ => ⟨h, rfl⟩, fun _ _ => rfl, fun _ _ => rfl⟩
  · have hL' : s.inList k = false := by simpa using fun n => hL (hin.mp n)
    have e : s.reexamine s.joinMinute k = (s.modifyKey k fun r => { r with idleSince := s.joinMinute }).withKeys
        ((s.modifyKey k fun r => { r with idleSince := s.joinMinute }).keys.join r.group k) := by
      simp only [State.reexamine, h, hav.mpr hA, hL']
    rw [e]
    have hg : (((s.modifyKey k fun r => { r with idleSince := s.joinMinute }).withKeys
        ((s.modifyKey k fun r => { r with idleSince := s.joinMinute }).keys.join r.group k)).keys.lists.get
          r.group)
        = (s.modifyKey k fun r => { r with idleSince := s.joinMinute }).keys.place k
          (s.keys.lists.get r.group) := by
      simp [KeyTable.join]
    refine ⟨fun n => absurd hA n, fun _ _ => ⟨?_, ?_, ?_⟩, fun _ n => absurd n hL, fun j hj => ?_, fun g hgr => ?_⟩
    · rw [← hjoin]
      change ((s.keys.places.modify k _).get k) = _
      rw [Table.get_modify_self]
      change (s.key k).map _ = _
      rw [h]; rfl
    · rw [hg]; exact (KeyTable.mem_place _ _ _ _).mpr (.inl rfl)
    · rw [hg]; exact KeyTable.place_filter _ hL
    · exact Table.get_modify_ne _ _ (Ne.symm hj)
    · exact Table.get_modify_ne _ _ (Ne.symm hgr)
  · have hA' : s.available k = false := by simpa using fun n => hA (hav.mp n)
    have e : s.reexamine s.joinMinute k = s.withKeys (s.keys.leave r.group k) := by
      simp only [State.reexamine, h, hA', hin.mpr hL]
    rw [e]
    refine ⟨fun _ => ⟨h, ?_⟩, fun n => absurd n hA, fun n => absurd n hA, fun _ _ => rfl, fun g hgr => ?_⟩
    · simp [KeyTable.leave]
    · exact Table.get_modify_ne _ _ (Ne.symm hgr)
  · have hA' : s.available k = false := by simpa using fun n => hA (hav.mp n)
    have hL' : s.inList k = false := by simpa using fun n => hL (hin.mp n)
    have e : s.reexamine s.joinMinute k = s := by simp [State.reexamine, h, hA', hL']
    rw [e]
    exact ⟨fun _ => ⟨h, (hfree hL).symm⟩, fun n => absurd n hA, fun n => absurd n hA, fun _ _ => rfl,
      fun _ _ => rfl⟩

/-- A key that is not enrolled is not re-examined. -/
theorem State.reexamine_none {s : State} {k : KeyId} (h : s.key k = none) (m : Nat) : s.reexamine m k = s := by
  simp [State.reexamine, h]

/-- Re-examining writes the key table alone. -/
theorem State.reexamine_frame (s : State) (m : Nat) (k : KeyId) :
    s.reexamine m k = { s with keys := (s.reexamine m k).keys } := by
  unfold State.reexamine
  split
  · rfl
  · split <;> rfl

/-! ### A key's location (R2) -/

/-- A move writes the old location's other record and then the key's location. -/
theorem State.moveKey_eq {s : State} {k : KeyId} {r : KeyRecord} (h : s.key k = some r) (loc : Location) :
    ∃ u : State, u.keys = s.keys ∧ s.moveKey k loc = u.modifyKey k fun r => { r with location := loc } := by
  rw [State.moveKey, h]
  refine ⟨_, ?_, rfl⟩
  obtain ⟨_, _, _, _, _, _, l, _, _, _, _⟩ := r
  cases l <;> cases loc <;> first
    | rfl
    | exact (apply_ite State.keys _ _ _).trans (ite_self _)

/-- Writing a location gives the key that location, and changes no other key's record. -/
theorem State.moveKey_key {s : State} {k : KeyId} {r : KeyRecord} (h : s.key k = some r) (loc : Location) :
    (s.moveKey k loc).key k = some { r with location := loc }
      ∧ ∀ j, j ≠ k → (s.moveKey k loc).key j = s.key j := by
  obtain ⟨u, hu, he⟩ := State.moveKey_eq h loc
  have hkey : ∀ j, u.key j = s.key j := fun j => congrArg (fun t => t.places.get j) hu
  rw [he]
  refine ⟨?_, fun j hj => ?_⟩
  · rw [State.modifyKey_key_self, hkey, h]; rfl
  · rw [State.modifyKey_key_ne _ _ (Ne.symm hj), hkey]

end Sys2Proof.Machine
end

