-- ==== Sys2Proof/Laws/Releases.lean ====
section
/-! SUPPORT. The release queue, the arbiter and the scan list: what a release request, a grant, a freed channel and a
scan request can do, each said once (R20-R22, R40-R45). -/

namespace Sys2Proof.Machine

/-! ### The arbiter (R22) -/

/-- A compartment whose channel the arbiter grants. -/
def granted (s : State) (c : Compartment) : Compartment :=
  { c with door := .unlatched, window := some (seconds s.store.working.profile.value.window) }

/-- With no request waiting, or with both channels busy, a grant changes nothing. -/
theorem State.grantOne_none {s : State}
    (h : s.compartments.queue = [] ∨ s.compartments.channel1 ≠ none ∧ s.compartments.channel2 ≠ none) :
    s.grantOne = s := by
  unfold State.grantOne
  split
  · rfl
  · next n rest hq =>
    obtain h | ⟨h1, h2⟩ := h
    · simp [hq] at h
    · split
      · next hc => exact absurd hc h1
      · next hc _ => exact absurd ‹s.compartments.channel2 = none› h2
      · rfl

/-- Channel 1, when it is free, goes to the head of the queue. -/
theorem State.grantOne_first {s : State} {n : CompId} {rest : List CompId}
    (hq : s.compartments.queue = n :: rest) (h : s.compartments.channel1 = none) :
    s.grantOne = { s with compartments := { s.compartments with
      queue := rest, channel1 := some n
      table := s.compartments.table.modify n (granted s) } } := by
  unfold State.grantOne
  rw [hq, h]
  rfl

/-- Channel 2 goes to the head of the queue when it is free and channel 1 is not. -/
theorem State.grantOne_second {s : State} {n : CompId} {rest : List CompId}
    (hq : s.compartments.queue = n :: rest) {m : CompId} (h1 : s.compartments.channel1 = some m)
    (h2 : s.compartments.channel2 = none) :
    s.grantOne = { s with compartments := { s.compartments with
      queue := rest, channel2 := some n
      table := s.compartments.table.modify n (granted s) } } := by
  unfold State.grantOne
  rw [hq, h1, h2]
  rfl

/-- A single request that waits while a channel is free is granted it, channel 1 first, and nothing else moves. -/
theorem State.arbitrate_single {s : State} {n : CompId} (hq : s.compartments.queue = [n]) :
    (s.compartments.channel1 = none → s.arbitrate = { s with compartments := { s.compartments with
        queue := [], channel1 := some n, table := s.compartments.table.modify n (granted s) } })
      ∧ (∀ m, s.compartments.channel1 = some m → s.compartments.channel2 = none →
        s.arbitrate = { s with compartments := { s.compartments with
          queue := [], channel2 := some n, table := s.compartments.table.modify n (granted s) } }) := by
  refine ⟨fun h => ?_, fun m h1 h2 => ?_⟩
  · rw [State.arbitrate, State.grantOne_first hq h, State.grantOne_none (.inl rfl)]
  · rw [State.arbitrate, State.grantOne_second hq h1 h2, State.grantOne_none (.inl rfl)]

/-- With both channels busy, or with nothing waiting, the arbiter changes nothing. -/
theorem State.arbitrate_none {s : State}
    (h : s.compartments.queue = [] ∨ s.compartments.channel1 ≠ none ∧ s.compartments.channel2 ≠ none) :
    s.arbitrate = s := by
  rw [State.arbitrate, State.grantOne_none h, State.grantOne_none h]

/-! ### The release queue (R21) -/

/-- In a queue whose priority requests stand first, the split at the first renter request is the split by class. -/
theorem takeWhile_eq_filter {α : Type} {p : α → Bool} {l : List α}
    (h : l.Pairwise fun a b => p b = true → p a = true) :
    l.takeWhile p = l.filter p ∧ l.dropWhile p = l.filter fun x => !p x := by
  induction l with
  | nil => exact ⟨rfl, rfl⟩
  | cons x xs ih =>
    obtain ⟨h1, h2⟩ := List.pairwise_cons.mp h
    by_cases hx : p x = true
    · simp [hx, ih h2]
    · have hn : ∀ y ∈ xs, p y = false := fun y hy => by
        by_contra hy'
        exact hx (h1 y hy (by simpa using hy'))
      have hx' : p x = false := by simpa using hx
      refine ⟨?_, ?_⟩
      · simpa [hx'] using hn
      · simp only [List.dropWhile_cons, hx', Bool.false_eq_true, if_false, Bool.not_false, List.filter_cons,
          if_true]
        rw [List.filter_eq_self.mpr fun y hy => by simp [hn y hy]]

/-- A taken release request in one statement: a free channel is granted to it, channel 1 first, or it waits behind
its class (R20-R22). -/
theorem State.requestRelease_taken {s t : State} {n : CompId} {r : Release} (hl : s.LatchOk)
    (h : s.requestRelease n r = .ok t) : ReleaseTaken s t n r := by
  obtain ⟨-, -, -, hw, -, -, hp, hf⟩ := hl
  unfold State.requestRelease at h
  split at h
  · cases h
  next hd =>
  split at h
  · cases h
  have hd' : (s.comp n).service = .inService ∧ (s.comp n).door = .locked := by simpa using hd
  have hn : n ∉ s.compartments.queue := fun hm => by simp [(hw n).mp hm] at hd'
  dsimp only at h
  generalize hu : s.modifyComp n _ = u at h
  obtain rfl := Except.ok.inj h
  have hcomp : ∀ m, m ≠ n → u.comp m = s.comp m := fun m hm => by
    rw [← hu, State.modifyComp_comp_ne _ _ (Ne.symm hm)]
  have hprio : ∀ m ∈ s.compartments.queue, u.priorityAt m = s.priorityAt m := fun m hm => by
    rw [State.priorityAt, hcomp m (fun e => hn (e ▸ hm)), State.priorityAt]
  have hsame : u.compartments.queue = s.compartments.queue
      ∧ u.compartments.channel1 = s.compartments.channel1
      ∧ u.compartments.channel2 = s.compartments.channel2 ∧ u.store = s.store := by
    rw [← hu]; exact ⟨rfl, rfl, rfl, rfl⟩
  obtain ⟨hq, h1, h2, hs⟩ := hsame
  have hself : u.comp n = { s.comp n with
      door := .waiting, release := some r
      reservation := match r.purpose with
        | .ret c _ => some c
        | _ => (s.comp n).reservation } := by
    rw [← hu]
    refine (State.modifyComp_comp_self _ _ _).trans ?_
    obtain ⟨p, o⟩ := r
    cases p <;> rfl
  generalize hv : u.enqueue n r.priority = v
  have hvc : ∀ m, v.comp m = u.comp m := fun m => by rw [← hv]; rfl
  have hv1 : v.compartments.channel1 = s.compartments.channel1 := by rw [← hv, ← h1]; rfl
  have hv2 : v.compartments.channel2 = s.compartments.channel2 := by rw [← hv, ← h2]; rfl
  have hvs : v.store = s.store := by rw [← hv, ← hs]; rfl
  have hvq : v.compartments.queue = if r.priority then
        s.compartments.queue.filter s.priorityAt ++ [n] ++ s.compartments.queue.filter (fun m => !s.priorityAt m)
      else s.compartments.queue ++ [n] := by
    have hpair : s.compartments.queue.Pairwise fun a b => u.priorityAt b = true → u.priorityAt a = true :=
      hp.imp_of_mem fun {a b} ha hb hab hb' => by
        rw [hprio a ha]
        exact hab (by rw [← hprio b hb]; exact hb')
    obtain ⟨e1, e2⟩ := takeWhile_eq_filter hpair
    rw [← hv]
    change (if r.priority = true then u.compartments.queue.takeWhile u.priorityAt ++ [n]
      ++ u.compartments.queue.dropWhile u.priorityAt else u.compartments.queue ++ [n]) = _
    rw [hq, e1, e2, List.filter_congr hprio,
      List.filter_congr fun m hm => congrArg (!·) (hprio m hm)]
  have hvone : s.compartments.queue = [] → v.compartments.queue = [n] := fun he => by
    rw [hvq, he]; split <;> rfl
  have htab : ∀ m, m ≠ n → (v.compartments.table.modify n (granted v)).get m = s.comp m := fun m hm => by
    rw [Table.get_modify_ne _ _ (Ne.symm hm)]
    exact (hvc m).trans (hcomp m hm)
  have hgrant : (v.compartments.table.modify n (granted v)).get n = { u.comp n with
      door := .unlatched, window := some (s.store.working.profile.value.window * 1000) } := by
    rw [Table.get_modify_self, granted, hvs]
    exact congrArg (fun c : Compartment => { c with
      door := .unlatched, window := some (s.store.working.profile.value.window * 1000) }) (hvc n)
  have hlift : ∀ {a b : Compartment}, a = b → ({ a with
      door := .unlatched, window := some (s.store.working.profile.value.window * 1000) } : Compartment)
      = { b with door := .unlatched, window := some (s.store.working.profile.value.window * 1000) } :=
    fun h => h ▸ rfl
  refine ⟨fun m hm => ?_, fun c1 => ?_, fun c1 c2 => ?_, fun c1 c2 => ?_⟩
  · by_cases c1 : s.compartments.channel1 = none
    · rw [(State.arbitrate_single (hvone (hf (.inl c1)))).1 (hv1.trans c1)]
      exact htab m hm
    · obtain ⟨x, hx⟩ := Option.ne_none_iff_exists'.mp c1
      by_cases c2 : s.compartments.channel2 = none
      · rw [(State.arbitrate_single (hvone (hf (.inr c2)))).2 x (hv1.trans hx) (hv2.trans c2)]
        exact htab m hm
      · rw [State.arbitrate_none (.inr ⟨hv1 ▸ c1, hv2 ▸ c2⟩)]
        exact (hvc m).trans (hcomp m hm)
  · have he := hf (.inl c1)
    rw [(State.arbitrate_single (hvone he)).1 (hv1.trans c1)]
    exact ⟨hgrant.trans (hlift hself), rfl, hv2, he.symm⟩
  · have he := hf (.inr c2)
    obtain ⟨x, hx⟩ := Option.ne_none_iff_exists'.mp c1
    rw [(State.arbitrate_single (hvone he)).2 x (hv1.trans hx) (hv2.trans c2)]
    exact ⟨hgrant.trans (hlift hself), hv1, rfl, he.symm⟩
  · rw [State.arbitrate_none (.inr ⟨hv1 ▸ c1, hv2 ▸ c2⟩)]
    exact ⟨(hvc n).trans hself, hv1, hv2, hvq⟩

/-- When a release request is refused, and with which status (R20). -/
theorem State.requestRelease_refused (s : State) (n : CompId) (r : Release) :
    (¬ ((s.comp n).service = .inService ∧ (s.comp n).door = .locked) →
        s.requestRelease n r = .error .wrongState)
      ∧ ((s.comp n).service = .inService ∧ (s.comp n).door = .locked → 16 ≤ s.compartments.queue.length →
        s.requestRelease n r = .error .queueFull)
      ∧ ((s.comp n).service = .inService ∧ (s.comp n).door = .locked → s.compartments.queue.length < 16 →
        ∃ t, s.requestRelease n r = .ok t) := by
  unfold State.requestRelease
  refine ⟨fun h => ?_, fun ⟨h1, h2⟩ hq => ?_, fun ⟨h1, h2⟩ hq => ?_⟩
  · rw [if_pos]; tauto
  · rw [if_neg (by simp [h1, h2]), if_pos hq]
  · rw [if_neg (by simp [h1, h2]), if_neg (by omega)]
    exact ⟨_, rfl⟩

/-! ### The scan list (R40-R45) -/

/-- Marking a read changes no entry but its mark, and no entry already being read. -/
theorem markFirst_unread (p : CompId → Bool) (l : List ScanEntry) :
    (markFirst p l).map ScanEntry.unread = l.map ScanEntry.unread := by
  induction l with
  | nil => rfl
  | cons e es ih =>
    unfold markFirst
    split
    · rfl
    · simp [ih]

theorem mem_markFirst {p : CompId → Bool} {l : List ScanEntry} {e : ScanEntry} (h : e ∈ l)
    (hr : e.reading = true) : e ∈ markFirst p l := by
  induction l with
  | nil => exact h
  | cons x xs ih =>
    unfold markFirst
    split
    · rcases List.mem_cons.mp h with rfl | h
      · exact List.mem_cons.mpr (.inl (by cases e; simp_all))
      · exact List.mem_cons_of_mem _ h
    · rcases List.mem_cons.mp h with rfl | h
      · exact List.mem_cons_self
      · exact List.mem_cons_of_mem _ (ih h)

/-- The next read begins, if one can, and the list stays as it is (R42). -/
theorem State.startRead_kept (s : State) : ListKept s s.startRead
    ∧ s.startRead = { s with scanner := { s.scanner with list := s.startRead.scanner.list } } := by
  unfold State.startRead
  split
  · exact ⟨⟨rfl, fun e he _ => he⟩, rfl⟩
  · exact ⟨⟨markFirst_unread _ _, fun e he hr => mem_markFirst he hr⟩, rfl⟩

/-- A sweep in progress ends, with its notice, exactly when no SWEEP entry is left (R45). -/
theorem State.sweepCheck_eq (s : State) : s.sweepCheck =
    if s.scanner.sweeping = true ∧ ∀ e ∈ s.scanner.list, e.cls ≠ .sweep then
      { s.noted [{ kind := .sweepDone, minute := s.present, detailB := s.unknownCount }] with
        scanner := { s.scanner with sweeping := false } }
    else s := by
  have h : (s.scanner.sweeping && !(s.scanner.list.any fun e => e.cls == .sweep)) = true
      ↔ s.scanner.sweeping = true ∧ ∀ e ∈ s.scanner.list, e.cls ≠ .sweep := by
    simp
  unfold State.sweepCheck
  simp only [h]
  split <;> rfl

/-- A SWEEP request for a compartment: met by the entry it holds, else one SWEEP entry at the tail, and a
compartment in LOCKED goes to SCANNING (R17, R41). -/
theorem State.requestSweep_queued (s : State) (n : CompId) :
    (s.scanner.holds n = true → s.requestSweep n = s)
      ∧ (s.scanner.holds n = false → SweepQueued s (s.requestSweep n) [n]) := by
  unfold State.requestSweep
  refine ⟨fun h => if_pos h, fun h => ?_⟩
  rw [if_neg (by simp [h])]
  dsimp only
  split
  · next hd =>
    refine ⟨by simp [State.withScanner, State.modifyComp, ScanEntry.unread, State.withCompartments],
      fun e he _ => List.mem_append_left _ he, fun m => ?_⟩
    by_cases hm : m = n
    · subst hm
      rw [State.modifyComp_comp_self, if_pos ⟨List.mem_singleton_self _, hd⟩]; rfl
    · rw [State.modifyComp_comp_ne _ _ (Ne.symm hm), if_neg (by simp [hm])]; rfl
  · next hd =>
    refine ⟨by simp [State.withScanner, ScanEntry.unread], fun e he _ => List.mem_append_left _ he, fun m => ?_⟩
    rw [if_neg]
    · rfl
    · rintro ⟨hm, hd'⟩
      obtain rfl := List.mem_singleton.mp hm
      exact hd hd'

end Sys2Proof.Machine
end

