-- ==== Sys2Proof/Laws/Endings.lean ====
section
/-! SUPPORT. The end of a release before its door opens: what telling its owner can touch, what the end does to the
compartment, and when a cancel is refused (R18, R19, R22, R30, R72, R77, R90). -/

namespace Sys2Proof.Machine

/-! ### What telling an owner leaves alone -/

/-- Writing a contract's record writes the contract table alone. -/
theorem State.modifyContract_frame (s : State) (number : Nat) (f : Contract → Contract) :
    s.modifyContract number f = { s with contracts := (s.modifyContract number f).contracts } := by
  unfold State.modifyContract
  split <;> rfl

/-- A fallen-back pickup writes its contract and the notices alone (R72). -/
theorem State.fallBack_frame (s : State) (number : Nat) (k : KeyId) (n : CompId) (x : FailReason) :
    s.fallBack number k n x = { s with
      contracts := (s.fallBack number k n x).contracts, notices := (s.fallBack number k n x).notices } := by
  generalize ht : s.fallBack number k n x = t
  unfold State.fallBack at ht
  split at ht
  · subst ht; rfl
  · split at ht
    · dsimp only at ht
      rw [State.modifyContract_frame] at ht
      split at ht <;> (subst ht; rfl)
    · subst ht; rfl

/-- A failed pickup writes its contract, its key, the availability lists and the notices alone (R72). -/
theorem State.pickupFailed_frame (s : State) (number : Nat) (k : KeyId) (n : CompId) (x : FailReason) :
    s.pickupFailed number k n x = { s with
      contracts := (s.pickupFailed number k n x).contracts, keys := (s.pickupFailed number k n x).keys
      notices := (s.pickupFailed number k n x).notices } := by
  generalize ht : s.pickupFailed number k n x = t
  unfold State.pickupFailed at ht
  split at ht
  · rw [State.reexamine_frame, State.fallBack_frame] at ht
    subst ht; rfl
  · subst ht; rfl

/-- A failed return writes its contract and the notices alone (R77). -/
theorem State.returnFailed_frame (s : State) (number : Nat) (k : KeyId) (n : CompId) (x : FailReason) :
    s.returnFailed number k n x = { s with
      contracts := (s.returnFailed number k n x).contracts
      notices := (s.returnFailed number k n x).notices } := by
  generalize ht : s.returnFailed number k n x = t
  unfold State.returnFailed at ht
  split at ht
  · rw [State.modifyContract_frame] at ht
    subst ht; rfl
  · subst ht; rfl

/-- Telling an owner writes contracts, keys, notices and the kiosk, and no compartment, queue or channel. -/
theorem State.tellEnded_frame (s : State) (n : CompId) (r : Release) (o : ReleaseOutcome)
    (named : CompId) :
    s.tellEnded n r o named = { s with
      contracts := (s.tellEnded n r o named).contracts, keys := (s.tellEnded n r o named).keys
      notices := (s.tellEnded n r o named).notices, kiosk := (s.tellEnded n r o named).kiosk } := by
  generalize ht : s.tellEnded n r o named = t
  unfold State.tellEnded at ht
  split at ht
  · rw [State.pickupFailed_frame] at ht
    subst ht; rfl
  · rw [State.returnFailed_frame] at ht
    subst ht; rfl
  · subst ht; rfl
  · subst ht; rfl

/-! ### The compartment and the queue -/

/-- The end of a release takes its record, with the reservation of a RETURN, from its compartment, and touches no
other compartment, no queue and no channel (R18, R19). -/
theorem State.endRelease_compartments (s : State) (n : CompId) (o : ReleaseOutcome) (named : CompId) :
    (s.endRelease n o named).compartments
        = { s.compartments with table := s.compartments.table.modify n Compartment.withoutRelease }
      ∧ (s.endRelease n o named).scanner = s.scanner ∧ (s.endRelease n o named).drop = s.drop
      ∧ (s.endRelease n o named).link = s.link ∧ (s.endRelease n o named).store = s.store := by
  unfold State.endRelease
  dsimp only
  split
  · rw [State.tellEnded_frame]
    exact ⟨rfl, rfl, rfl, rfl, rfl⟩
  · exact ⟨rfl, rfl, rfl, rfl, rfl⟩

/-- A freed channel: the compartment's window timer stops, every other compartment and the queue stay (R22, R32). -/
theorem State.freeChannel_spec (s : State) (n : CompId) :
    (s.freeChannel n).comp n = { s.comp n with window := none }
      ∧ (∀ m, m ≠ n → (s.freeChannel n).comp m = s.comp m)
      ∧ (s.freeChannel n).compartments.queue = s.compartments.queue
      ∧ (s.freeChannel n).compartments.channel1
        = (if s.compartments.channel1 = some n then none else s.compartments.channel1)
      ∧ (s.freeChannel n).compartments.channel2
        = (if s.compartments.channel2 = some n then none else s.compartments.channel2)
      ∧ s.freeChannel n = { s with compartments := (s.freeChannel n).compartments } := by
  refine ⟨?_, fun m hm => ?_, rfl, rfl, rfl, rfl⟩
  · rw [State.freeChannel, State.modifyComp_comp_self]; rfl
  · rw [State.freeChannel, State.modifyComp_comp_ne _ _ (Ne.symm hm)]; rfl

/-- When a cancel is refused, and what it does when it is taken: the request leaves the queue, or the channel is freed
and the arbiter grants; the door closes on the scan list and the release ends CANCELLED (R30). -/
theorem State.cancelRelease_cases (s : State) (n named : CompId) :
    ((s.comp n).door ≠ .waiting → (s.comp n).door ≠ .unlatched → s.cancelRelease n named = none)
      ∧ ((s.comp n).door = .waiting → s.cancelRelease n named = some
        ((({ s with compartments := { s.compartments with
            queue := s.compartments.queue.filter (· != n) } } : State).modifyComp n fun c =>
          { c with door := s.lockedDoor n }).endRelease n .cancelled named))
      ∧ ((s.comp n).door = .unlatched → s.cancelRelease n named = some
        ((((s.freeChannel n).modifyComp n fun c =>
          { c with door := s.lockedDoor n }).arbitrate).endRelease n .cancelled named)) := by
  refine ⟨fun h1 h2 => ?_, fun h => ?_, fun h => ?_⟩
  · cases hd : (s.comp n).door <;> simp_all [State.cancelRelease]
  · rw [State.cancelRelease, h]; rfl
  · rw [State.cancelRelease, h]

end Sys2Proof.Machine
end

