-- ==== Sys2Proof/Laws/Line.lean ====
section
/-! SUPPORT. What completing a request's frame does, said once for every request (R170-R175): `pushReply` queues one
reply and may let an idle transmitter begin; `request` discards, refuses or takes. -/

namespace Sys2Proof.Machine

/-- A reply joins the tail of the reply queue, and the transmitter may begin a frame (R173, R175). -/
theorem State.pushReply_sent (s : State) (r : Reply) :
    Sent { s with link := { s.link with replies := s.link.replies ++ [r] } } (s.pushReply r) :=
  State.transmit_sent _

/-- A part without power takes no request (log 4). -/
theorem State.request_unpowered {s : State} (h : s.powered = false) (kind tg : Byte) (f : Handler) :
    s.request kind tg f = .next s := by
  simp [State.request, State.taken, h]

/-- A frame with TAG 0, or one that meets a full reply queue, is discarded (R171-R173). -/
theorem State.request_discarded {s : State} {tg : Byte} (h : s.powered = true)
    (hd : tg = 0 ∨ 4 ≤ s.link.replies.length) (kind : Byte) (f : Handler) :
    s.request kind tg f = .next s.frameLost := by
  simp only [State.request, State.taken, h, if_true, State.deliver, if_pos hd]
  rfl

/-- Every request on a part that serves it, by its handler's answer: a refusal is one status byte and changes
nothing else; a taken request leaves the handler's state with its reply queued (R172). -/
theorem State.request_served {s : State} {tg : Byte} (h : s.serves tg) (kind : Byte) (f : Handler) :
    (∀ e, f s.frameEnd = .error e → ∃ t, s.request kind tg f = .next t
        ∧ Refused s t (kind + 0x80) tg e.code)
      ∧ ∀ u, f s.frameEnd = .ok u → ∃ t, s.request kind tg f = .next t
        ∧ Sent { u.state with link := { u.state.link with
            replies := u.state.link.replies ++ [u.reply (kind + 0x80) tg] } } t := by
  obtain ⟨hp, ht, hr⟩ := h
  have hd : ¬ (tg = 0 ∨ 4 ≤ s.link.replies.length) := by
    rintro (h | h)
    · exact ht h
    · omega
  have hq : s.request kind tg f = .next (s.deliver (kind + 0x80) tg f) := by
    simp only [State.request, State.taken, hp, if_true]
  refine ⟨fun e he => ⟨_, hq, ?_⟩, fun u hu => ⟨_, hq, ?_⟩⟩
  · simp only [State.deliver, if_neg hd, he]; exact State.pushReply_sent _ _
  · simp only [State.deliver, if_neg hd, hu]; exact State.pushReply_sent _ _

/-- A body of another length is refused BAD_FORMAT, before any other check (R172 step 5). -/
theorem expectLength_refuses {body : List Byte} {n : Nat} (h : body.length ≠ n) (f : Handler) (s : State) :
    expectLength body n f s = .error .badFormat := if_neg h

theorem expectLength_passes {body : List Byte} {n : Nat} (h : body.length = n) (f : Handler) (s : State) :
    expectLength body n f s = f s := if_pos h

/-- `concluded` brings the causes to the records, as `settle` does, and leaves the transmitter for the reply. -/
theorem State.concluded_ok (s : State) : s.concluded.AttentionOk := s.scanStep.attend_ok

theorem State.concluded_tx (s : State) : s.concluded.link.tx = s.scanStep.link.tx := rfl

end Sys2Proof.Machine
end

