-- ==== Sys2Proof/Laws/Queues.lean ====
section
/-! SUPPORT. The queues and the sorted index: what entering a notice, recomputing the flap, entering a pickup code and
a tick's free order can do, each said once (R58, R102, R157, R183). -/

namespace Sys2Proof.Machine

/-! ### The notice ring (R157) -/

/-- A notice joins the tail with the next number while the ring has room, and is lost to the overflow flag at a full
ring. -/
theorem NoticeUnit.enter_cases (u : NoticeUnit) (b : NoticeBody) :
    (u.ring.length < 128 → u.enter b = { u with
        ring := u.ring ++ [⟨u.nextSeq, b⟩], nextSeq := (u.nextSeq + 1) % 65536 })
      ∧ (128 ≤ u.ring.length → u.enter b = { u with overflow := true }) := by
  unfold NoticeUnit.enter
  exact ⟨fun h => if_pos h, fun h => if_neg (by omega)⟩

/-- Entering a notice keeps the ring's law. -/
theorem NoticeUnit.enter_ok {u : NoticeUnit} (h : u.RingOk) (b : NoticeBody) : (u.enter b).RingOk := by
  unfold NoticeUnit.enter
  split
  · next hl =>
    obtain ⟨h1, h2, h3⟩ := h
    refine ⟨by simp; omega, Nat.mod_lt _ (by decide), fun i hi => ?_⟩
    simp only [List.length_append, List.length_singleton] at hi
    by_cases hlt : i < u.ring.length
    · obtain ⟨h4, h5⟩ := h3 i hlt
      simp only [List.getElem_append_left hlt, List.length_append, List.length_singleton]
      exact ⟨h4, by omega⟩
    · obtain rfl : i = u.ring.length := by omega
      simp only [List.getElem_append_right (Nat.le_refl _), Nat.sub_self, List.getElem_singleton,
        List.length_append, List.length_singleton]
      exact ⟨h2, by omega⟩
  · exact h

/-- Entering notices changes no other field of the state. -/
theorem State.enter_noted (s : State) (b : NoticeBody) : s.enter b = s.noted [b] := rfl

/-! ### The flap (R102) -/

/-- The flap is OPEN exactly in UNSTAFFED with room in the list and the staff door closed. -/
theorem flapFor_opened (mode : BranchMode) (count : Nat) (door : StaffDoor) :
    flapFor mode count door = .opened ↔ mode = .unstaffed ∧ count < 48 ∧ door = .closed := by
  unfold flapFor
  split
  · next h => simp [h]
  · next h => simp [h]

/-! ### The pickup-code index (R58) -/

theorem mem_insertCode {code : Nat} {sl : Slot} {l : List (Nat × Slot)} {p : Nat × Slot} :
    p ∈ insertCode code sl l ↔ p = (code, sl) ∨ p ∈ l := by
  induction l with
  | nil => simp [insertCode]
  | cons x xs ih =>
    unfold insertCode
    split
    · simp only [List.mem_cons, ih]; tauto
    · simp

/-- A code that no entry carries keeps the index in its order. -/
theorem insertCode_sorted {code : Nat} {sl : Slot} {l : List (Nat × Slot)}
    (h : l.Pairwise fun a b => a.1 < b.1) (hn : ∀ p ∈ l, p.1 ≠ code) :
    (insertCode code sl l).Pairwise fun a b => a.1 < b.1 := by
  induction l with
  | nil => simp [insertCode]
  | cons x xs ih =>
    obtain ⟨h1, h2⟩ := List.pairwise_cons.mp h
    have hx := hn x List.mem_cons_self
    unfold insertCode
    split
    · next hlt =>
      refine List.pairwise_cons.mpr ⟨fun p hp => ?_, ih h2 fun p hp => hn p (List.mem_cons_of_mem _ hp)⟩
      rcases mem_insertCode.mp hp with rfl | hp
      · exact hlt
      · exact h1 p hp
    · refine List.pairwise_cons.mpr ⟨fun p hp => ?_, h⟩
      rcases List.mem_cons.mp hp with rfl | hp
      · dsimp only; omega
      · have := h1 p hp
        dsimp only; omega

/-- With the codes in rising order the index maps a code to its one slot. -/
theorem ContractTable.codeSlot_iff {t : ContractTable} (h : t.codes.Pairwise fun a b => a.1 < b.1)
    {code : Nat} {sl : Slot} : t.codeSlot code = some sl ↔ (code, sl) ∈ t.codes := by
  unfold ContractTable.codeSlot
  generalize t.codes = l at h
  induction l with
  | nil => simp
  | cons x xs ih =>
    obtain ⟨h1, h2⟩ := List.pairwise_cons.mp h
    by_cases hx : x.1 = code
    · have : ∀ sl', (code, sl') ∉ xs := fun sl' hm => by have := h1 _ hm; simp [hx] at this
      rw [List.find?_cons_of_pos (by simpa using hx)]
      constructor
      · intro he
        have he' : x.2 = sl := by simpa using he
        exact List.mem_cons.mpr (.inl (Prod.ext hx.symm he'.symm))
      · intro hm
        rcases List.mem_cons.mp hm with rfl | hm
        · rfl
        · exact absurd hm (this sl)
    · rw [List.find?_cons_of_neg (by simpa using hx), ih h2, List.mem_cons]
      constructor
      · exact .inr
      · rintro (rfl | hm)
        · exact absurd rfl hx
        · exact hm

/-! ### The free order of a tick's expiries (R183) -/

theorem insertByRank_perm (r : Instr → Nat) (c : Instr) (l : List Instr) :
    (insertByRank r c l).Perm (c :: l) := by
  induction l with
  | nil => exact .rfl
  | cons x xs ih =>
    unfold insertByRank
    split
    · exact .rfl
    · exact (ih.cons x).trans (List.Perm.swap c x xs)

/-- Ordering a tick's expiries loses none and adds none. -/
theorem orderFreely_perm (r : Instr → Nat) (cs : List Instr) : (orderFreely r cs).Perm cs := by
  induction cs with
  | nil => exact .rfl
  | cons c cs ih => exact (insertByRank_perm r c _).trans (ih.cons c)

/-- A tick puts into the queue exactly the expiries of its timers, in an order that is free. -/
theorem State.tick_pending {s : State} (h : s.powered = true) :
    ∃ es, es.Perm s.expiries ∧ s.tick.pending = s.pending ++ es := by
  unfold State.tick
  rw [if_pos h]
  split
  · next he => exact ⟨[], by rw [he], by simp [State.countAll]⟩
  · next c he => exact ⟨[c], by rw [he], rfl⟩
  · exact ⟨_, orderFreely_perm _ _, rfl⟩

end Sys2Proof.Machine
end

