-- ==== Sys2Proof/Tests/Slice0.lean ====
section
/-! SUPPORT. The author's tests: ill-formed commands, one small step for every command with the expected result
worked from the manual, and for each statement with hypotheses a state that meets them. -/

open Sys2Proof Sys2Proof.Machine

namespace Sys2Proof.Tests

set_option Elab.async false

/-! ### A small part that meets every law -/

/-- A compartment at rest with these contents. -/
def rest (items : List Item) : Compartment := { Compartment.cold with
  door := .locked, known := true, contents := items }

def keyAt (tag : Nat) (loc : Location) : KeyRecord :=
  ⟨tag, [0x41, 0x42], 0, .auto, .petrol, 5, loc, .checked, false, none, 5⟩

def booking (number : Nat) (state : ContractState) (code : Option Nat) (key : Option KeyId) : Contract :=
  ⟨number, state, .cls 0 none none 0 0, code, none, none, 2000, none, key, key.map fun _ => 0, none, none,
    none, .none, 0, 0, none⟩

/-- A table with the first places given. -/
def firstRows {α : Type} {n : Nat} (t : Table α n) (rows : List (Fin n × α)) : Table α n :=
  rows.foldl (fun t x => t.set x.1 x.2) t

/-- Doors locked, contents known, the clock at 1,000: key 0 in compartment 1 and in its list, key 1 OUT with contract
8, key 2 in the drop box, key 3 in staff's hand; tickets 7 and (suspended) 10, a closed contract 9. -/
def hall : State := { State.reset with
  compartments := { table := firstRows (.replicate 192 (rest [])) [(0, rest [.key 0])]
                    queue := [], channel1 := none, channel2 := none }
  scanner := ⟨[], false⟩
  keys := { places := firstRows (.replicate 384 none)
              [(0, some (keyAt 1001 (.compartment 0))), (1, some (keyAt 1002 (.out 8))),
                (2, some (keyAt 1003 .drop)), (3, some (keyAt 1004 .staffHand))]
            lists := (Table.replicate 16 []).set 0 [0] }
  contracts := { slots := firstRows (.replicate 512 none)
                   [(0, some (booking 7 .ticket (some 123456) none)),
                     (1, some (booking 8 .out none (some 1))),
                     (2, some (booking 9 .closed (some 222222) none)),
                     (3, some (booking 10 .suspended (some 333333) none))]
                 codes := [(123456, 0), (333333, 3)] }
  drop := { entries := [⟨some 1003, some 2, none, none⟩], flap := .locked, staffDoor := .closed }
  overdue := { State.reset.overdue with
    clock := .running, value := 1000, counts := ⟨1, 0, 0, 0, 0⟩ } }

/-- The cabinet at work: compartments 1 and 2 UNLATCHED under the pickup of contract 11 and a STAFF release, 3 WAITING
under the return of contract 12, 4 OPEN under a LINK release, 5 LEFT_OPEN, 6 FORCED_OPEN, `seven` being read with
what its entry carries, 8 UNKNOWN with a SWEEP entry. Key 6 is in compartment 7's records when its contents list it. -/
def busy (seven : Compartment) (carried : Carried) (key0 key6 : Location) (eleven : Contract)
    (thirteen : ContractState := .closed) : State := { hall with
  compartments := {
    table := firstRows (.replicate 192 (rest []))
      [(0, { rest (if key0 = .compartment 0 then [.key 0] else []) with
          door := .unlatched, window := some 9
          release := some ⟨if key0 = .compartment 0 then .pickup 11 0 else .link, .kiosk⟩ }),
        (1, { rest [] with door := .unlatched, window := some 9, release := some ⟨.staff 5, .kiosk⟩ }),
        (2, { rest [] with
          door := .waiting, release := some ⟨.ret 12 4, .kiosk⟩, reservation := some 12 }),
        (3, { rest [] with door := .opened, hold := some 9, release := some ⟨.link, .link⟩ }),
        (4, { rest [] with door := .leftOpen }), (5, { rest [] with door := .forcedOpen, forced := true }),
        (6, { seven with door := .scanning }), (7, { rest [] with door := .unknown, known := false })]
    queue := [2], channel1 := some 0, channel2 := some 1 }
  scanner := ⟨[⟨6, .door, carried, true⟩, ⟨7, .sweep, .nothing, false⟩], false⟩
  keys := { places := firstRows (.replicate 384 none)
              [(0, some { keyAt 1001 key0 with promisedTo := some 11 }),
                (4, some (keyAt 1005 (.out 12))), (6, some (keyAt 1007 key6))]
            lists := .replicate 16 [] }
  contracts := { slots := firstRows (.replicate 512 none)
                   [(4, some eleven), (5, some (booking 12 .returning none (some 4))),
                     (6, some (booking 13 thirteen none (some 6)))]
                 codes := [(444444, 4)] }
  drop := { entries := [], flap := .locked, staffDoor := .closed } }

/-- `busy` with compartment 7's key under a STAFF release being read. -/
def working : State :=
  busy { rest [.key 6] with release := some ⟨.staff 5, .kiosk⟩ } .release (.compartment 0)
    (.compartment 6) (booking 11 .picking (some 444444) (some 0))

theorem hall_cabinet : hall.CabinetOk := cabinetOk_of_checks (by decide +kernel)
theorem hall_index : hall.IndexOk := indexOk_of_check (by decide +kernel)
theorem hall_contracts : hall.ContractsOk := ⟨hall_index, rentalOk_of_check (by decide +kernel)⟩
theorem hall_location : hall.LocationOk := locationOk_of_check (by decide +kernel)
theorem working_cabinet : working.CabinetOk := cabinetOk_of_checks (by decide +kernel)
theorem working_contracts : working.ContractsOk :=
  ⟨indexOk_of_check (by decide +kernel), rentalOk_of_check (by decide +kernel)⟩
theorem working_location : working.LocationOk := locationOk_of_check (by decide +kernel)

theorem hall_key0 : hall.key 0 = some (keyAt 1001 (.compartment 0)) := by decide +kernel
theorem hall_list (g : Group) : hall.keys.lists.get g = if g = 0 then [0] else [] := by
  simp only [hall, Table.get_set, Table.get_replicate, eq_comm]

theorem hall_mayBeListed : MayBeListed hall 0 (keyAt 1001 (.compartment 0)) := by
  refine ⟨⟨0, rfl, by decide +kernel⟩, rfl, rfl, rfl, fun sl c h => ?_⟩
  have : hall.occupied.all (fun x => !x.2.claims 0) = true := by decide +kernel
  simpa using List.all_eq_true.mp this _ (mem_occupied.mpr h)

theorem hall_avail : hall.AvailOk := by
  intro g
  rw [hall_list]
  split
  · next h =>
    refine ⟨by simp, fun k hk => ?_⟩
    obtain rfl := List.mem_singleton.mp hk
    exact ⟨_, hall_key0, h ▸ rfl, hall_mayBeListed⟩
  · simp

theorem hall_lawful : hall.Lawful := by
  refine ⟨?_, ⟨rfl, ?_⟩, ?_, hall_cabinet, hall_contracts, hall_location⟩
  · unfold NoticeUnit.RingOk; decide +kernel
  · decide +kernel
  · unfold State.DropOk; decide +kernel

theorem hall_serves : hall.serves 1 := ⟨rfl, by decide, by decide⟩
theorem working_serves : working.serves 1 := ⟨rfl, by decide, by decide⟩

theorem forall_slot {s : State} {p : Contract → Bool} (h : (s.occupied.all fun x => p x.2) = true)
    (sl : Slot) (c : Contract) (hc : s.slot sl = some c) : p c = true :=
  List.all_eq_true.mp h _ (mem_occupied.mpr hc)

theorem forall_key {s : State} {p : KeyRecord → Bool} (h : (s.enrolled.all fun x => p x.2) = true)
    (k : KeyId) (r : KeyRecord) (hr : s.key k = some r) : p r = true :=
  List.all_eq_true.mp h _ (mem_enrolled.mpr hr)

/-! ### Ill-formed commands are refused by `wf` -/

theorem test_wf_tagZero : (Instr.status 0 []).wf = false := by decide
theorem test_wf_bodyTooLong : (Instr.issue 1 (List.replicate 199 0)).wf = false := by decide +kernel
theorem test_wf_bodyLongest : (Instr.issue 1 (List.replicate 198 0)).wf = true := by decide +kernel
theorem test_wf_knownKind : (Instr.unknownKind 0x10 1 []).wf = false := by decide
theorem test_wf_unknownKind : (Instr.unknownKind 0x07 1 []).wf = true := by decide
theorem test_wf_soundFrame : (Instr.frameDiscard 2 0x01 0x07 [] 0xF6).wf = false := by decide
theorem test_wf_lenMismatch : (Instr.frameDiscard 3 0x01 0x07 [] 0xF5).wf = false := by decide
theorem test_wf_brokenFrame : (Instr.frameDiscard 2 0x01 0x07 [] 0xF5).wf = true := by decide
theorem test_wf_goodLength : (Instr.badLength 2).wf = false := by decide
theorem test_wf_badLength : (Instr.badLength 201).wf = true := by decide
theorem test_wf_foundTooMany : (Instr.scanCompletion ⟨6, [1, 2, 3, 4, 5]⟩).wf = false := by decide
theorem test_wf_foundTwice : (Instr.scanCompletion ⟨6, [7, 7]⟩).wf = false := by decide
theorem test_wf_foundTagZero : (Instr.scanCompletion ⟨6, [0]⟩).wf = false := by decide
theorem test_wf_padTagTooLarge : (Instr.tagAtPad 1099511627776).wf = false := by decide
theorem test_wf_padTagLargest : (Instr.tagAtPad 1099511627775).wf = true := by decide
theorem test_wf_badgeZero : (Instr.badgePresented 0).wf = false := by decide
theorem test_wf_badgeTooLarge : (Instr.badgePresented 4294967296).wf = false := by decide
theorem test_wf_chuteTagZero : (Instr.chuteRead (some 0)).wf = false := by decide
theorem test_wf_chuteUnread : (Instr.chuteRead none).wf = true := by decide

/-! ### Words: the table gives no row any bits -/

theorem test_noWordSpellsACommand : decodeTableWord 8 0x01 = none := rfl
theorem test_fetchWordChangesNothing : State.reset.withFetchWord 8 0x01 = State.reset := rfl

/-! ### One step of every command -/

/-- The state a command leaves. -/
def after (c : Instr) (s : State) : State :=
  match exec c s with
  | .next t => t
  | .fault _ => s
  | .refused _ => s

/-- The body of the newest reply after a command. -/
def answer (c : Instr) (s : State) : List Byte :=
  (((after c s).link.replies.getLast?).map Reply.body).getD []

/-- The kinds of the notices a command enters, with their details A and B. -/
def entered (c : Instr) (s : State) : List (NoticeKind × Nat × Nat) :=
  ((after c s).notices.ring.drop s.notices.ring.length).map fun x =>
    (x.body.kind, x.body.detailA, x.body.detailB)

/-- `hall` with the kiosk in a state. -/
def kioskIn (k : Kiosk) : State := { hall with kiosk := k }
def atKiosk (m : KioskMode) : Kiosk := { Kiosk.start with mode := m }

/-- The line busy with an attention frame, so that the transmitter makes no choice. -/
def sending (s : State) : State := { s with link := { s.link with tx := .attention ⟨0xFE, 0, [0]⟩ } }

-- R177: state, clock and value come first.
theorem test_status : (answer (.status 7 []) hall).take 9 = [0, 0, 2, 0, 0, 3, 0xE8, 191, 1] := by
  decide +kernel
theorem test_statusClearsError :
    (after (.status 7 []) { hall with link := { hall.link with error := true } }).link.error = false := by
  decide +kernel
-- R115's example.
theorem test_setClock : answer (.setClock 3 [0x00, 0x0C, 0x63, 0xEE])
    { hall with overdue := { hall.overdue with clock := .stale, value := 811950 } }
      = [0, 1, 0x00, 0x0C, 0x63, 0xAE] := by decide +kernel
theorem test_setClockScan :
    (after (.setClock 3 [0x00, 0x0C, 0x63, 0xEE]) hall).overdue.scan.minute = 812014 := by decide +kernel
-- R148's example.
theorem test_setMode : answer (.setMode 3 [1]) hall = [0, 0, 0] := by decide +kernel
theorem test_setModeTooLarge : answer (.setMode 3 [3]) hall = [4] := by decide +kernel
theorem test_restart : (after (.restart 3 []) hall).startPending = some false := by decide +kernel
theorem test_purge : (after (.purge 3 []) hall).startPending = some true := by decide +kernel
theorem test_timebase : answer (.timebase 3 [0x39, 0x9A]) hall = [0, 0x27, 0x10] := by decide +kernel
theorem test_timebaseTooSmall : answer (.timebase 3 [0x07, 0xCF]) hall = [4] := by decide +kernel

theorem test_keyEnrol : answer (.keyEnrol 3
    [0, 0, 0, 3, 0xED, 0x41, 0x42, 0x20, 0x20, 0x20, 0x20, 0x20, 0x20, 1, 0, 0, 5]) hall = [0, 0, 4] := by
  decide +kernel
theorem test_keyEnrolTagHeld : answer (.keyEnrol 3
    [0, 0, 0, 3, 0xE9, 0x41, 0x42, 0x20, 0x20, 0x20, 0x20, 0x20, 0x20, 1, 0, 0, 5]) hall = [7] := by
  decide +kernel
theorem test_keyEdit : (after (.keyEdit 3
    [0, 0, 0x41, 0x42, 0x20, 0x20, 0x20, 0x20, 0x20, 0x20, 1, 0, 0, 5]) hall).keys.lists.get 1 = [0] := by
  decide +kernel
theorem test_keyRemove : (after (.keyRemove 3 [0, 3]) hall).key 3 = none := by decide +kernel
theorem test_keyRemoveInCompartment : answer (.keyRemove 3 [0, 0]) hall = [11] := by decide +kernel
theorem test_keyQuery : (answer (.keyQuery 3 [0, 0, 0]) hall).take 8 = [0, 0, 0, 0, 0, 0, 3, 0xE9] := by
  decide +kernel
theorem test_keyHoldLeavesTheList : (after (.keyHold 3 [0, 0, 1]) hall).keys.lists.get 0 = [] := by
  decide +kernel
theorem test_keyChecked : (((after (.keyChecked 3 [0, 0])
    (hall.modifyKey 0 fun r => { r with mark := .unchecked })).key 0).map KeyRecord.mark)
      = some .checked := by decide +kernel
theorem test_availQuery : answer (.availQuery 3 [0, 0]) hall = [0, 0, 1, 0, 1, 0, 0, 1, 0, 0, 0, 5] := by
  decide +kernel

/-- ISSUE of contract 20, CLASS A with any wish, no code, no window, due at 2,000. -/
def issueBody : List Byte :=
  [0, 0, 0, 20, 1, 0, 2, 4, 0, 0] ++ List.replicate 14 0 ++ [0, 0, 7, 0xD0, 0, 0, 0]
theorem test_issue : answer (.issue 3 issueBody) hall = [0, 0, 4] := by decide +kernel
theorem test_issueNumberHeld : answer (.issue 3 ([0, 0, 0, 8] ++ issueBody.drop 4)) hall = [7] := by
  decide +kernel
theorem test_amend : (((after (.amend 3
    ([0, 0, 0, 7] ++ List.replicate 17 0 ++ [1, 0, 0, 0x0B, 0xB8, 0, 0, 0, 0])) hall).slot 0).map
      Contract.due) = some 3000 := by decide +kernel
theorem test_handout : answer (.handout 3 [0, 0, 0, 7, 0, 0, 0]) hall = [1, 0, 0, 1, 0, 0] := by
  decide +kernel
theorem test_handoutOfSuspended : answer (.handout 3 [0, 0, 0, 10, 0, 0, 0]) hall = [11] := by
  decide +kernel
theorem test_cancel : (after (.cancel 3 [0, 0, 0, 7]) hall).contracts.codes = [(333333, 3)] := by
  decide +kernel
theorem test_resume : (((after (.resume 3 [0, 0, 0, 10]) hall).slot 3).map Contract.state)
    = some .ticket := by decide +kernel
theorem test_forceClose : entered (.forceClose 3 [0, 0, 0, 8]) (sending hall) = [(.returnDone, 30, 0)] := by
  decide +kernel
theorem test_retire : (after (.retire 3 [0, 0, 0, 9]) hall).slot 2 = none := by decide +kernel
theorem test_retireOut : answer (.retire 3 [0, 0, 0, 8]) hall = [11] := by decide +kernel
theorem test_contractQuery : (answer (.contractQuery 3 [0, 0, 0, 8]) hall).take 8
    = [0, 0, 1, 0, 0, 0, 8, 3] := by decide +kernel
theorem test_listLate : answer (.listLate 3 [0, 0, 0]) hall
    = [0, 1, 0xFF, 0xFF, 0, 1, 0, 0, 0, 8, 0, 1, 0, 0, 0, 7, 0xD0] := by decide +kernel

theorem test_open : answer (.openRelease 3 [63]) hall = [1, 0] := by decide +kernel
-- R34's example: both channels busy and one renter waits.
theorem test_openWaits : answer (.openRelease 3 [63]) working = [1, 1] := by decide +kernel
theorem test_cancelRelease : answer (.cancelRelease 3 [3]) (sending working) = [0, 1, 0] := by decide +kernel
theorem test_service : (((after (.service 3 [1, 1]) hall).comp 0).service, (after (.service 3 [1, 1])
    hall).keys.lists.get 0) = (.outOfService, []) := by decide +kernel
theorem test_compartmentQuery : (answer (.compartmentQuery 3 [1]) hall).take 10
    = [0, 1, 1, 0, 0, 1, 0, 1, 0, 0] := by decide +kernel
theorem test_rescan : answer (.rescan 3 [1]) hall = [1, 1] := by decide +kernel
theorem test_rescanAll : (after (.rescan 3 [0xFF]) hall).scanner.list.length = 192 := by decide +kernel

theorem test_dropQuery : (answer (.dropQuery 3 [0]) hall).take 9 = [0, 1, 1, 0, 0, 1, 1, 0, 0] := by
  decide +kernel
theorem test_dropEmptied : (answer (.dropEmptied 3 []) hall, ((after (.dropEmptied 3 []) hall).key 2).map
    KeyRecord.location) = ([0, 1], some .staffHand) := by decide +kernel
theorem test_fetch : (answer (.fetch 3 []) hall).take 9 = [0, 1, 0, 0, 1, 1, 0, 0, 25] := by
  decide +kernel
theorem test_consume : answer (.consume 3 [0, 0]) hall = [0, 1, 0] := by decide +kernel
theorem test_consumeNotHeld : answer (.consume 3 [0, 1]) hall = [5] := by decide +kernel
theorem test_attentionQuery : answer (.attentionQuery 3 []) hall = List.replicate 17 0 := by
  decide +kernel
-- R161's example: a renter waits in CALLING while a door stands left open.
theorem test_acknowledge : answer (.acknowledge 3 [6]) (sending { kioskIn (atKiosk .calling) with
      compartments := { hall.compartments with
        table := hall.compartments.table.set 5 { rest [] with door := .leftOpen } }
      notices := { hall.notices with callLatch := true, pending := [.doorLeftOpen, .staffCall] } })
    = [0, 2] := by decide +kernel
theorem test_acknowledgeFollowsItsCondition : answer (.acknowledge 3 [2]) hall = [11] := by
  decide +kernel
-- C 192, Occ 1, Dq 1, P_start 2, not short.
theorem test_forecastQuery : (answer (.forecastQuery 3 []) hall).take 13
    = [0, 0, 0, 3, 0xE8, 8, 192, 1, 1, 2, 0, 0xFF, 0] := by decide +kernel
theorem test_storeRead : answer (.storeRead 3 [1, 4]) hall
    = [0, 1, 4, 0, 0, 30, 60, 0, 180, 5, 0xA0, 0, 240, 0] := by decide +kernel
-- R181's example: T2 1,440 and T3 180.
theorem test_storeStageBadValue :
    answer (.storeStage 3 [1, 2, 0, 45, 60, 5, 0xA0, 0, 180, 0, 240, 1]) hall = [4] := by decide +kernel
theorem test_storeStage : (after (.storeStage 3 [2, 3, 1, 0, 3]) hall).store.staging
    = some (.panel 2 ⟨true, false, 3⟩) := by decide +kernel
/-- `hall` with panel 5 staged. -/
def staged : State := { hall with store := { hall.store with staging := some (.panel 4 ⟨true, true, 2⟩) } }
def writing : State := { staged with store := { staged.store with busy := true } }
theorem test_storeCommit : answer (.storeCommit 3 []) staged = [1] := by decide +kernel
theorem test_storeCommitNothingStaged : answer (.storeCommit 3 []) hall = [11] := by decide +kernel
-- R154's example: the staged PANEL record is dropped.
theorem test_profileLock : (answer (.profileLock 3 []) staged,
    (after (.profileLock 3 []) staged).store.staging) = ([0, 0], none) := by decide +kernel

theorem test_unknownKind : answer (.unknownKind 0x07 3 [1]) hall = [3] := by decide +kernel
theorem test_frameDiscard : (after (.frameDiscard 2 1 7 [] 0) hall).link.error = true := by decide +kernel
theorem test_overrun : (after (.overrun 1 7 []) { hall with link := { hall.link with
    tx := .reply, replies := List.replicate 4 ⟨0x81, 1, [0], .nothing⟩ } }).link.error = true := by
  decide +kernel
theorem test_badLength : (after (.badLength 201) { hall with link := { hall.link with
    receiver := .length, idle := some 9 } }).link.receiver = .hunt := by decide +kernel
theorem test_stopBitErrorInHunt : (after .stopBitError hall).link.error = false := by decide +kernel
theorem test_idleTimerExpiry : (after .idleTimerExpiry { hall with link := { hall.link with
    receiver := .collect 3 [1], idle := some 1 } }).link.error = true := by decide +kernel
theorem test_byteReceivedSync : (after (.byteReceived 0xA5) hall).link.receiver = .length := by
  decide +kernel
-- R177's example: the CHECK byte F6h completes STATUS with TAG 7.
theorem test_byteReceivedCheck : (after (.byteReceived 0xF6) { hall with link := { hall.link with
    receiver := .check 2 [0x01, 0x07], idle := some 9 } }).link.replies.map Reply.kind = [0x81] := by
  decide +kernel
theorem test_frameSent : (after .frameSent { hall with link := { hall.link with
    tx := .reply, replies := [⟨0x81, 1, [0], .nothing⟩] } }).link.replies = [] := by decide +kernel
-- R175's frame: LEN 13, KIND FEh, TAG 0, STAFF_CALL as the cause and the only one pending.
theorem test_attentionFrameBytes : (after .longPress hall).link.lineBytes
    = [0xA5, 13, 0xFE, 0, 6, 0, 0, 0, 0, 0, 1, 0, 0, 0, 0, 0xEE] := by decide +kernel
-- The reply UNKNOWN_KIND to kind 07h with TAG 3.
theorem test_replyBytes : (after (.unknownKind 0x07 3 [1]) hall).link.lineBytes
    = [0xA5, 3, 0x87, 3, 3, 0x70] := by decide +kernel
theorem test_frameSentStarts : (after .frameSent { hall with link := { hall.link with
    tx := .reply, replies := [⟨0x84, 1, [0], .start false⟩] } }).overdue.clock = .stale := by
  decide +kernel

theorem test_powerUpWarm : ((after (.powerUp false) { hall with powered := false }).contracts.codes,
    (after (.powerUp false) { hall with powered := false }).mode) = ([(123456, 0), (333333, 3)], .staffed) := by
  decide +kernel
theorem test_powerUpCold : (after (.powerUp true) { hall with powered := false }).key 0 = none := by
  decide +kernel
theorem test_powerLossDamagesTheWrite :
    ((after .powerLoss writing).store.stored.panels.get 4).sound = false := by decide +kernel
-- R182's example: STORE_WRITTEN with detail A 2 and detail B 5.
theorem test_storeWriteComplete : entered .storeWriteComplete writing = [(.storeWritten, 2, 5)] := by
  decide +kernel
theorem test_minuteEvent : (after .minuteEvent hall).overdue.value = 1001 := by decide +kernel
theorem test_minuteEventNotSet : (after .minuteEvent State.reset).overdue.value = 0 := by decide +kernel
/-- `hall` with the lateness scan at slot 1, at minute `m`. -/
def visiting (m : Nat) : State := { hall with overdue := { hall.overdue with scan := ⟨true, m, 1, none⟩ } }
-- Due 2,000 and grace 30: at 2,030 the contract is LATE1, and the step from NONE is coded 2.
theorem test_visitRaisesTheTier : entered .latenessScanVisit (visiting 2030) = [(.tierRaised, 2, 0)] := by
  decide +kernel
theorem test_visitBeforeLateness : entered .latenessScanVisit (visiting 2029) = [(.tierRaised, 1, 0)] := by
  decide +kernel

theorem test_doorOpenedUnderRelease : ((after (.doorOpened 1) working).comp 1).door = .opened := by
  decide +kernel
-- R94, R95: only the session that asked for the release is told.
theorem test_doorOpenedTellsTheSession :
    ([{ atKiosk .staff with opens := [1], prompt := .openDoor 1 }, { atKiosk .staff with
        prompt := .openDoor 9 }].map fun k => (after (.doorOpened 1) { working with kiosk := k }).kiosk.prompt)
      = [.staffReady, .openDoor 9] := by decide +kernel
theorem test_doorForced : entered (.doorOpened 0) hall = [(.forcedDoor, 0, 0)] := by decide +kernel
theorem test_doorClosed : ((after (.doorClosed 3) working).scanner.list).map ScanEntry.comp = [6, 3, 7] := by
  decide +kernel
theorem test_windowExpiryGrantsTheNext : ((after (.windowExpiry 1) working).comp 2).door = .unlatched := by
  decide +kernel
theorem test_holdExpiry : entered (.holdExpiry 3) working = [(.doorLeftOpen, 0, 0)] := by decide +kernel
theorem test_scanFindsNothing : entered (.scanCompletion ⟨6, []⟩) working = [(.keyToStaff, 0, 0)] := by
  decide +kernel
theorem test_scanFindsForeign : ((after (.scanCompletion ⟨6, [77, 1007]⟩) working).comp 6).contents
    = [.foreign 77, .key 6] := by decide +kernel

theorem test_digitKey : (after (.digitKey 4) hall).kiosk.digits = [4] := by decide +kernel
theorem test_clearKey : (after .clearKey (kioskIn { atKiosk .codeEntry with digits := [4] })).kiosk.mode
    = .idle := by decide +kernel
theorem test_okStartsAPickup : (after .okKey (kioskIn { atKiosk .codeEntry with
    digits := [1, 2, 3, 4, 5, 6] })).kiosk.prompt = .openDoor 0 := by decide +kernel
theorem test_okInCalling : (after .okKey (kioskIn { atKiosk .calling with
    prompt := .notPermitted, brief := some 9 })).kiosk = { atKiosk .calling with prompt := .callingStaff } := by
  decide +kernel
theorem test_okFifthWrongCode : entered .okKey (kioskIn { atKiosk .codeEntry with
    digits := [0, 0, 0, 0, 0, 0], wrongCodes := 4 }) = [(.codeLockout, 0, 5)] := by decide +kernel
theorem test_tagAtPad : (after (.tagAtPad 1002) hall).kiosk.prompt = .returnTo 1 := by decide +kernel
theorem test_tagNotRecognised : (after (.tagAtPad 1001) hall).kiosk.prompt = .tagNotRecognised := by
  decide +kernel
/-- `hall` with badge 5 at level 3 in place 0. -/
def badged : State := { hall with store := { hall.store with working := { hall.store.working with
  badges := hall.store.working.badges.set 0 ⟨some ⟨5, 3, true, [0x41]⟩, false⟩ } } }
theorem test_badgePresented : (after (.badgePresented 5) badged).kiosk.badge = some (5, 3) := by
  decide +kernel
theorem test_badgeRefused : entered (.badgePresented 6) badged = [(.accessDenied, 0, 0)] := by decide +kernel
/-- A compartment being waited for, with a brief prompt shown. -/
def hurried : Kiosk := { atKiosk .waitDoor with
  waited := some (4, .ret), prompt := .pleaseWait, brief := some 9 }
-- R85: any event in IDLE stops the result hold; R84: any event in WAIT_DOOR ends a brief prompt.
theorem test_callButtonPressed : (after .callButtonPressed (kioskIn { atKiosk .idle with
    prompt := .thankYou, resultHold := some 9 })).kiosk
      = { atKiosk .idle with prompt := .welcome, press := some 2000 } := by decide +kernel
theorem test_callButtonReleased : (after .callButtonReleased (kioskIn hurried)).kiosk
    = { hurried with prompt := .returnTo 4, brief := none } := by decide +kernel
theorem test_longPress : ((after .longPress hall).kiosk.prompt, (after .longPress hall).notices.pending)
    = (.callingStaff, [.staffCall]) := by decide +kernel
theorem test_interDigitExpiry : (after .interDigitExpiry (kioskIn { atKiosk .codeEntry with
    digits := [4], interDigit := some 1 })).kiosk.digits = [] := by decide +kernel
theorem test_lockoutExpiry : (after .lockoutExpiry (kioskIn (atKiosk .lockout))).kiosk.mode = .idle := by
  decide +kernel
theorem test_staffTimerExpiry : (after .staffTimerExpiry (kioskIn { atKiosk .staff with
    badge := some (5, 3) })).kiosk.badge = none := by decide +kernel
theorem test_resultHoldExpiry : (after .resultHoldExpiry (kioskIn { atKiosk .idle with
    prompt := .thankYou, resultHold := some 1 })).kiosk.prompt = .welcome := by decide +kernel
theorem test_briefPromptExpiry : (after .briefPromptExpiry (kioskIn { atKiosk .waitDoor with
    waited := some (4, .ret), prompt := .pleaseWait, brief := some 1 })).kiosk.prompt = .returnTo 4 := by
  decide +kernel

/-- `hall` in UNSTAFFED with the flap open. -/
def night : State := { hall with mode := .unstaffed, drop := { hall.drop with flap := .opened } }
-- A key that is OUT: RETURN_DONE with route DROP, tier NONE.
theorem test_chuteRead : entered (.chuteRead (some 1002)) night = [(.returnDone, 20, 0)] := by decide +kernel
theorem test_chuteReadAtLockedFlap : entered (.chuteRead (some 1002)) hall = [(.dropForeign, 2, 1)] := by
  decide +kernel
theorem test_staffDoorOpened : (after .staffDoorOpened night).drop.flap = .locked := by decide +kernel
theorem test_staffDoorClosed : entered .staffDoorClosed { night with drop := { night.drop with
    staffDoor := .opened, flap := .locked } } = [(.dropEmptied, 0, 1)] := by decide +kernel
theorem test_pagerPulseEnd : (after .pagerPulseEnd { hall with notices := { hall.notices with
    pager := some 1 } }).notices.pager = none := by decide +kernel

/-- With an empty queue a step is one tick, in which the press timer ends and queues the long press. -/
theorem test_tickEndsATimer : (match step (kioskIn { atKiosk .idle with press := some 1 }) with
    | .next t => t.pending
    | .fault _ => []
    | .refused _ => []) = [.longPress] := by decide +kernel

/-! ### For each statement with hypotheses, states and operands that meet them -/

/-- `hall` with the line in a state. -/
def onLine (l : Link) : State := { hall with link := l }
def receiving (r : Receiver) : State := onLine { hall.link with receiver := r, idle := some 9 }
def replied (e : ReplyEffect) : State :=
  onLine { hall.link with tx := .reply, replies := [⟨0x81, 1, [0], e⟩] }
def fourReplies : State :=
  onLine { hall.link with tx := .reply, replies := List.replicate 4 ⟨0x81, 1, [0], .nothing⟩ }
def dark : State := { hall with powered := false }

theorem witness_EmptyQueueLetsOneTickPass : hall.pending = [] ∧ hall.powered = true
    ∧ dark.pending = [] ∧ dark.powered = false ∧ working.pending = []
    ∧ (kioskIn { atKiosk .idle with press := some 1 }).kiosk.press = some 1 := by decide

theorem witness_EveryCommandAnswersNext : dark.powered = false
    ∧ (∀ b, Instr.digitKey 1 ≠ .powerUp b)
    ∧ ({ hall with store := { hall.store with lock := true } } : State).store.lock = true := by decide

theorem witness_FrameBytesReachTheRequest : (0x01, Instr.status) ∈ requestRows
    ∧ (0x53, Instr.profileLock) ∈ requestRows ∧ (List.replicate 198 (0 : Byte)).length ≤ 198
    ∧ ([] : List Byte).length ≤ 198 ∧ hall.powered = true ∧ hall.link.receiver = .hunt := by
  refine ⟨by simp [requestRows], by simp [requestRows], by decide +kernel, by decide, rfl, rfl⟩

theorem witness_ReceiverTakesEachByte : hall.powered = true ∧ hall.link.receiver = .hunt
    ∧ (receiving .length).link.receiver = .length
    ∧ (receiving (.collect 200 [])).link.receiver = .collect 200 []
    ∧ (receiving (.check 2 [0x01, 0x07])).link.receiver = .check 2 (0x01 :: 0x07 :: [])
    ∧ BitVec.ofNat 8 2 + 0x01 + 0x07 + ([] : List Byte).foldl (· + ·) 0 + 0 ≠ 0 := by decide

theorem witness_BrokenFramesAreDiscarded : (receiving .length).powered = true
    ∧ (receiving .length).link.receiver = .length ∧ (1 : Byte).toNat < 2 ∧ 200 < (201 : Byte).toNat
    ∧ (receiving .length).link.receiver ≠ .hunt ∧ hall.link.receiver = .hunt
    ∧ (2 : Byte) + 1 + 7 + ([] : List Byte).foldl (· + ·) 0 + 0 ≠ 0
    ∧ 4 ≤ fourReplies.link.replies.length := by decide

theorem witness_RefusedRequestsChangeNoRecord : hall.serves 1 ∧ (0x22, Instr.handout) ∈ requestRows
    ∧ ((0x22 : Byte), 7) ∈ bodyLengths ∧ ([] : List Byte).length ≠ 7
    ∧ (0x07 : Byte) ∉ requestRows.map Prod.fst ∧ (0x80 : Byte) ∉ requestRows.map Prod.fst := by
  refine ⟨hall_serves, by simp [requestRows], by decide, by decide, ?_, ?_⟩ <;> decide

theorem witness_FrameSentFreesTheLine : (sending hall).powered = true
    ∧ (sending hall).link.tx = .attention ⟨0xFE, 0, [0]⟩ ∧ hall.link.tx = .idle ∧ (replied .nothing).link.tx = .reply
    ∧ (replied .nothing).link.replies = ⟨0x81, 1, [0], .nothing⟩ :: []
    ∧ (replied .rate).link.replies = ⟨0x81, 1, [0], .rate⟩ :: [] := by decide

theorem witness_StartTakesSettingsAndSwitches :
    StartFrom dark dark (.powerUp false) false false ∧ StartFrom dark dark (.powerUp true) true false
    ∧ StartFrom (replied (.start true)) (replied (.start true)) .frameSent true true
    ∧ StartFrom (replied (.start false)) (replied (.start false)) .frameSent false true
    ∧ StartFrom hall dark (.powerUp false) false false :=
  ⟨⟨.inl ⟨rfl, rfl, rfl⟩, .inl rfl⟩, ⟨.inl ⟨rfl, rfl, rfl⟩, .inl rfl⟩,
    ⟨.inr ⟨rfl, rfl, rfl, rfl, rfl⟩, .inl rfl⟩, ⟨.inr ⟨rfl, rfl, rfl, rfl, rfl⟩, .inl rfl⟩,
    ⟨.inl ⟨rfl, rfl, rfl⟩, .inr ⟨rfl, rfl⟩⟩⟩

theorem witness_ColdStartEmptiesTheTables : StartFrom dark dark (.powerUp true) true false
    ∧ StartFrom hall dark (.powerUp true) true false :=
  ⟨⟨.inl ⟨rfl, rfl, rfl⟩, .inl rfl⟩, ⟨.inl ⟨rfl, rfl, rfl⟩, .inr ⟨rfl, rfl⟩⟩⟩

/-- A power-up at a part with power in the middle of a write starts from the store that the loss damaged. -/
theorem witness_WarmStartRollsBack : StartFrom dark dark (.powerUp false) false false
    ∧ ∃ u, StartFrom writing u (.powerUp false) false false
      ∧ (u.store.stored.panels.get 4).sound = false :=
  ⟨⟨.inl ⟨rfl, rfl, rfl⟩, .inl rfl⟩, writing.losePower, ⟨.inl ⟨rfl, rfl, rfl⟩, .inr ⟨rfl, rfl⟩⟩, rfl⟩

theorem witness_PowerLossDamagesOnlyTheWrite : hall.powered = true ∧ hall.store.busy = false
    ∧ writing.powered = true ∧ writing.store.busy = true
    ∧ writing.store.staging = some (.panel 4 ⟨true, true, 2⟩) := by decide

theorem witness_StatusReportsAndClearsTheFlag : hall.serves 1 ∧ ([0] : List Byte) ≠ [] :=
  ⟨hall_serves, by decide⟩

theorem witness_SetClockSetsAndStartsAScan : hall.serves 1 ∧ ([] : List Byte).length ≠ 4
    ∧ 0 ≤ 4294967295 ∧ 4294967295 ≤ 4294967295 := ⟨hall_serves, by decide, by decide, by decide⟩

theorem witness_SetModeMovesKioskAndFlap : hall.serves 1 ∧ 2 < (3 : Byte).toNat
    ∧ hall.mode ≠ .lockdown ∧ hall.kiosk.mode = .idle
    ∧ (kioskIn (atKiosk .codeEntry)).kiosk.mode = .codeEntry
    ∧ ({ hall with mode := .lockdown } : State).serves 1 := by
  refine ⟨hall_serves, by decide, by decide, rfl, rfl, rfl, by decide, by decide⟩

theorem witness_StartsAndDivisorAreAsked : hall.serves 1 ∧ hall.store.busy = false
    ∧ hall.startPending = none ∧ writing.serves 1 ∧ writing.store.busy = true
    ∧ 1999 ≤ 65535 ∧ 50001 ≤ 65535 := by
  refine ⟨hall_serves, rfl, rfl, ⟨rfl, by decide, by decide⟩, rfl, by decide, by decide⟩

theorem label_ab : LabelOk [0x41, 0x42] := by unfold LabelOk; decide

/-- `hall` with every key place enrolled. -/
def packed : State :=
  { hall with keys := { hall.keys with places := .replicate 384 (some (keyAt 5 .staffHand)) } }

theorem packed_key (j : KeyId) : packed.key j = some (keyAt 5 .staffHand) := Table.get_replicate _ _

theorem witness_EnrolTakesTheLowestPlace : hall.serves 1 ∧ hall.ScanOk ∧ LabelOk [0x41, 0x42]
    ∧ (∀ j r, hall.key j = some r → r.tag ≠ 1) ∧ hall.key 4 = none
    ∧ (∀ j, j < (4 : KeyId) → (hall.key j).isSome = true)
    ∧ hall.key 3 = some (keyAt 1004 .staffHand)
    ∧ (packed.serves 1 ∧ packed.ScanOk ∧ (∀ j r, packed.key j = some r → r.tag ≠ 1)
      ∧ ∀ j, (packed.key j).isSome = true)
    ∧ (∀ x, LabelOk x → padded x ≠ List.replicate 8 0x20) := by
  refine ⟨hall_serves, hall_cabinet.2, label_ab, fun j r hr => ?_, by decide +kernel, fun j hj => ?_,
    by decide +kernel, ⟨⟨rfl, by decide, by decide⟩, hall_cabinet.2, fun j r hr => ?_, fun j => ?_⟩,
    fun x hx hp => ?_⟩
  · simpa using forall_key (p := fun r => r.tag != 1) (by decide +kernel) j r hr
  rotate_left
  · rw [packed_key] at hr; cases hr; decide
  · rw [packed_key]; rfl
  · obtain ⟨h1, -, -, h4, -⟩ := hx
    cases x with
    | nil => simp at h1
    | cons b bs => exact h4 (by simpa [padded, List.replicate] using (List.cons.inj hp).1)
  · have : ∀ i : Fin 4, (hall.key ⟨i.val, by omega⟩).isSome = true := by decide +kernel
    exact this ⟨j.val, hj⟩

theorem witness_EditAndRemoveChangeTheRecord : hall.serves 1
    ∧ hall.key 0 = some (keyAt 1001 (.compartment 0)) ∧ LabelOk [0x41, 0x42]
    ∧ (0 : KeyId) ∈ hall.keys.lists.get 0
    ∧ hall.key 3 = some (keyAt 1004 .staffHand) ∧ (∀ sl c, hall.slot sl = some c →
      ¬ (c.entitlement = .specific 3 ∧ (c.state = .ticket ∨ c.state = .suspended ∨ c.state = .picking))
      ∧ ¬ (c.key = some 3 ∧ (c.state = .picking ∨ c.state = .out ∨ c.state = .returning))) := by
  refine ⟨hall_serves, hall_key0, label_ab, by decide +kernel, by decide +kernel, fun sl c hc => ?_⟩
  have := forall_slot (p := fun c => c.entitlement != .specific 3 && c.key != some 3) (by decide +kernel)
    sl c hc
  simp only [Bool.and_eq_true, bne_iff_ne, ne_eq] at this
  exact ⟨fun h => this.1 h.1, fun h => this.2 h.1⟩

theorem witness_HoldAndCheckReexamine : hall.serves 1
    ∧ hall.key 0 = some (keyAt 1001 (.compartment 0)) ∧ (keyAt 1001 (.compartment 0)).hold ≠ true
    ∧ ((hall.modifyKey 0 fun r => { r with mark := .unchecked }).key 0).map KeyRecord.mark
      = some .unchecked := ⟨hall_serves, hall_key0, by decide, by decide +kernel⟩

theorem witness_KeyQueriesReport : hall.serves 1 ∧ hall.key 0 = some (keyAt 1001 (.compartment 0))
    ∧ (∀ j a, hall.key j = some a → a.tag = 1001 → j = 0) ∧ 0 ≤ 255 ∧ 255 ≤ 255 :=
  ⟨hall_serves, hall_key0, fun j a h ht => hall_location.1 j 0 a _ h hall_key0 ht, by decide, by decide⟩

/-- No contract of `hall` names a key but key 1. -/
theorem hall_names {k : KeyId} (hk : k ≠ 1) (sl : Slot) (c : Contract) (hc : hall.slot sl = some c) :
    ¬ NamesKey c k := by
  have := forall_slot (p := fun c => (c.key == none || c.key == some 1)
    && match c.entitlement with
      | .specific _ => false
      | .cls _ _ _ _ _ => true) (by decide +kernel) sl c hc
  simp only [Bool.and_eq_true, Bool.or_eq_true, beq_iff_eq] at this
  rintro (⟨h, -⟩ | ⟨h, -⟩)
  · simp [h] at this
  · rcases this.1 with h' | h' <;> rw [h'] at h
    · cases h
    · exact hk (Option.some.inj h).symm

theorem hall_number {number : Nat} (h : (hall.occupied.all fun x => x.2.number != number) = true) (sl : Slot)
    (c : Contract) (hc : hall.slot sl = some c) : c.number ≠ number := by
  simpa using forall_slot (p := fun c => c.number != number) h sl c hc

theorem witness_IssueMakesATicket : hall.serves 1
    ∧ (∀ g t e m u, Entitlement.specific 0 = .cls g t e m u → m ≤ 9 ∧ u ≤ 2)
    ∧ Within 999999 (some 999999) ∧ Within 4294967295 (some 4294967295) ∧ Within 720 (some 720)
    ∧ WindowOk (some 1000) (some 1000) 1000
    ∧ (∀ k, Entitlement.specific 0 = .specific k → (hall.key k).isSome = true)
    ∧ (∀ sl c, hall.slot sl = some c → c.number ≠ 1)
    ∧ (∀ p ∈ hall.contracts.codes, some 999999 ≠ some p.1)
    ∧ (∀ k, Entitlement.specific 0 = .specific k → ∀ sl c, hall.slot sl = some c → ¬ NamesKey c k)
    ∧ hall.slot 4 = none ∧ (∀ j, j < (4 : Slot) → (hall.slot j).isSome = true)
    ∧ hall.key 300 = none ∧ hall.slot 0 = some (booking 7 .ticket (some 123456) none)
    ∧ (123456, 0) ∈ hall.contracts.codes
    ∧ IssueOutOfRange (List.replicate 31 0)
    ∧ (¬ IssueOutOfRange ([0, 0, 0, 1, 0, 1, 0x80] ++ List.replicate 24 0)
      ∧ 383 < field [0, 0, 0, 1, 0, 1, 0x80] 5 2) := by
  refine ⟨hall_serves, nofun, ?_, ?_, ?_, ?_, ?_, hall_number (by decide +kernel), by decide, ?_,
    by decide +kernel, fun j hj => ?_, by decide +kernel, by decide +kernel, by decide, ?_, ?_⟩
  rotate_right 2
  · unfold IssueOutOfRange; decide +kernel
  · unfold IssueOutOfRange; decide +kernel
  · rintro y h; cases h; decide
  · rintro y h; cases h; decide
  · rintro y h; cases h; decide
  · rintro w h; cases h; exact ⟨by decide, by rintro x h; cases h; decide⟩
  · rintro k h; cases h; decide +kernel
  · rintro k h; cases h; exact hall_names (by decide)
  · have : ∀ i : Fin 4, (hall.slot ⟨i.val, by omega⟩).isSome = true := by decide +kernel
    exact this ⟨j.val, hj⟩

theorem witness_AmendChangesATicket : hall.serves 1 ∧ hall.IndexOk
    ∧ hall.slot 0 = some (booking 7 .ticket (some 123456) none)
    ∧ (∀ x, some (some 999999) = some x → Within 999999 x)
    ∧ WindowOk none none 2000 ∧ (∀ p ∈ hall.contracts.codes, some (some 999999) = some (some p.1) → p.2 = 0)
    ∧ hall.slot 2 = some (booking 9 .closed (some 222222) none)
    ∧ hall.slot 1 = some (booking 8 .out none (some 1)) ∧ State.reset.overdue.clock ≠ .running := by
  refine ⟨hall_serves, hall_index, by decide +kernel, ?_, nofun, by decide, by decide +kernel,
    by decide +kernel, by decide⟩
  rintro x h y h2
  cases h; cases h2; decide

theorem hall_out : hall.slot 1 = some (booking 8 .out none (some 1)) := by decide +kernel
theorem hall_key1 : hall.key 1 = some (keyAt 1002 (.out 8)) := by decide +kernel
theorem hall_policy : hall.policy 0 = ⟨30, 60, 180, 1440, 240, false⟩ := by decide +kernel

theorem witness_AmendResetsAnOpenContract : hall.serves 1 ∧ hall.IndexOk
    ∧ hall.slot 1 = some (booking 8 .out none (some 1)) ∧ (booking 8 .out none (some 1)).isOpen = true
    ∧ hall.key 1 = some (keyAt 1002 (.out 8)) ∧ Within 4294967295 (some 970)
    ∧ (∀ y, (none : Option (Option Nat)) = some y → Within 720 y) ∧ hall.overdue.clock = .running
    ∧ hall.overdue.value = 1000 ∧ WindowOk none none 970
    ∧ TierAt (hall.policy 0) { booking 8 .out none (some 1) with due := 970 } 1000 .late1 := by
  refine ⟨hall_serves, hall_index, hall_out, rfl, hall_key1, ?_, nofun, rfl, rfl, nofun, ?_⟩
  · rintro y h; cases h; decide
  · rw [hall_policy]; unfold TierAt; decide

theorem hall_fits (p : CompId → Prop) (hp : p 0) : Fits hall p none none 0 0 :=
  ⟨_, 0, hall_key0, rfl, by decide +kernel, hp, .inl rfl, .inl rfl, by decide⟩

theorem hall_chosen (p : CompId → Prop) (hp : p 0) : Chosen hall p 0 none none 0 0 0 :=
  ⟨0, [], [], le_refl _, le_refl _, by decide +kernel, hall_fits p hp, nofun,
    fun i h1 h2 => absurd (lt_of_le_of_lt h1 h2) (lt_irrefl _)⟩

/-- `hall` with a full release queue: compartments 11 and 12 UNLATCHED, 21 to 36 WAITING. -/
def crowded : State := { hall with compartments := {
  table := firstRows hall.compartments.table
    ([(10, { rest [] with door := .unlatched, window := some 9, release := some ⟨.link, .link⟩ }),
      (11, { rest [] with door := .unlatched, window := some 9, release := some ⟨.link, .link⟩ })]
      ++ [20, 21, 22, 23, 24, 25, 26, 27, 28, 29, 30, 31, 32, 33, 34, 35].map fun n =>
        (n, { rest [] with door := .waiting, release := some ⟨.link, .link⟩ }))
  queue := [20, 21, 22, 23, 24, 25, 26, 27, 28, 29, 30, 31, 32, 33, 34, 35]
  channel1 := some 10, channel2 := some 11 } }

theorem crowded_latch : crowded.LatchOk := latchOk_of_check (by decide +kernel)
theorem crowded_full : 16 ≤ crowded.compartments.queue.length
    ∧ (crowded.comp 0).door = .locked ∧ (crowded.comp 0).service = .inService := by decide +kernel

theorem crowded_avail : crowded.AvailOk := by
  intro g
  refine ⟨(hall_avail g).1, fun k hk => ?_⟩
  have hk' : k ∈ hall.keys.lists.get g := hk
  rw [hall_list] at hk'
  split at hk'
  · next h =>
    obtain rfl := List.mem_singleton.mp hk'
    exact ⟨_, hall_key0, h ▸ rfl, ⟨0, rfl, by decide +kernel⟩, hall_mayBeListed.2⟩
  · cases hk'

theorem witness_HandoutStartsThePickup : hall.serves 1 ∧ hall.IndexOk ∧ hall.LatchOk ∧ hall.AvailOk
    ∧ hall.slot 0 = some (booking 7 .ticket (some 123456) none)
    ∧ hall.key 0 = some (keyAt 1001 (.compartment 0)) ∧ (hall.comp 0).door = .locked
    ∧ (0 : KeyId) ∈ hall.keys.lists.get 0 ∧ Chosen hall (fun _ => True) 0 none none 0 0 0
    ∧ hall.compartments.queue.length < 16
    ∧ crowded.serves 1 ∧ crowded.LatchOk ∧ crowded.AvailOk ∧ 16 ≤ crowded.compartments.queue.length
    ∧ hall.slot 3 = some (booking 10 .suspended (some 333333) none)
    ∧ (∀ n, (keyAt 1004 .staffHand).location = .compartment n → (hall.comp n).door ≠ .locked) :=
  ⟨hall_serves, hall_index, hall_cabinet.1, hall_avail, by decide +kernel, hall_key0, by decide +kernel,
    by decide +kernel, hall_chosen _ trivial, by decide, ⟨rfl, by decide, by decide⟩, crowded_latch,
    crowded_avail, by decide +kernel, by decide +kernel, nofun⟩

theorem witness_CancelResumeRetire : hall.serves 1 ∧ hall.IndexOk
    ∧ (∀ sl c, hall.slot sl = some c → c.number ≠ 4294967295)
    ∧ hall.slot 0 = some (booking 7 .ticket (some 123456) none)
    ∧ hall.slot 3 = some (booking 10 .suspended (some 333333) none)
    ∧ hall.slot 2 = some (booking 9 .closed (some 222222) none) :=
  ⟨hall_serves, hall_index, hall_number (by decide +kernel), by decide +kernel, by decide +kernel,
    by decide +kernel⟩

theorem witness_ForceCloseClosesTheContract : hall.serves 1 ∧ hall.CabinetOk ∧ hall.ContractsOk
    ∧ ([] : List Byte).length ≠ 4 ∧ (∀ sl c, hall.slot sl = some c → c.number ≠ 1)
    ∧ hall.slot 0 = some (booking 7 .ticket (some 123456) none)
    ∧ hall.slot 1 = some (booking 8 .out none (some 1)) ∧ hall.key 1 = some (keyAt 1002 (.out 8))
    ∧ FinalTier (hall.policy 0) (booking 8 .out none (some 1)) hall.present .none
    ∧ working.serves 1 ∧ working.CabinetOk ∧ working.ContractsOk
    ∧ working.slot 5 = some (booking 12 .returning none (some 4))
    ∧ working.key 4 = some (keyAt 1005 (.out 12)) ∧ (working.comp 2).reservation = some 12 := by
  refine ⟨hall_serves, hall_cabinet, hall_contracts, by decide, hall_number (by decide +kernel),
    by decide +kernel, hall_out, hall_key1, ?_, working_serves, working_cabinet, working_contracts,
    by decide +kernel, by decide +kernel, by decide +kernel⟩
  exact ⟨.none, by rw [hall_policy]; unfold TierAt; decide, by decide⟩

theorem witness_ContractAndCompartmentQueries : hall.serves 1 ∧ hall.IndexOk ∧ hall.ScanOk
    ∧ hall.slot 1 = some (booking 8 .out none (some 1)) ∧ 511 ≤ 511 ∧ 4 ≤ 4
    ∧ (hall.comp 191).contents.length ≤ 4 :=
  ⟨hall_serves, hall_index, hall_cabinet.2, hall_out, by decide, by decide, by decide +kernel⟩

theorem witness_OpenRequestsARelease : hall.serves 1 ∧ hall.LatchOk ∧ (hall.comp 191).service = .inService
    ∧ (hall.comp 191).door = .locked ∧ hall.compartments.queue.length < 16
    ∧ 192 < (193 : Byte).toNat ∧ crowded.serves 1 ∧ crowded.LatchOk
    ∧ 16 ≤ crowded.compartments.queue.length ∧ (crowded.comp 0).door = .locked
    ∧ working.LatchOk ∧ (working.comp 0).door ≠ .locked :=
  ⟨hall_serves, hall_cabinet.1, by decide +kernel, by decide +kernel, by decide, by decide,
    ⟨rfl, by decide, by decide⟩, crowded_latch, crowded_full.1, crowded_full.2.1, working_cabinet.1,
    by decide +kernel⟩

theorem witness_ReleaseEndsUnopened : working.CabinetOk ∧ working.ContractsOk ∧ working.serves 1
    ∧ (working.comp 0).release = some ⟨.pickup 11 0, .kiosk⟩ ∧ (working.comp 0).door = .unlatched
    ∧ (working.comp 1).release = some ⟨.staff 5, .kiosk⟩ ∧ (working.comp 1).door = .unlatched
    ∧ (working.comp 2).release = some ⟨.ret 12 4, .kiosk⟩ ∧ (working.comp 2).door = .waiting
    ∧ (working.comp 3).door ≠ .unlatched ∧ (working.comp 3).door ≠ .waiting := by
  refine ⟨working_cabinet, working_contracts, working_serves, ?_⟩
  decide +kernel

/-- `hall` with compartment 1 out of service and its key outside its list. -/
def shelved : State := { hall with
  compartments := { hall.compartments with
    table := hall.compartments.table.set 0 { rest [.key 0] with service := .outOfService } }
  keys := { hall.keys with lists := .replicate 16 [] } }

-- R31: the compartment is SCANNING, and its key rejoins its list with the scan only.
theorem test_serviceBack : (((after (.service 3 [1, 0]) shelved).comp 0).door,
    (after (.service 3 [1, 0]) shelved).keys.lists.get 0) = (.scanning, []) := by decide +kernel

theorem witness_ServiceAndRescanQueueScans : hall.serves 1 ∧ hall.ScanOk ∧ (hall.comp 0).door = .locked
    ∧ (hall.comp 0).contents = [.key 0]
    ∧ (shelved.serves 1 ∧ shelved.ScanOk ∧ (shelved.comp 0).door = .locked
      ∧ (shelved.comp 0).service = .outOfService ∧ (shelved.comp 0).contents = [.key 0]
      ∧ shelved.key 0 = some (keyAt 1001 (.compartment 0))) ∧ working.serves 1 ∧ working.ScanOk
    ∧ (working.comp 7).door = .unknown ∧ (working.comp 3).door ≠ .locked
    ∧ (working.comp 3).door ≠ .unknown :=
  ⟨hall_serves, hall_cabinet.2, by decide +kernel, by decide +kernel,
    ⟨⟨rfl, by decide, by decide⟩, scanOk_of_check (by decide +kernel), by decide +kernel⟩, working_serves,
    working_cabinet.2, by decide +kernel⟩

theorem witness_DoorOpensUnderItsRelease : working.powered = true ∧ working.CabinetOk
    ∧ (working.comp 1).door = .unlatched ∧ (working.comp 1).release = some ⟨.staff 5, .kiosk⟩
    ∧ (working.comp 0).door = .unlatched ∧ (working.comp 0).release = some ⟨.pickup 11 0, .kiosk⟩ :=
  ⟨rfl, working_cabinet, by decide +kernel⟩

theorem witness_ForcedOpeningIsRecorded : working.powered = true ∧ working.CabinetOk ∧ working.ContractsOk
    ∧ (working.comp 191).door = .locked ∧ (working.comp 6).door = .scanning
    ∧ (working.comp 7).door = .unknown ∧ (working.comp 2).door = .waiting
    ∧ (working.comp 2).release = some ⟨.ret 12 4, .kiosk⟩ :=
  ⟨rfl, working_cabinet, working_contracts, by decide +kernel⟩

theorem witness_AgreeingSwitchEventsHaveNoEffect : working.powered = true
    ∧ (working.comp 3).door = .opened ∧ (working.comp 4).door = .leftOpen
    ∧ (working.comp 5).door = .forcedOpen ∧ (working.comp 191).door = .locked := by decide +kernel

theorem witness_DoorClosesOrStandsOpen : working.powered = true ∧ working.CabinetOk
    ∧ (working.comp 3).door = .opened ∧ (working.comp 4).door = .leftOpen
    ∧ (working.comp 5).door = .forcedOpen ∧ (working.comp 0).door ≠ .opened :=
  ⟨rfl, working_cabinet, by decide +kernel⟩

/-- The entry that `working` reads. -/
def sevenRead (c : Carried) : ScanEntry := ⟨6, .door, c, true⟩

/-- A tag that no enrolled key of `working` holds. -/
theorem working_unknown (k : KeyId) (r : KeyRecord) (h : working.key k = some r) : r.tag ∉ [77, 78] := by
  simpa using forall_key (p := fun r => r.tag != 77 && r.tag != 78) (by decide +kernel) k r h

/-- Compartment 7 holding a foreign item, being read. -/
def odd : State := { working with compartments := { working.compartments with
  table := working.compartments.table.set 6 { rest [.foreign 77] with
    door := .scanning, release := some ⟨.staff 5, .kiosk⟩ } }
                                  keys := { working.keys with
  places := working.keys.places.set 6 (some (keyAt 1007 .missing)) } }

-- R50: the tag already held is not noticed again.
theorem test_scanNoticesNewForeignTags : entered (.scanCompletion ⟨6, [77, 78]⟩) (sending odd)
    = [(.foreignTag, 0, 0)] := by decide +kernel

-- R43: an opening of compartment 6 taken first has left compartment 7 being read.
theorem test_scanOfAnAbandonedRead : ((after (.scanCompletion ⟨5, [1007]⟩) working).scanner,
    (after (.scanCompletion ⟨5, [1007]⟩) working).key 6) = (working.scanner, working.key 6) := by decide +kernel

theorem witness_ScanWritesTheContents : (∀ e ∈ working.scanner.list, e.reading = true → e.comp ≠ 5)
    ∧ working.powered = true ∧ working.CabinetOk ∧ working.LocationOk
    ∧ sevenRead .release ∈ working.scanner.list ∧ (sevenRead .release).reading = true
    ∧ [77, 1007, 1, 1099511627775].length ≤ 4 ∧ [77, 1007, 1, 1099511627775].Nodup
    ∧ odd.CabinetOk ∧ odd.LocationOk ∧ sevenRead .release ∈ odd.scanner.list
    ∧ (odd.comp 6).contents = [.foreign 77]
    ∧ (odd.comp 6).release.map (fun r => r.purpose.key?) = some none
    ∧ (∀ k r, odd.key k = some r → r.tag ∉ [77, 78]) := by
  refine ⟨by decide +kernel, rfl, working_cabinet, working_location, by decide +kernel, by decide, by decide,
    by decide, cabinetOk_of_checks (by decide +kernel), locationOk_of_check (by decide +kernel), by decide +kernel,
    by decide +kernel, by decide +kernel, fun k r h => ?_⟩
  simpa using forall_key (p := fun r => r.tag != 77 && r.tag != 78) (by decide +kernel) k r h

/-- Key 6 in compartment 7 under the pickup of contract 13. -/
def pickingUp : State := { busy { rest [.key 6] with release := some ⟨.pickup 13 6, .kiosk⟩ } .release
  (.compartment 0) (.compartment 6) (booking 11 .picking (some 444444) (some 0)) .picking with free := 0 }
/-- Key 6 in compartment 7 with nothing that explains its absence. -/
def sweeping : State := busy (rest [.key 6]) .nothing (.compartment 0) (.compartment 6)
  (booking 11 .picking (some 444444) (some 0))
/-- Key 6 OUT with contract 13, an empty compartment 7 being read. -/
def straying : State := busy (rest []) .nothing (.compartment 0) (.out 13)
  (booking 11 .picking (some 444444) (some 0)) .out
/-- Key 6 OUT with contract 13, returning to compartment 7. -/
def bringing : State := busy { rest [] with release := some ⟨.ret 13 6, .kiosk⟩, reservation := some 13 }
  .release (.compartment 0) (.out 13) (booking 11 .picking (some 444444) (some 0)) .returning

/-- Key 6 in compartment 7 under the return of contract 12, whose key is key 4. -/
def misplaced : State := { busy { rest [.key 6] with
    release := some ⟨.ret 12 4, .kiosk⟩, reservation := some 12 } .release (.compartment 0) (.compartment 6)
    (booking 11 .picking (some 444444) (some 0)) with free := 0 }
/-- Key 6 in compartment 7 under the pickup of contract 14 and key 7, which is MISSING. -/
def mistaken : State :=
  let s := busy { rest [.key 6] with release := some ⟨.pickup 14 7, .kiosk⟩ } .release (.compartment 0)
    (.compartment 6) (booking 11 .picking (some 444444) (some 0))
  { s with
    keys := { s.keys with places := s.keys.places.set 7 (some (keyAt 1008 .missing)) }
    contracts := { s.contracts with
      slots := s.contracts.slots.set 7 (some (booking 14 .picking none (some 7))) } }
/-- Compartment 7 empty under the pickup of contract 13, whose key 6 is in the drop box. -/
def emptied : State :=
  let s := busy { rest [] with release := some ⟨.pickup 13 6, .kiosk⟩ } .release (.compartment 0) .drop
    (booking 11 .picking (some 444444) (some 0)) .picking
  { s with drop := { s.drop with entries := [⟨some 1007, some 6, none, none⟩] } }

/-- `s` meets the laws that the statements on scans start from. -/
def ScanLaws (s : State) : Prop := s.CabinetOk ∧ s.ContractsOk ∧ s.LocationOk
def scanLawsCheck (s : State) : Bool :=
  (s.latchCheck && s.scanCheck) && s.indexCheck && s.rentalCheck && s.locationCheck
theorem scanLaws_of_check {s : State} (h : scanLawsCheck s = true) : ScanLaws s := by
  simp only [scanLawsCheck, Bool.and_eq_true] at h
  obtain ⟨⟨⟨⟨h1, h2⟩, h3⟩, h4⟩, h5⟩ := h
  exact ⟨cabinetOk_of_checks (by simp [h1, h2]), ⟨indexOk_of_check h3, rentalOk_of_check h4⟩,
    locationOk_of_check h5⟩

-- R51, R47 case 3, R52: the pickup not taken, the return not placed, another key gone under each.
theorem test_scanPickupNotTaken : entered (.scanCompletion ⟨6, [1007]⟩) (sending pickingUp)
    = [(.handoutFailed, 0, 1)] := by decide +kernel
theorem test_scanReturnNotPlaced : entered (.scanCompletion ⟨6, []⟩) (sending misplaced)
    = [(.keyMissing, 0, 0), (.returnFailed, 3, 0)] := by decide +kernel

theorem witness_ScanFindsTheKeyGone_otherwise :
    (ScanLaws misplaced ∧ sevenRead .release ∈ misplaced.scanner.list
      ∧ (misplaced.comp 6).contents = [.key 6]
      ∧ (misplaced.comp 6).release = some ⟨.ret 12 4, .kiosk⟩
      ∧ misplaced.slot 5 = some (booking 12 .returning none (some 4)))
    ∧ (ScanLaws mistaken ∧ sevenRead .release ∈ mistaken.scanner.list
      ∧ (mistaken.comp 6).contents = [.key 6] ∧ (mistaken.comp 6).release = some ⟨.pickup 14 7, .kiosk⟩
      ∧ mistaken.slot 7 = some (booking 14 .picking none (some 7))
      ∧ mistaken.key 7 = some (keyAt 1008 .missing))
    ∧ (ScanLaws emptied ∧ sevenRead .release ∈ emptied.scanner.list ∧ (emptied.comp 6).contents = []
      ∧ (emptied.comp 6).release = some ⟨.pickup 13 6, .kiosk⟩
      ∧ emptied.slot 6 = some (booking 13 .picking none (some 6))
      ∧ emptied.key 6 = some (keyAt 1007 .drop))
    ∧ (ScanLaws bringing ∧ sevenRead .release ∈ bringing.scanner.list ∧ (bringing.comp 6).contents = []
      ∧ (bringing.comp 6).release = some ⟨.ret 13 6, .kiosk⟩
      ∧ bringing.slot 6 = some (booking 13 .returning none (some 6))) := by
  refine ⟨⟨scanLaws_of_check ?_, ?_⟩, ⟨scanLaws_of_check ?_, ?_⟩, ⟨scanLaws_of_check ?_, ?_⟩,
    scanLaws_of_check ?_, ?_⟩ <;> decide +kernel

theorem witness_ScanFindsTheKeyGone :
    (pickingUp.CabinetOk ∧ pickingUp.ContractsOk ∧ pickingUp.LocationOk)
    ∧ (sweeping.CabinetOk ∧ sweeping.ContractsOk ∧ sweeping.LocationOk)
    ∧ (working.comp 6).contents = [.key 6] ∧ working.key 6 = some (keyAt 1007 (.compartment 6))
    ∧ (working.comp 6).release = some ⟨.staff 5, .kiosk⟩
    ∧ (pickingUp.comp 6).release = some ⟨.pickup 13 6, .kiosk⟩
    ∧ pickingUp.slot 6 = some (booking 13 .picking none (some 6))
    ∧ (pickingUp.comp 6).contents = [.key 6]
    ∧ sevenRead .release ∈ pickingUp.scanner.list ∧ sevenRead .nothing ∈ sweeping.scanner.list
    ∧ (sweeping.comp 6).release = none ∧ (sweeping.comp 6).contents = [.key 6] := by
  refine ⟨⟨cabinetOk_of_checks ?_, ⟨indexOk_of_check ?_, rentalOk_of_check ?_⟩, locationOk_of_check ?_⟩,
    ⟨cabinetOk_of_checks ?_, ⟨indexOk_of_check ?_, rentalOk_of_check ?_⟩, locationOk_of_check ?_⟩, ?_⟩ <;>
    decide +kernel

/-- Compartment 7 empty and read with nothing carried, key 0 where `door` stands in compartment 1 under the pickup of
contract 11. -/
def reading : State := busy (rest []) .nothing (.compartment 0) .missing
  (booking 11 .picking (some 444444) (some 0))
/-- `reading` with key 0 unpromised, and with compartment 1's door open. -/
def unpromised : State := { reading with keys := { reading.keys with
  places := reading.keys.places.set 0 (some (keyAt 1001 (.compartment 0))) } }
def opened : State := { reading with compartments := { reading.compartments with
  table := (reading.compartments.table.set 0 { reading.comp 0 with
      door := .opened, window := none, hold := some 9 }).set 2 { reading.comp 2 with
    door := .unlatched, window := some 9 }
  queue := [], channel1 := some 2 } }
/-- `reading` with key 6 in the drop box. -/
def dropped : State := { reading with
  keys := { reading.keys with places := reading.keys.places.set 6 (some (keyAt 1007 .drop)) }
  drop := { reading.drop with entries := [⟨some 1007, some 6, none, none⟩] } }

-- R46, R49, R73: the notice of the cancelled pickup names the scanned compartment, 7.
theorem test_scanCancelsAPickup : ((after (.scanCompletion ⟨6, [1001]⟩) (sending reading)).notices.ring.drop 1).map
    (fun x => (x.body.kind, x.body.comp, x.body.detailA, x.body.detailB))
      = [(.handoutFailed, some 6, 2, 1)] := by decide +kernel
theorem test_scanTakesFromTheDropBox : ((after (.scanCompletion ⟨6, [1007]⟩) dropped).drop.entries,
    ((after (.scanCompletion ⟨6, [1007]⟩) dropped).key 6).map KeyRecord.location)
      = ([], some (.compartment 6)) := by decide +kernel

theorem witness_ScanFindsAReturnedKey_elsewhere :
    (ScanLaws reading ∧ sevenRead .nothing ∈ reading.scanner.list ∧ (reading.comp 6).contents = []
      ∧ (reading.comp 6).release = none ∧ (reading.comp 0).door = .unlatched
      ∧ (reading.comp 0).release = some ⟨.pickup 11 0, .kiosk⟩ ∧ (reading.comp 0).contents = [.key 0]
      ∧ reading.key 0 = some { keyAt 1001 (.compartment 0) with promisedTo := some 11 }
      ∧ reading.slot 4 = some (booking 11 .picking (some 444444) (some 0))
      ∧ (0 : KeyId) ∉ reading.keys.lists.get 0 ∧ reading.key 6 = some (keyAt 1007 .missing))
    ∧ (ScanLaws unpromised ∧ unpromised.key 0 = some (keyAt 1001 (.compartment 0)))
    ∧ (ScanLaws opened ∧ (opened.comp 0).door = .opened
      ∧ (opened.comp 0).release = some ⟨.pickup 11 0, .kiosk⟩)
    ∧ (ScanLaws dropped ∧ dropped.key 6 = some (keyAt 1007 .drop))
    ∧ (ScanLaws reading ∧ reading.key 4 = some (keyAt 1005 (.out 12))
      ∧ reading.slot 5 = some (booking 12 .returning none (some 4)) ∧ (reading.comp 2).reservation = some 12
      ∧ FinalTier (reading.policy 0) (booking 12 .returning none (some 4)) reading.present .none) := by
  refine ⟨⟨scanLaws_of_check ?_, ?_⟩, ⟨scanLaws_of_check ?_, ?_⟩, ⟨scanLaws_of_check ?_, ?_⟩,
    ⟨scanLaws_of_check ?_, ?_⟩, scanLaws_of_check ?_, ?_, ?_, ?_, .none, .inl ⟨rfl, ?_⟩, rfl⟩ <;>
    decide +kernel

theorem witness_ScanFindsAReturnedKey :
    (bringing.CabinetOk ∧ bringing.ContractsOk ∧ bringing.LocationOk)
    ∧ (straying.CabinetOk ∧ straying.ContractsOk ∧ straying.LocationOk)
    ∧ FinalTier (bringing.policy 0) (booking 13 .returning none (some 6)) bringing.present .none
    ∧ FinalTier (straying.policy 0) (booking 13 .out none (some 6)) straying.present .none
    ∧ sevenRead .release ∈ bringing.scanner.list ∧ sevenRead .nothing ∈ straying.scanner.list
    ∧ (bringing.comp 6).contents = [] ∧ bringing.key 6 = some (keyAt 1007 (.out 13))
    ∧ bringing.slot 6 = some (booking 13 .returning none (some 6))
    ∧ (bringing.comp 6).release.map Release.purpose = some (.ret 13 6)
    ∧ (bringing.cabinet.all fun x => x.2.reservation != some 13 || x.1 == 6) = true
    ∧ straying.slot 6 = some (booking 13 .out none (some 6)) ∧ (straying.comp 6).release = none
    ∧ (straying.comp 6).reservation = none := by
  refine ⟨⟨cabinetOk_of_checks ?_, ⟨indexOk_of_check ?_, rentalOk_of_check ?_⟩, locationOk_of_check ?_⟩,
    ⟨cabinetOk_of_checks ?_, ⟨indexOk_of_check ?_, rentalOk_of_check ?_⟩, locationOk_of_check ?_⟩,
    ⟨.none, ?_, by decide⟩, ⟨.none, ?_, by decide⟩, ?_⟩
  case refine_9 => exact .inl ⟨rfl, by decide +kernel⟩
  case refine_10 => exact .inl ⟨rfl, by decide +kernel⟩
  all_goals decide +kernel

theorem witness_DigitsAndClearAreTaken : hall.powered = true ∧ hall.kiosk.mode = .idle
    ∧ (kioskIn (atKiosk .codeEntry)).kiosk.mode = .codeEntry
    ∧ (kioskIn (atKiosk .waitDoor)).kiosk.mode = .waitDoor
    ∧ (kioskIn (atKiosk .staff)).kiosk.mode = .staff ∧ (kioskIn (atKiosk .lockout)).kiosk.mode = .lockout
    ∧ (kioskIn (atKiosk .calling)).kiosk.mode = .calling := by decide

theorem witness_KioskTimersEndTheirStates : hall.powered = true ∧ hall.kiosk.brief = none
    ∧ (kioskIn { atKiosk .waitDoor with brief := some 1 }).kiosk.brief ≠ none := by decide

/-- CODE_ENTRY with a code typed. -/
def typed (ds : List (Fin 10)) (wrong : Nat) : Kiosk :=
  { atKiosk .codeEntry with digits := ds, wrongCodes := wrong }

theorem witness_OkSubmitsTheCode : hall.powered = true ∧ hall.IndexOk ∧ hall.LatchOk ∧ hall.AvailOk
    ∧ (kioskIn hurried).kiosk.mode = .waitDoor ∧ (kioskIn (atKiosk .calling)).kiosk.mode = .calling
    ∧ (kioskIn (typed [1, 2, 3, 4, 5] 0)).kiosk.digits.length < 6
    ∧ (kioskIn (typed [9, 9, 9, 9, 9, 9] 4)).kiosk.digits.length = 6
    ∧ (∀ p ∈ hall.contracts.codes, p.1 ≠ digitValue [9, 9, 9, 9, 9, 9])
    ∧ digitValue [1, 2, 3, 4, 5, 6] = 123456 ∧ (123456, 0) ∈ hall.contracts.codes
    ∧ (digitValue [3, 3, 3, 3, 3, 3], 3) ∈ hall.contracts.codes ∧ hall.mode ≠ .lockdown
    ∧ Chosen hall (fun n => (hall.panel n).pickup = true) 0 none none 0 0 0
    ∧ (keyAt 1001 (.compartment 0)).location = .compartment 0
    ∧ hall.compartments.queue.length < 16 ∧ 16 ≤ crowded.compartments.queue.length ∧ crowded.AvailOk
    ∧ crowded.LatchOk :=
  ⟨rfl, hall_index, hall_cabinet.1, hall_avail, rfl, rfl, by decide, by decide, by decide, by decide,
    by decide, by decide, by decide, hall_chosen _ (by decide +kernel), rfl, by decide, crowded_full.1, crowded_avail,
    crowded_latch⟩

/-- STAFF under badge 5. -/
def staffed (level : Nat) (ds : List (Fin 10)) : Kiosk :=
  { atKiosk .staff with badge := some (5, level), digits := ds }

theorem witness_StaffOpenAndAcknowledge : hall.powered = true ∧ hall.LatchOk
    ∧ (kioskIn (staffed 3 [])).kiosk.mode = .staff ∧ (kioskIn (staffed 3 [])).kiosk.badge = some (5, 3)
    ∧ digitValue [1, 9, 2] = (191 : CompId).val + 1 ∧ 192 < digitValue [1, 9, 3] ∧ digitValue [0] = 0
    ∧ 1 < (hall.panel 191).openLevel ∧ (hall.panel 191).openLevel ≤ 2
    ∧ (hall.comp 191).service = .inService ∧ (hall.comp 191).door = .locked
    ∧ hall.compartments.queue.length < 16 ∧ crowded.LatchOk
    ∧ 16 ≤ crowded.compartments.queue.length :=
  ⟨rfl, hall_cabinet.1, rfl, rfl, by decide, by decide, by decide, by decide +kernel, by decide +kernel,
    by decide +kernel, by decide +kernel, by decide, crowded_latch, crowded_full.1⟩

theorem witness_TagsReturnOrClearTheCheck : hall.powered = true ∧ hall.IndexOk ∧ hall.LatchOk
    ∧ hall.LocationOk ∧ hall.kiosk.mode = .idle ∧ hall.mode ≠ .lockdown
    ∧ hall.key 1 = some (keyAt 1002 (.out 8)) ∧ hall.slot 1 = some (booking 8 .out none (some 1))
    ∧ ((hall.comp 1).service = .inService ∧ (hall.comp 1).door = .locked ∧ (hall.comp 1).known = true
      ∧ (hall.comp 1).contents = [] ∧ (hall.comp 1).reservation = none ∧ (hall.panel 1).ret = true)
    ∧ (∀ m, m < (1 : CompId) → (hall.comp m).contents ≠ [])
    ∧ (∀ k r, hall.key k = some r → r.tag ≠ 77)
    ∧ (kioskIn (staffed 2 [])).kiosk.badge = some (5, 2) := by
  refine ⟨rfl, hall_index, hall_cabinet.1, hall_location, rfl, by decide, hall_key1, hall_out,
    by decide +kernel, fun m hm => ?_, fun k r hr => ?_, rfl⟩
  · have : m = 0 := Fin.ext (Nat.lt_one_iff.mp hm)
    subst this; decide +kernel
  · simpa using forall_key (p := fun r => r.tag != 77) (by decide +kernel) k r hr

/-- Badges by place. -/
theorem badged_place (p : BadgePlace) : (badged.store.working.badges.get p).value
    = if p = 0 then some ⟨5, 3, true, [0x41]⟩ else none := by
  simp only [badged, hall, State.reset, WorkingRecords.factory, Table.get_set, Table.get_replicate, eq_comm]
  split <;> rfl

theorem witness_BadgesAndCallsForStaff : badged.powered = true ∧ badged.BadgeHeld 5 ⟨5, 3, true, [0x41]⟩
    ∧ badged.BadgeRefused 6 ∧ badged.kiosk.mode ≠ .lockout ∧ badged.kiosk.mode ≠ .waitDoor
    ∧ hall.notices.callLatch = false ∧ hall.kiosk.mode = .idle := by
  refine ⟨rfl, ⟨0, by rw [badged_place]; rfl, rfl, fun q x hq _ => ?_⟩, fun q x hq hn => ?_, by decide,
    by decide, rfl, rfl⟩
  · rw [badged_place] at hq
    by_contra h
    simp [h] at hq
  · rw [badged_place] at hq
    split at hq
    · cases hq; simp at hn
    · cases hq

/-- `night` with 47 entries in the drop list. -/
def nearlyFull : State := { night with drop := { night.drop with
  entries := ⟨some 1003, some 2, none, none⟩ :: List.replicate 46 ⟨none, none, none, none⟩ } }

/-- `night` with key 0 promised to contract 11, whose pickup release is UNLATCHED, and 47 entries held. -/
def surprised : State := { reading with
  mode := .unstaffed
  drop := { entries := List.replicate 47 ⟨none, none, none, none⟩, flap := .opened, staffDoor := .closed } }

-- R73, R105, R107: the cancelled pickup's notice, then DROP_FULL (log 39).
theorem test_chuteCancelsAPickup : entered (.chuteRead (some 1001)) (sending surprised)
    = [(.handoutFailed, 2, 1), (.dropFull, 0, 48)] := by decide +kernel

theorem witness_ChuteReadsEnterTheDropList_promised :
    (ScanLaws surprised ∧ surprised.DropOk ∧ surprised.drop.flap = .opened
      ∧ (surprised.comp 0).release = some ⟨.pickup 11 0, .kiosk⟩ ∧ (surprised.comp 0).door = .unlatched
      ∧ surprised.key 0 = some { keyAt 1001 (.compartment 0) with promisedTo := some 11 }
      ∧ surprised.slot 4 = some (booking 11 .picking (some 444444) (some 0)))
    ∧ (opened.comp 0).door = .opened ∧ (opened.comp 0).release = some ⟨.pickup 11 0, .kiosk⟩ := by
  refine ⟨⟨scanLaws_of_check ?_, by unfold State.DropOk; decide +kernel, ?_⟩, ?_⟩ <;> decide +kernel

theorem witness_ChuteReadsEnterTheDropList : night.powered = true
    ∧ (night.DropOk ∧ night.CabinetOk ∧ night.ContractsOk ∧ night.LocationOk) ∧ night.drop.flap = .opened
    ∧ (∀ e ∈ night.drop.entries, e.tag ≠ some 1002) ∧ night.key 1 = some (keyAt 1002 (.out 8))
    ∧ night.slot 1 = some (booking 8 .out none (some 1))
    ∧ FinalTier (night.policy 0) (booking 8 .out none (some 1)) night.present .none
    ∧ night.key 0 = some (keyAt 1001 (.compartment 0)) ∧ night.key 3 = some (keyAt 1004 .staffHand)
    ∧ nearlyFull.DropOk ∧ nearlyFull.drop.entries.length = 47 ∧ hall.DropOk
    ∧ hall.drop.flap = .locked := by
  refine ⟨rfl, ⟨?_, hall_cabinet, hall_contracts, hall_location⟩, rfl, by decide, hall_key1, hall_out,
    ⟨.none, ?_, by decide⟩, hall_key0, by decide +kernel, ?_, by decide +kernel, ?_, rfl⟩
  · unfold State.DropOk; decide +kernel
  · exact .inl ⟨rfl, by decide +kernel⟩
  · unfold State.DropOk; decide +kernel
  · unfold State.DropOk; decide +kernel

theorem witness_EmptyingTheDropBox : hall.powered = true ∧ hall.drop.staffDoor = .closed ∧ hall.serves 1
    ∧ ({ hall with drop := { hall.drop with staffDoor := .opened } } : State).drop.staffDoor = .opened :=
  ⟨rfl, rfl, hall_serves, rfl⟩

theorem witness_ConsumeRemovesTheOldest : hall.serves 1 ∧ ([] : List Byte).length ≠ 2
    ∧ hall.notices.ring = [] ++ Notice.coldPowerStart :: [] ∧ Notice.coldPowerStart.seq = 0
    ∧ (∀ x ∈ hall.notices.ring, x.seq ≠ 65535) ∧ 65535 ≤ 65535 :=
  ⟨hall_serves, by decide, rfl, rfl, by decide, by decide⟩

theorem witness_NoticeAndDropQueriesReport : hall.serves 1 ∧ 255 ≤ 255 := ⟨hall_serves, by decide⟩

theorem witness_AcknowledgeEndsACause : hall.serves 1 ∧ 255 ≤ 255 ∧ 10 < 11 ∧ 10 ∈ [2, 3, 4, 5, 7, 8, 10] :=
  ⟨hall_serves, by decide, by decide, by decide⟩

theorem witness_ForecastQueryComputes : hall.serves 1 ∧ hall.overdue.clock = .running
    ∧ State.reset.serves 1 ∧ State.reset.overdue.clock ≠ .running
    ∧ State.reset.overdue.forecast.computed = false :=
  ⟨hall_serves, rfl, ⟨rfl, by decide, by decide⟩, by decide, rfl⟩

theorem witness_MinuteEventAdvancesTheClock : hall.powered = true ∧ hall.overdue.clock = .running
    ∧ State.reset.powered = true ∧ State.reset.overdue.clock ≠ .running := by decide

/-- `hall` with the lateness scan at a slot. -/
def atSlot (sl m : Nat) : State := { hall with overdue := { hall.overdue with scan := ⟨true, m, sl, none⟩ } }
/-- `hall` with contract 8 at a stored tier, reminded at a base, the scan at its slot. -/
def late (tier : Tier) (base m : Nat) : State := { atSlot 1 m with contracts := { hall.contracts with
  slots := hall.contracts.slots.set 1 (some { booking 8 .out none (some 1) with
    tier := tier, reminderBase := base }) } }
/-- `hall` with ticket 7's window ended before the scan minute. -/
def lapsing : State := { atSlot 0 1001 with contracts := { hall.contracts with
  slots := hall.contracts.slots.set 0 (some { booking 7 .ticket (some 123456) none with
    windowEnd := some 1000 }) } }

theorem witness_ScanVisitsTakeTheSlot :
    ((atSlot 0 1000).powered = true ∧ (atSlot 0 1000).overdue.scan.scanning = true
      ∧ (atSlot 0 1000).overdue.scan.nextSlot = (0 : Slot).val ∧ (atSlot 0 1000).slot 4 = none)
    ∧ ((atSlot 511 1000).overdue.scan.nextSlot = (511 : Slot).val ∧ (511 : Slot).val = 511)
    ∧ (lapsing.slot 0).map Contract.windowEnd = some (some 1000)
    ∧ (late .none 0 2030).key 1 = some (keyAt 1002 (.out 8))
    ∧ TierAt (hall.policy 0) (booking 8 .out none (some 1)) 2030 .late1
    ∧ TierAt (hall.policy 0) (booking 8 .out none (some 1)) 2029 .soon
    ∧ TierAt (hall.policy 0) (booking 8 .out none (some 1)) 2210 .late2
    ∧ TierAt (hall.policy 0) (booking 8 .out none (some 1)) 3470 .late3
    ∧ (hall.policy 0).reminder ≠ 0
    ∧ ((late .late3 2000 2240).slot 1).map Contract.reminderBase = some 2000
    ∧ 240 ≤ 2240 - 2000 ∧ 2239 - 2000 < 240 := by
  refine ⟨by decide +kernel, by decide +kernel, by decide +kernel, by decide +kernel, ?_, ?_, ?_, ?_,
    by decide +kernel, by decide +kernel, by decide, by decide⟩ <;>
    (rw [hall_policy]; unfold TierAt; decide)

theorem witness_StoreIsReadCommittedAndLocked : hall.serves 1 ∧ hall.Working false (.profile .default)
    ∧ (∀ x : StoreRecord, x.name ≠ (5, 0)) ∧ (∀ x : StoreRecord, x.name ≠ (4, 64))
    ∧ staged.serves 1 ∧ staged.store.busy = false ∧ staged.startPending = none
    ∧ staged.store.staging ≠ none ∧ hall.store.staging = none ∧ writing.serves 1
    ∧ writing.store.busy = true := by
  refine ⟨hall_serves, rfl, fun x h => ?_, fun x h => ?_, ⟨rfl, by decide, by decide⟩, rfl, rfl, by decide,
    rfl, ⟨rfl, by decide, by decide⟩, rfl⟩
  · cases x <;> simp [StoreRecord.name] at h
  · cases x <;> simp [StoreRecord.name] at h
    omega

theorem witness_StagePlacesTheRecord : hall.serves 1
    ∧ (StoreRecord.panel 7 ⟨true, true, 3⟩).Encodable ∧ (StoreRecord.panel 7 ⟨true, true, 3⟩).InRange
    ∧ (StoreRecord.panel 7 ⟨true, true, 4⟩).Encodable ∧ ¬ (StoreRecord.panel 7 ⟨true, true, 4⟩).InRange
    ∧ (StoreRecord.badge 1 (some ⟨5, 1, true, [0x41]⟩)).Encodable
    ∧ (StoreRecord.badge 1 (some ⟨5, 1, true, [0x41]⟩)).InRange ∧ badged.serves 1
    ∧ (badged.store.working.badges.get 0).value = some ⟨5, 3, true, [0x41]⟩
    ∧ writing.serves 1 ∧ writing.store.busy = true := by
  refine ⟨hall_serves, ?_, ?_, ?_, ?_, ?_, ?_, ⟨rfl, by decide, by decide⟩, ?_, ⟨rfl, by decide, by decide⟩,
    rfl⟩
  case refine_7 => rw [badged_place]; rfl
  all_goals simp only [StoreRecord.Encodable, StoreRecord.InRange, LabelOk]; decide

theorem witness_WriteCompletionTakesEffect : hall.powered = true ∧ hall.store.busy = false
    ∧ writing.powered = true ∧ writing.store.busy = true
    ∧ writing.store.staging = some (.panel 4 ⟨true, true, 2⟩)
    ∧ (StoreRecord.badge 1 none).name.1 = 4 ∧ (kioskIn (staffed 3 [])).kiosk.mode = .staff
    ∧ (kioskIn (staffed 3 [])).kiosk.badge = some (5, 3) := by decide

theorem hall_steps : ∃ t, step hall = .next t := ⟨_, rfl⟩

theorem witness_QueuesAreKept : (∃ t, step hall = .next t) ∧ hall.notices.RingOk ∧ hall.link.Ok
    ∧ hall.DropOk := ⟨hall_steps, hall_lawful.1, hall_lawful.2.1, hall_lawful.2.2.1⟩

theorem witness_CabinetIsKept : (∃ t, step working = .next t) ∧ working.CabinetOk :=
  ⟨⟨_, rfl⟩, working_cabinet⟩

theorem witness_LocationsAndContractsAreKept : (∃ t, step working = .next t) ∧ working.LocationOk
    ∧ working.CabinetOk ∧ working.ContractsOk :=
  ⟨⟨_, rfl⟩, working_location, working_cabinet, working_contracts⟩

/-- A cold start at the front of the queue: the one event that empties the contract table. -/
theorem witness_LocationsAndContractsAreKept_cold :
    StartOf { replied (.start true) with pending := [.frameSent] } .frameSent true true :=
  .inr ⟨rfl, rfl, rfl, rfl, rfl⟩

theorem hall_availExact : hall.AvailExact := by
  intro k r hr hm
  obtain ⟨⟨n, hn, -⟩, -⟩ := hm
  have h : hall.enrolled.all (fun x => x.1 == 0 || match x.2.location with
      | .compartment _ => false
      | _ => true) = true := by decide +kernel
  have := List.all_eq_true.mp h _ (mem_enrolled.mpr hr)
  simp only [hn, Bool.or_false, beq_iff_eq] at this
  subst this
  rw [hall_key0, Option.some.injEq] at hr
  subst hr
  rw [hall_list]
  exact List.mem_singleton.mpr rfl

theorem hall_inService (n : CompId) : (hall.comp n).service = .inService := by
  have h : (hall.cabinet.all fun x => x.2.service == .inService) = true := by decide +kernel
  simpa using forall_comp (p := fun _ c => c.service == .inService) h n

theorem witness_AvailabilityIsKept : (∃ t, step hall = .next t
      ∧ ∀ n, (hall.comp n).service = .outOfService → (t.comp n).service = .outOfService)
    ∧ hall.Lawful ∧ hall.AvailOk ∧ hall.AvailBehindDoors ∧ hall.AvailExact :=
  ⟨hall_steps.imp fun _ h => ⟨h, fun n hn => by simp [hall_inService] at hn⟩, hall_lawful, hall_avail,
    fun k r _ hr hm _ _ => hall_availExact k r hr hm, hall_availExact⟩

theorem hall_attention : hall.AttentionOk := attentionOk_of_attend (by decide +kernel)

theorem witness_AttentionIsKept : (∃ t, step hall = .next t) ∧ hall.Lawful ∧ hall.AttentionOk
    ∧ hall.ReportOk := ⟨hall_steps, hall_lawful, hall_attention, fun _ => rfl⟩

end Sys2Proof.Tests
end

section
/-! SUPPORT. What one step can do to the key table, the compartments and the contract table, said once: every command
leaves them as one named operation of the model leaves them (`Op`), or makes a start. -/

namespace Sys2Proof.Machine

/-! ### States that agree on the records -/

/-- `t` has the key table, the compartments and the contract table of `s`. -/
structure SameRecords (s t : State) : Prop where
  keys : t.keys = s.keys
  compartments : t.compartments = s.compartments
  contracts : t.contracts = s.contracts

/-- `t` has these records and the scan list of `s`. -/
structure SameBasis (s t : State) : Prop extends SameRecords s t where
  scanner : t.scanner = s.scanner

theorem SameRecords.refl (s : State) : SameRecords s s := ⟨rfl, rfl, rfl⟩

theorem SameRecords.trans {s t u : State} (h : SameRecords s t) (g : SameRecords t u) : SameRecords s u :=
  ⟨g.keys.trans h.keys, g.compartments.trans h.compartments, g.contracts.trans h.contracts⟩

theorem SameBasis.refl (s : State) : SameBasis s s := ⟨.refl s, rfl⟩

theorem SameRecords.key {s t : State} (h : SameRecords s t) (k : KeyId) : t.key k = s.key k := by
  rw [State.key, h.keys]; rfl

theorem SameRecords.comp {s t : State} (h : SameRecords s t) (n : CompId) : t.comp n = s.comp n := by
  rw [State.comp, h.compartments]; rfl

theorem SameRecords.slot {s t : State} (h : SameRecords s t) (sl : Slot) : t.slot sl = s.slot sl := by
  rw [State.slot, h.contracts]; rfl

theorem State.enter_same (s : State) (b : NoticeBody) : SameBasis s (s.enter b) := ⟨⟨rfl, rfl, rfl⟩, rfl⟩

theorem State.attend_same (s : State) : SameBasis s s.attend := ⟨⟨rfl, rfl, rfl⟩, rfl⟩

theorem State.transmit_same (b : Bool) (s : State) : SameBasis s (s.transmit b) := by
  rw [s.transmit_frame b]
  exact ⟨⟨rfl, rfl, rfl⟩, rfl⟩

theorem State.settle_same (s : State) : SameRecords s s.settle :=
  s.attend_same.toSameRecords.trans (s.attend.transmit_same false).toSameRecords

theorem State.sweepCheck_same (s : State) : SameRecords s s.sweepCheck := by
  rw [State.sweepCheck_eq]
  split <;> exact ⟨rfl, rfl, rfl⟩

theorem State.scanStep_same (s : State) : SameRecords s s.scanStep := by
  refine s.sweepCheck_same.trans ?_
  change SameRecords s.sweepCheck s.sweepCheck.startRead
  rw [s.sweepCheck.startRead_kept.2]
  exact ⟨rfl, rfl, rfl⟩

theorem State.concluded_same (s : State) : SameRecords s s.concluded :=
  s.scanStep_same.trans s.scanStep.attend_same.toSameRecords

theorem State.finish_same (s : State) : SameRecords s s.finish := s.scanStep_same.trans s.scanStep.settle_same

theorem State.pushReply_same (s : State) (r : Reply) : SameRecords s (s.pushReply r) := by
  rw [(s.pushReply_sent r).1]
  exact ⟨rfl, rfl, rfl⟩

theorem State.computeForecast_same (s : State) (m : Nat) : SameRecords s (s.computeForecast m) := by
  unfold State.computeForecast
  dsimp only
  split <;> exact ⟨rfl, rfl, rfl⟩

theorem State.losePower_same (s : State) : SameBasis s s.losePower := by
  unfold State.losePower
  dsimp only
  split <;> exact ⟨⟨rfl, rfl, rfl⟩, rfl⟩

/-! ### The operations -/

/-- `Op s t`: `t` is what one operation of the model leaves of `s`, with what the command has checked before it.
The names are those of the operations. -/
inductive Op : State → State → Prop
  | nothing (s) : Op s s
  | enrol {s k tag f} (hfree : s.key k = none) (hnew : s.keyOfTag tag = none) : Op s (s.enrol k tag f)
  | editKey {s k r f} (hk : s.key k = some r) : Op s (s.editKey k r f)
  | removeKey {s k r} (hk : s.key k = some r) (hn : s.named k = false) (hl : r.location.fixed = false) :
      Op s (s.removeKey k)
  | holdKey {s k r h} (hk : s.key k = some r) : Op s (s.holdKey k r h)
  | checkKey {s k r} (hk : s.key k = some r) : Op s (s.checkKey k r)
  | issue {s sl c} (hsl : s.slot sl = none) (hst : c.state = .ticket) (hnum : s.slotOf c.number = none)
      (hcode : ∀ x, c.code = some x → s.contracts.codeSlot x = none) : Op s (s.issue sl c)
  | amend {s sl c a} (hsl : s.slot sl = some c) (hst : a.wrongState c.state = false)
      (hcode : s.codeTaken sl a.code = false) : Op s (s.amend sl c a)
  | voidTicket {s sl c} (hsl : s.slot sl = some c) (hst : c.state = .ticket ∨ c.state = .suspended) :
      Op s (s.voidTicket sl c)
  | resumeTicket {s sl c} (hsl : s.slot sl = some c) (hst : c.state = .suspended) : Op s (s.resumeTicket sl)
  | retire {s sl c} (hsl : s.slot sl = some c) (hst : c.state.finished = true) : Op s (s.retire sl)
  | pickup {s sl c k o n t} (hsl : s.slot sl = some c) (hst : c.state = .ticket)
      (ht : s.startPickup c.number k o = .started n t) : Op s t
  | pickupUndone {s sl c k o t} (hsl : s.slot sl = some c) (hst : c.state = .ticket)
      (ht : s.startPickup c.number k o = .undone t) : Op s t
  | returnStarted {s tag n t} (ht : s.answerTag tag = (.taken n, t)) : Op s t
  | release {s n r t} (hr : (∃ b, r.purpose = .staff b) ∨ r.purpose = .link)
      (ht : s.requestRelease n r = .ok t) : Op s t
  | cancel {s n t} (ht : s.cancelRelease n = some t) : Op s t
  | forceClose {s sl c} (hsl : s.slot sl = some c) (hst : c.isOpen = true) : Op s (s.forceClose c)
  | outOfService (s n) : Op s (s.outOfService n)
  | backInService {s n} (hd : (s.comp n).door.allowsService = true) : Op s (s.backInService n)
  | requestSweep (s n) : Op s (s.requestSweep n)
  | sweepAll (s) : Op s s.sweepAll
  | openUnder {s n} (hd : (s.comp n).door = .unlatched) : Op s (s.openUnder n)
  | forceOpen {s n} (hd : (s.comp n).door ≠ .unlatched) : Op s (s.forceOpen n)
  | closeDoor (s n) : Op s (s.closeDoor n)
  | windowEnd {s n} (hd : (s.comp n).door = .unlatched) :
      Op s (((s.freeChannel n).modifyComp n fun c => { c with door := s.lockedDoor n }).arbitrate.endRelease n
        .expired)
  | holdEnd (s n) : Op s (s.modifyComp n fun c => { c with door := .leftOpen, hold := none })
  | scan (s n tags) : Op s (s.completeRead n tags)
  | chute (s tag) : Op s (s.chute tag)
  | clearDrop (s) : Op s s.clearDrop
  | visitSlot (s sl m) : Op s (s.visitSlot sl m)
  | clearForced (s) : Op s s.clearForced
  | count (s) : Op s s.countAll

/-- The records of `t` are those that one operation leaves of `s`. -/
def Effect (s t : State) : Prop := ∃ v, Op s v ∧ SameRecords v t

theorem Effect.op {s t : State} (h : Op s t) : Effect s t := ⟨t, h, .refl t⟩

theorem Effect.none {s t : State} (h : SameRecords s t) : Effect s t := ⟨s, .nothing s, h⟩

theorem Effect.then {s t u : State} (h : Effect s t) (g : SameRecords t u) : Effect s u :=
  let ⟨v, hv, hs⟩ := h
  ⟨v, hv, hs.trans g⟩

/-- An effect on a state with the records and the scan list of `s`. -/
def Event (s t : State) : Prop := ∃ a, SameBasis s a ∧ Effect a t

theorem Effect.event {s t : State} (h : Effect s t) : Event s t := ⟨s, .refl s, h⟩

/-! ### Requests -/

theorem State.keyField_ok {s : State} {body : List Byte} {i : Nat} {k : KeyId} {r : KeyRecord}
    (h : s.keyField body i = .ok (k, r)) : s.key k = some r := by
  unfold State.keyField at h
  split at h
  · cases h
  · split at h
    · next hk => cases h; exact hk
    · cases h

theorem State.contractField_ok {s : State} {body : List Byte} {i : Nat} {sl : Slot} {c : Contract}
    (h : s.contractField body i = .ok (sl, c)) : s.slot sl = some c := by
  unfold State.contractField at h
  split at h
  · cases h
  · split at h
    · next hk => cases h; exact hk
    · cases h

/-- What a handler takes is an operation. -/
def Handled (h : Handler) : Prop := ∀ s u, h s = .ok u → Effect s u.state

theorem Handled.expect {h : Handler} (hh : Handled h) (body : List Byte) (n : Nat) :
    Handled (expectLength body n h) := by
  intro s u hu
  unfold expectLength at hu
  split at hu
  · exact hh s u hu
  · cases hu

end Sys2Proof.Machine
end

section
namespace Sys2Proof.Machine

/-! ### What each handler takes -/

/-- A handler that answers from the state, and leaves its records as they are. -/
theorem Handled.quiet {h : Handler} (hh : ∀ s u, h s = .ok u → SameRecords s u.state) : Handled h :=
  fun s u hu => .none (hh s u hu)

theorem Table.isNone_of_find {α : Type} {n : Nat} {t : Table (Option α) n} {i : Fin n}
    (h : t.find Option.isNone = some i) : t.get i = none := by
  simpa using Table.get_of_find h

theorem statusHandler_handled (body : List Byte) : Handled (statusHandler body) :=
  .expect (.quiet fun s u hu => by cases hu; exact ⟨rfl, rfl, rfl⟩) _ _

theorem setClockHandler_handled (body : List Byte) : Handled (setClockHandler body) :=
  .expect (.quiet fun s u hu => by cases hu; exact ⟨rfl, rfl, rfl⟩) _ _

theorem setModeHandler_handled (body : List Byte) : Handled (setModeHandler body) :=
  .expect (.quiet fun s u hu => by
    dsimp only at hu
    split at hu
    · cases hu
    · cases hu; exact ⟨rfl, rfl, rfl⟩) _ _

theorem startHandler_handled (cold : Bool) (body : List Byte) : Handled (startHandler cold body) :=
  .expect (.quiet fun s u hu => by
    split at hu
    · cases hu
    · cases hu; exact ⟨rfl, rfl, rfl⟩) _ _

theorem timebaseHandler_handled (body : List Byte) : Handled (timebaseHandler body) :=
  .expect (.quiet fun s u hu => by
    dsimp only at hu
    split at hu
    · cases hu
    split at hu
    · cases hu
    split at hu
    · cases hu
    · cases hu; exact ⟨rfl, rfl, rfl⟩) _ _

theorem keyEnrolHandler_handled (body : List Byte) : Handled (keyEnrolHandler body) :=
  .expect (fun s u hu => by
    dsimp only at hu
    split at hu
    · cases hu
    split at hu
    · cases hu
    split at hu
    · cases hu
    next hnew =>
    split at hu
    · cases hu
    next k hk =>
    cases hu
    exact (Effect.op (.enrol (Table.isNone_of_find hk) (by simpa using hnew))).then (State.concluded_same _)) _ _

theorem keyEditHandler_handled (body : List Byte) : Handled (keyEditHandler body) :=
  .expect (fun s u hu => by
    split at hu
    · cases hu
    next k r hk =>
    split at hu
    · cases hu
    · cases hu; exact .op (.editKey (State.keyField_ok hk))) _ _

theorem keyRemoveHandler_handled (body : List Byte) : Handled (keyRemoveHandler body) :=
  .expect (fun s u hu => by
    split at hu
    · cases hu
    next k r hk =>
    split at hu
    · cases hu
    next hr =>
    cases hu
    obtain ⟨hn, hl⟩ := not_or.mp hr
    exact (Effect.op (.removeKey (State.keyField_ok hk) (by simpa using hn) (by simpa using hl))).then
      (State.attend_same _).toSameRecords) _ _

theorem keyQueryHandler_handled (body : List Byte) : Handled (keyQueryHandler body) :=
  .quiet fun s u hu => by
    unfold keyQueryHandler at hu
    split at hu
    · cases hu
    dsimp only at hu
    split at hu
    · cases hu
    · cases hu; exact .refl s

theorem keyHoldHandler_handled (body : List Byte) : Handled (keyHoldHandler body) :=
  .expect (fun s u hu => by
    split at hu
    · cases hu
    next k r hk =>
    split at hu
    · cases hu
    · cases hu; exact .op (.holdKey (State.keyField_ok hk))) _ _

theorem keyCheckedHandler_handled (body : List Byte) : Handled (keyCheckedHandler body) :=
  .expect (fun s u hu => by
    split at hu
    · cases hu
    next k r hk =>
    cases hu; exact .op (.checkKey (State.keyField_ok hk))) _ _

theorem availQueryHandler_handled (body : List Byte) : Handled (availQueryHandler body) :=
  .expect (.quiet fun s u hu => by
    split at hu
    · cases hu; exact .refl s
    split at hu
    · cases hu
    · cases hu; exact .refl s) _ _

theorem bookingOf_ticket {body : List Byte} {c : Contract} (h : bookingOf body = some (some c)) :
    c.state = .ticket := by
  unfold bookingOf at h
  split at h
  · split at h
    · cases h
    · obtain ⟨e, -, rfl⟩ := Option.map_eq_some_iff.mp (Option.some.inj h)
      rfl
  · cases h

theorem issueHandler_handled (body : List Byte) : Handled (issueHandler body) :=
  .expect (fun s u hu => by
    split at hu
    · cases hu
    · cases hu
    next c hc =>
    split at hu
    · cases hu
    split at hu
    · cases hu
    next hfree =>
    split at hu
    · cases hu
    split at hu
    · cases hu
    next sl hsl =>
    cases hu
    obtain ⟨hnum, hcode⟩ := not_or.mp hfree
    exact .op (.issue (Table.isNone_of_find hsl) (bookingOf_ticket hc) (by simpa using hnum)
      (fun x hx => by simpa [hx] using hcode))) _ _

theorem amendHandler_handled (body : List Byte) : Handled (amendHandler body) :=
  .expect (fun s u hu => by
    dsimp only at hu
    split at hu
    · cases hu
    split at hu
    · cases hu
    next sl c hsl =>
    split at hu
    · cases hu
    next hst =>
    split at hu
    · cases hu
    split at hu
    · cases hu
    next hcode =>
    split at hu
    · cases hu
    cases hu
    exact (Effect.op (.amend (State.contractField_ok hsl) (by simpa using hst) (by simpa using hcode))).then
      (State.attend_same _).toSameRecords) _ _

theorem State.counterPickup_ok {s : State} {sl : Slot} {c : Contract} {k : KeyId} {u : Taken}
    (hsl : s.slot sl = some c) (hst : c.state = .ticket) (hu : s.counterPickup c.number k = .ok u) :
    Effect s u.state := by
  unfold State.counterPickup at hu
  split at hu
  · next h => cases hu; exact .op (.pickup hsl hst h)
  · next h => cases hu; exact .op (.pickupUndone hsl hst h)
  · cases hu

theorem State.handoutNamed_ok {s : State} {sl : Slot} {c : Contract} {k : KeyId} {u : Taken}
    (hsl : s.slot sl = some c) (hst : c.state = .ticket) (hu : s.handoutNamed c.number k = .ok u) :
    Effect s u.state := by
  unfold State.handoutNamed at hu
  split at hu
  · cases hu
  split at hu
  · cases hu
  split at hu
  · exact State.counterPickup_ok hsl hst hu
  · cases hu

theorem State.handoutTicket_ok {s : State} {sl : Slot} {c : Contract} {named : Option KeyId} {u : Taken}
    (hsl : s.slot sl = some c) (hst : c.state = .ticket) (hu : s.handoutTicket c named = .ok u) :
    Effect s u.state := by
  unfold State.handoutTicket at hu
  split at hu
  · exact State.handoutNamed_ok hsl hst hu
  · exact State.handoutNamed_ok hsl hst hu
  · split at hu
    · cases hu
    · exact State.counterPickup_ok hsl hst hu

theorem handoutHandler_handled (body : List Byte) : Handled (handoutHandler body) :=
  .expect (fun s u hu => by
    dsimp only at hu
    split at hu
    · cases hu
    split at hu
    · cases hu
    next sl c hsl =>
    split at hu
    · cases hu
    split at hu
    · cases hu
    next hst =>
    exact State.handoutTicket_ok (State.contractField_ok hsl) (by simpa using hst) hu) _ _

theorem cancelHandler_handled (body : List Byte) : Handled (cancelHandler body) :=
  .expect (fun s u hu => by
    split at hu
    · cases hu
    next sl c hsl =>
    split at hu
    · cases hu
    next hst =>
    cases hu
    exact .op (.voidTicket (State.contractField_ok hsl) (by tauto))) _ _

theorem resumeHandler_handled (body : List Byte) : Handled (resumeHandler body) :=
  .expect (fun s u hu => by
    split at hu
    · cases hu
    next sl c hsl =>
    split at hu
    · cases hu
    next hst =>
    cases hu
    exact .op (.resumeTicket (State.contractField_ok hsl) (by simpa using hst))) _ _

theorem forceCloseHandler_handled (body : List Byte) : Handled (forceCloseHandler body) :=
  .expect (fun s u hu => by
    dsimp only at hu
    split at hu
    · cases hu
    next sl c hsl =>
    split at hu
    · next hst =>
      cases hu
      exact (Effect.op (.forceClose (State.contractField_ok hsl) hst)).then (State.concluded_same _)
    · cases hu) _ _

theorem retireHandler_handled (body : List Byte) : Handled (retireHandler body) :=
  .expect (fun s u hu => by
    split at hu
    · cases hu
    next sl c hsl =>
    split at hu
    · next hst => cases hu; exact .op (.retire (State.contractField_ok hsl) hst)
    · cases hu) _ _

theorem contractQueryHandler_handled (body : List Byte) : Handled (contractQueryHandler body) :=
  .expect (.quiet fun s u hu => by
    split at hu
    · cases hu
    · cases hu; exact .refl s) _ _

theorem listLateHandler_handled (body : List Byte) : Handled (listLateHandler body) :=
  .expect (.quiet fun s u hu => by
    dsimp only at hu
    split at hu
    · cases hu
    · cases hu; exact .refl s) _ _

theorem openHandler_handled (body : List Byte) : Handled (openHandler body) :=
  .expect (fun s u hu => by
    split at hu
    · cases hu
    split at hu
    · cases hu
    next h => cases hu; exact .op (.release (.inr rfl) h)) _ _

theorem cancelReleaseHandler_handled (body : List Byte) : Handled (cancelReleaseHandler body) :=
  .expect (fun s u hu => by
    split at hu
    · cases hu
    split at hu
    · cases hu
    next h => cases hu; exact (Effect.op (.cancel h)).then (State.concluded_same _)) _ _

theorem serviceHandler_handled (body : List Byte) : Handled (serviceHandler body) :=
  .expect (fun s u hu => by
    split at hu
    · cases hu
    next n hn =>
    split at hu
    · cases hu
    next out hout =>
    split at hu
    · next hd =>
      cases hu
      refine Effect.then (.op ?_) (State.concluded_same _)
      split
      · exact .outOfService s n
      · exact .backInService hd
    · cases hu) _ _

theorem compartmentQueryHandler_handled (body : List Byte) : Handled (compartmentQueryHandler body) :=
  .expect (.quiet fun s u hu => by
    split at hu
    · cases hu
    · cases hu; exact .refl s) _ _

theorem rescanHandler_handled (body : List Byte) : Handled (rescanHandler body) :=
  .expect (fun s u hu => by
    split at hu
    · cases hu; exact (Effect.op (.sweepAll s)).then (State.concluded_same _)
    split at hu
    · cases hu
    next n hn =>
    split at hu
    · cases hu; exact (Effect.op (.requestSweep s n)).then (State.concluded_same _)
    · cases hu) _ _

theorem dropQueryHandler_handled (body : List Byte) : Handled (dropQueryHandler body) :=
  .expect (.quiet fun s u hu => by cases hu; exact .refl s) _ _

theorem State.emptyDrop_same (s : State) (reason : EmptyReason) :
    SameRecords s.clearDrop (s.emptyDrop reason) := by
  exact (State.enter_same _ _).toSameRecords

theorem dropEmptiedHandler_handled (body : List Byte) : Handled (dropEmptiedHandler body) :=
  .expect (fun s u hu => by
    cases hu
    exact (Effect.op (.clearDrop s)).then
      ((State.emptyDrop_same s .message).trans (State.attend_same _).toSameRecords)) _ _

theorem fetchHandler_handled (body : List Byte) : Handled (fetchHandler body) :=
  .expect (.quiet fun s u hu => by cases hu; exact .refl s) _ _

theorem consumeHandler_handled (body : List Byte) : Handled (consumeHandler body) :=
  .expect (.quiet fun s u hu => by
    split at hu
    · cases hu
    · cases hu
      exact SameRecords.trans (t := s.dropNotices _) ⟨rfl, rfl, rfl⟩ (State.attend_same _).toSameRecords) _ _

theorem attentionQueryHandler_handled (body : List Byte) : Handled (attentionQueryHandler body) :=
  .expect (.quiet fun s u hu => by cases hu; exact .refl s) _ _

theorem State.answerCall_same (s : State) : SameRecords s s.answerCall := by
  unfold State.answerCall
  dsimp only
  split <;> exact ⟨rfl, rfl, rfl⟩

theorem State.acknowledge_ok {s t : State} {code : Nat} (h : s.acknowledge code = .ok t) : Effect s t := by
  unfold State.acknowledge at h
  split at h <;> cases h
  · exact .op (.clearForced s)
  · exact .none (s.answerCall_same)
  · exact .none ⟨rfl, rfl, rfl⟩

theorem acknowledgeHandler_handled (body : List Byte) : Handled (acknowledgeHandler body) :=
  .expect (fun s u hu => by
    dsimp only at hu
    split at hu
    · cases hu
    next h => cases hu; exact (State.acknowledge_ok h).then (State.attend_same _).toSameRecords) _ _

theorem forecastQueryHandler_handled (body : List Byte) : Handled (forecastQueryHandler body) :=
  .expect (.quiet fun s u hu => by
    dsimp only at hu
    split at hu
    · next m hm =>
      cases hu
      exact (s.computeForecast_same m).trans (State.attend_same _).toSameRecords
    · split at hu
      · cases hu; exact .refl s
      · cases hu) _ _

theorem storeReadHandler_handled (body : List Byte) : Handled (storeReadHandler body) :=
  .expect (.quiet fun s u hu => by
    split at hu
    · cases hu
    · cases hu; exact .refl s) _ _

theorem storeStageHandler_handled (body : List Byte) : Handled (storeStageHandler body) :=
  .quiet fun s u hu => by
    unfold storeStageHandler at hu
    split at hu
    · cases hu
    split at hu
    · cases hu
    split at hu
    · cases hu
    split at hu
    · cases hu
    split at hu
    · cases hu
    split at hu
    · cases hu
    · cases hu; exact ⟨rfl, rfl, rfl⟩

theorem storeCommitHandler_handled (body : List Byte) : Handled (storeCommitHandler body) :=
  .expect (.quiet fun s u hu => by
    dsimp only at hu
    split at hu
    · cases hu
    split at hu
    · cases hu
    · cases hu; exact ⟨rfl, rfl, rfl⟩) _ _

theorem profileLockHandler_handled (body : List Byte) : Handled (profileLockHandler body) :=
  .expect (.quiet fun s u hu => by
    split at hu
    · cases hu
    · cases hu; exact ⟨rfl, rfl, rfl⟩) _ _

/-- The entry of every kind takes one operation. -/
theorem handlerOf_handled (kind : Byte) (body : List Byte) : Handled (handlerOf kind body) := by
  unfold handlerOf
  split
  case h_1 => exact statusHandler_handled body
  case h_2 => exact setClockHandler_handled body
  case h_3 => exact setModeHandler_handled body
  case h_4 | h_5 => exact startHandler_handled _ body
  case h_6 => exact timebaseHandler_handled body
  case h_7 => exact keyEnrolHandler_handled body
  case h_8 => exact keyEditHandler_handled body
  case h_9 => exact keyRemoveHandler_handled body
  case h_10 => exact keyQueryHandler_handled body
  case h_11 => exact keyHoldHandler_handled body
  case h_12 => exact keyCheckedHandler_handled body
  case h_13 => exact availQueryHandler_handled body
  case h_14 => exact issueHandler_handled body
  case h_15 => exact amendHandler_handled body
  case h_16 => exact handoutHandler_handled body
  case h_17 => exact cancelHandler_handled body
  case h_18 => exact resumeHandler_handled body
  case h_19 => exact forceCloseHandler_handled body
  case h_20 => exact retireHandler_handled body
  case h_21 => exact contractQueryHandler_handled body
  case h_22 => exact listLateHandler_handled body
  case h_23 => exact openHandler_handled body
  case h_24 => exact cancelReleaseHandler_handled body
  case h_25 => exact serviceHandler_handled body
  case h_26 => exact compartmentQueryHandler_handled body
  case h_27 => exact rescanHandler_handled body
  case h_28 => exact dropQueryHandler_handled body
  case h_29 => exact dropEmptiedHandler_handled body
  case h_30 => exact fetchHandler_handled body
  case h_31 => exact consumeHandler_handled body
  case h_32 => exact attentionQueryHandler_handled body
  case h_33 => exact acknowledgeHandler_handled body
  case h_34 => exact forecastQueryHandler_handled body
  case h_35 => exact storeReadHandler_handled body
  case h_36 => exact storeStageHandler_handled body
  case h_37 => exact storeCommitHandler_handled body
  case h_38 => exact profileLockHandler_handled body
  case h_39 => intro s u hu; cases hu

/-- A delivered frame: discarded, refused, or its handler's operation (R172). -/
theorem State.deliver_event {h : Handler} (hh : Handled h) (s : State) (kind tg : Byte) :
    Event s (s.deliver kind tg h) := by
  unfold State.deliver
  split
  · exact ⟨s, .refl s, .none ⟨rfl, rfl, rfl⟩⟩
  · refine ⟨s.frameEnd, ⟨⟨rfl, rfl, rfl⟩, rfl⟩, ?_⟩
    split
    · next hu => exact (hh _ _ hu).then (State.pushReply_same _ _)
    · exact .none (State.pushReply_same _ _)

end Sys2Proof.Machine
end

section
namespace Sys2Proof.Machine

/-! ### Events that are not requests -/

theorem State.taken_next {s u t : State} (h : s.taken u = .next t) : t = u ∨ t = s := by
  unfold State.taken at h
  cases h
  split
  · exact .inl rfl
  · exact .inr rfl

/-- What an event leaves is an effect, whether the part took it or has no power. -/
theorem Event.of_taken {s u t : State} (h : s.taken u = .next t) (hu : Event s u) : Event s t := by
  rcases State.taken_next h with rfl | rfl
  · exact hu
  · exact Effect.event (.none (.refl _))

theorem Event.of_same {s t : State} (h : SameRecords s t) : Event s t := (Effect.none h).event

theorem Event.of_op {s t u : State} (h : Op s t) (g : SameRecords t u) : Event s u := ((Effect.op h).then g).event

/-- A single byte of the line goes on with a frame, or completes a request (R170, R172). -/
theorem State.receiveByte_event (s : State) (b : Byte) : Event s (s.receiveByte b) := by
  have hd : Event s s.discard := .of_same ⟨rfl, rfl, rfl⟩
  have hr : ∀ r, Event s (s.receiving r) := fun r => .of_same ⟨rfl, rfl, rfl⟩
  unfold State.receiveByte
  split
  · split
    · exact hr _
    · exact .of_same (.refl s)
  · split
    · exact hr _
    · exact hd
  · split
    · exact hr _
    · exact hr _
  · split
    · unfold State.completeFrame
      split
      · exact hd
      · exact State.deliver_event (handlerOf_handled _ _) s _ _
    · exact hd
    · exact hd

theorem State.giveUpFrame_same (s : State) : SameRecords s s.giveUpFrame := by
  unfold State.giveUpFrame
  split <;> exact ⟨rfl, rfl, rfl⟩

theorem State.doorOpened_event (s : State) (n : CompId) : Event s (s.doorOpened n) := by
  have hf : (s.comp n).door ≠ .unlatched → Event s (s.forceOpen n).finish := fun h =>
    .of_op (.forceOpen h) (State.finish_same _)
  unfold State.doorOpened
  split
  case h_1 hd => exact .of_op (.openUnder hd) (State.finish_same _)
  case h_2 hd | h_3 hd | h_4 hd | h_5 hd => exact hf (by simp [hd])
  case h_6 | h_7 | h_8 => exact .of_same (.refl s)

theorem State.doorClosed_event (s : State) (n : CompId) : Event s (s.doorClosed n) := by
  have hc : Event s (s.closeDoor n).finish := .of_op (.closeDoor s n) (State.finish_same _)
  unfold State.doorClosed
  split
  case h_1 | h_2 | h_3 => exact hc
  all_goals exact .of_same (.refl s)

theorem State.staffDoorClosed_event (s : State) : Event s s.staffDoorClosed := by
  unfold State.staffDoorClosed
  split
  · exact ⟨s.withDrop { s.drop with staffDoor := .closed }, ⟨⟨rfl, rfl, rfl⟩, rfl⟩, _, .clearDrop _,
      (State.emptyDrop_same _ _).trans (State.settle_same _)⟩
  · exact .of_same (.refl s)

theorem State.staffDoorOpened_same (s : State) : SameRecords s s.staffDoorOpened := by
  unfold State.staffDoorOpened
  split <;> exact ⟨rfl, rfl, rfl⟩

theorem State.raiseCall_same (s : State) : SameRecords s s.raiseCall := by
  unfold State.raiseCall
  split <;> exact ⟨rfl, rfl, rfl⟩

theorem State.withKiosk_same (s : State) (k : Kiosk) : SameBasis s (s.withKiosk k) := ⟨⟨rfl, rfl, rfl⟩, rfl⟩

/-- An event that shows a prompt, enters a notice and settles. -/
theorem State.denied_same (s : State) (k : Kiosk) (b : NoticeBody) :
    SameRecords s ((s.withKiosk k).enter b).settle :=
  (s.withKiosk_same k).trans (((s.withKiosk k).enter_same b).trans (State.settle_same _))

theorem State.wrongCode_same (s : State) : SameRecords s s.wrongCode := by
  unfold State.wrongCode
  split
  · exact s.denied_same _ _
  · exact ⟨rfl, rfl, rfl⟩

theorem State.startPickup_answer {s : State} {sl : Slot} {c : Contract} {k : KeyId} {p : Prompt}
    (hsl : s.slot sl = some c) (hst : c.state = .ticket) :
    Effect s ((s.startPickup c.number k .kiosk).answer s p).2 := by
  unfold PickupStart.answer
  split
  · next h => exact .op (.pickup hsl hst h)
  · next h => exact .op (.pickupUndone hsl hst h)
  · exact .none (.refl s)

theorem State.kioskPickup_effect {s : State} {sl : Slot} {c : Contract} (hsl : s.slot sl = some c)
    (hst : c.state = .ticket) : Effect s (s.kioskPickup c).2 := by
  unfold State.kioskPickup
  split
  · split
    · exact .none (.refl s)
    · exact State.startPickup_answer hsl hst
  · split
    · exact .none (.refl s)
    · exact State.startPickup_answer hsl hst

/-- The answer to a pickup code starts a pickup or changes no record (R70, R71). -/
theorem State.answerCode_effect (s : State) (code : Nat) : Effect s (s.answerCode code).2 := by
  have hn : Effect s s := .none (.refl s)
  unfold State.answerCode
  split
  · exact hn
  next c hc =>
  obtain ⟨sl, -, hsl⟩ := Option.bind_eq_some_iff.mp hc
  split
  case h_3 hst =>
    split
    · exact hn
    split
    · exact hn
    · exact State.kioskPickup_effect hsl hst
  all_goals exact hn

theorem State.submitCode_effect (s : State) : Effect s s.submitCode := by
  unfold State.submitCode
  split
  · exact .none ⟨rfl, rfl, rfl⟩
  split
  · exact .none ⟨rfl, rfl, rfl⟩
  have h := s.answerCode_effect (digitsNumber s.kiosk.digits)
  split
  · next he => rw [he] at h; exact h.then (State.wrongCode_same _)
  · next he => rw [he] at h; exact h.then ⟨rfl, rfl, rfl⟩
  · next he => rw [he] at h; exact h.then ⟨rfl, rfl, rfl⟩

theorem State.staffOpen_effect (s : State) (n : CompId) : Effect s (s.staffOpen n) := by
  unfold State.staffOpen
  dsimp only
  split
  · exact .none (s.denied_same _ _)
  split
  · exact .none ⟨rfl, rfl, rfl⟩
  split
  · exact .none ⟨rfl, rfl, rfl⟩
  · next h => exact (Effect.op (.release (.inl ⟨_, rfl⟩) h)).then ⟨rfl, rfl, rfl⟩

theorem State.acknowledgeForced_event (s : State) : Event s s.acknowledgeForced := by
  unfold State.acknowledgeForced
  dsimp only
  split
  · exact ⟨_, s.withKiosk_same _, _, .clearForced _, State.settle_same _⟩
  · exact .of_same (s.denied_same _ _)

theorem State.staffOk_event (s : State) : Event s s.staffOk := by
  unfold State.staffOk
  split
  · exact s.acknowledgeForced_event
  split
  · exact .of_same ⟨rfl, rfl, rfl⟩
  · exact (s.staffOpen_effect _).event

theorem State.pressOk_event (s : State) : Event s s.pressOk := by
  unfold State.pressOk
  split
  case h_2 => exact s.submitCode_effect.event
  case h_4 => exact s.staffOk_event
  all_goals exact .of_same ⟨rfl, rfl, rfl⟩

theorem State.answerTag_effect (s : State) (tag : Nat) : Effect s (s.answerTag tag).2 := by
  by_cases h : ∃ n, (s.answerTag tag).1 = .taken n
  · obtain ⟨n, hn⟩ := h
    exact .op (.returnStarted (n := n) (Prod.ext hn rfl))
  · have hs : (s.answerTag tag).2 = s := by
      unfold State.answerTag at h ⊢
      split
      · rfl
      split
      · rfl
      split
      · rfl
      · simp_all
    rw [hs]
    exact .none (.refl s)

theorem State.returnTag_effect (s : State) (tag : Nat) : Effect s (s.returnTag tag) := by
  unfold State.returnTag
  split
  · exact .none ⟨rfl, rfl, rfl⟩
  have h := s.answerTag_effect tag
  split
  · next he => rw [he] at h; exact h.then ⟨rfl, rfl, rfl⟩
  · next he => rw [he] at h; exact h.then ⟨rfl, rfl, rfl⟩

theorem State.checkTag_event (s : State) (tag : Nat) : Event s (s.checkTag tag) := by
  unfold State.checkTag
  dsimp only
  split
  · exact .of_same ⟨rfl, rfl, rfl⟩
  split
  · exact .of_same ⟨rfl, rfl, rfl⟩
  next r hr =>
  split
  · exact .of_same (s.denied_same _ _)
  · exact ⟨_, s.withKiosk_same _, .op (.checkKey hr)⟩

theorem State.tagAtPad_event (s : State) (tag : Nat) : Event s (s.tagAtPad tag) := by
  unfold State.tagAtPad
  split
  case h_1 | h_2 | h_3 => exact (s.returnTag_effect tag).event
  case h_5 => exact s.checkTag_event tag
  all_goals exact .of_same ⟨rfl, rfl, rfl⟩

theorem State.examineBadge_same (s : State) (b : Nat) : SameRecords s (s.examineBadge b) := by
  unfold State.examineBadge
  split
  · refine SameRecords.trans ?_ (State.settle_same _)
    exact ⟨rfl, rfl, rfl⟩
  · exact s.denied_same _ _

theorem State.presentBadge_same (s : State) (b : Nat) : SameRecords s (s.presentBadge b) := by
  unfold State.presentBadge
  split
  case h_5 | h_6 => exact ⟨rfl, rfl, rfl⟩
  all_goals exact s.examineBadge_same b

theorem State.longPress_same (s : State) : SameRecords s s.longPress := by
  have hc : ∀ k k' : Kiosk, SameRecords s ((s.withKiosk k).withKiosk k').raiseCall.settle := fun k k' =>
    ((s.withKiosk_same k).trans ((s.withKiosk k).withKiosk_same k').toSameRecords).trans
      ((State.raiseCall_same _).trans (State.settle_same _))
  unfold State.longPress
  dsimp only
  split
  case h_1 | h_2 | h_3 => exact hc _ _
  all_goals exact ⟨rfl, rfl, rfl⟩

theorem State.writeCompleted_same (s : State) (r : StoreRecord) : SameRecords s (s.writeCompleted r) := by
  unfold State.writeCompleted
  refine SameRecords.trans (t := (s.withStore (s.store.complete r)).badgeCommitted r) ?_
    ((State.enter_same _ _).trans (State.settle_same _))
  cases r <;> exact ⟨rfl, rfl, rfl⟩

theorem State.advanceClock_same (s : State) : SameRecords s s.advanceClock := by
  unfold State.advanceClock
  split <;> exact ⟨rfl, rfl, rfl⟩

theorem State.withOverdue_same (s : State) (x : Overdue) : SameRecords s (s.withOverdue x) := ⟨rfl, rfl, rfl⟩

theorem State.endScan_same (s : State) : SameRecords s s.endScan := by
  unfold State.endScan
  exact (s.computeForecast_same _).trans ⟨rfl, rfl, rfl⟩

theorem State.visit_effect (s : State) : Effect s s.visit := by
  unfold State.visit
  dsimp only
  split
  · split
    · exact .none (.refl s)
    next sl _ =>
      split
      · exact (Effect.op (.visitSlot s sl _)).then ((State.withOverdue_same _ _).trans (State.endScan_same _))
      · exact (Effect.op (.visitSlot s sl _)).then (State.withOverdue_same _ _)
  · exact .none (.refl s)

theorem State.chuteRead_event (s : State) (tag : Option Nat) :
    Event s (if s.repeatedRead tag then s else (s.chute tag).finish) := by
  split
  · exact .of_same (.refl s)
  · exact .of_op (.chute s tag) (State.finish_same _)

theorem State.scanCompletion_event (s : State) (f : ReadResult) : Event s
    (if s.scanner.list.any (·.reads f.comp) then (s.completeRead f.comp f.tags).finish else s) := by
  split
  · exact .of_op (.scan s _ _) (State.finish_same _)
  · exact .of_same (.refl s)

theorem State.expireHold_event (s : State) (n : CompId) : Event s (s.expireHold n) :=
  .of_op (.holdEnd s n) ((State.enter_same _ _).trans (State.settle_same _))

theorem State.tick_event (s : State) : Event s s.tick := by
  unfold State.tick
  split
  · split <;> exact .of_op (.count s) ⟨rfl, rfl, rfl⟩
  · exact .of_same (.refl s)

theorem State.sendNext_same (s : State) : SameRecords s s.sendNext := by
  unfold State.sendNext
  exact SameRecords.trans (t := s.withLink { s.link with tx := .idle }) ⟨rfl, rfl, rfl⟩
    (State.transmit_same _ _).toSameRecords

/-- The end of a frame's sending changes no record, or is the end of the reply that asked for a start (R178). -/
theorem State.frameSent_cases (s : State) : SameRecords s s.frameSent
    ∨ ∃ (cold : Bool) (a : State), SameBasis s a ∧ s.frameSent = a.start cold true
      ∧ s.link.tx = .reply ∧ s.link.replies.head?.map Reply.effect = some (.start cold) := by
  unfold State.frameSent
  split
  · exact .inl (.refl s)
  · exact .inl s.sendNext_same
  · next htx =>
    split
    · exact .inl s.sendNext_same
    · next r rest hr =>
      dsimp only
      split
      · exact .inl (SameRecords.trans (t := s.withLink { s.link with replies := rest, tx := .idle })
          ⟨rfl, rfl, rfl⟩ (State.sendNext_same _))
      · next cold he =>
        exact .inr ⟨cold, _, ⟨⟨rfl, rfl, rfl⟩, rfl⟩, rfl, htx, by simp [hr, he]⟩
      · refine .inl (SameRecords.trans ?_ (State.sendNext_same _))
        exact ⟨rfl, rfl, rfl⟩

/-! ### Every step -/

/-- `t` is what a start leaves of the records of `s`; only POWER_UP and the end of PURGE's or RESTART's reply make one. -/
def Started (s t : State) (c : Instr) (cold : Bool) : Prop :=
  ∃ (a : State) (byMessage : Bool), SameBasis s a ∧ t = a.start cold byMessage
    ∧ (c = .powerUp cold ∨ StartOf s c cold byMessage)

theorem request_event {s t : State} {kind tg : Byte} {h : Handler} (hh : Handled h)
    (ht : s.request kind tg h = .next t) : Event s t := by
  unfold State.request at ht
  exact .of_taken ht (State.deliver_event hh s _ tg)

/-- A door or staff-door switch has moved, and the part took the event. -/
theorem Event.of_pin {s s' u t : State} (hs : SameBasis s s') (h : s'.taken u = .next t) (hu : Event s' u) :
    Event s t := by
  obtain ⟨a, ha, he⟩ := Event.of_taken h hu
  exact ⟨a, ⟨hs.toSameRecords.trans ha.toSameRecords, ha.scanner.trans hs.scanner⟩, he⟩

/-- Every command leaves the records as one operation does, or makes a start. -/
theorem exec_cases {c : Instr} {s t : State} (h : exec c s = .next t) :
    Event s t ∨ ∃ cold, Started s t c cold := by
  have quiet : ∀ {u : State}, s.taken u = .next t → SameRecords s u → Event s t ∨ ∃ cold, Started s t c cold :=
    fun h hu => .inl (.of_taken h (.of_same hu))
  cases c
  case status => exact .inl (request_event (statusHandler_handled _) h)
  case setClock => exact .inl (request_event (setClockHandler_handled _) h)
  case setMode => exact .inl (request_event (setModeHandler_handled _) h)
  case restart => exact .inl (request_event (startHandler_handled _ _) h)
  case purge => exact .inl (request_event (startHandler_handled _ _) h)
  case timebase => exact .inl (request_event (timebaseHandler_handled _) h)
  case keyEnrol => exact .inl (request_event (keyEnrolHandler_handled _) h)
  case keyEdit => exact .inl (request_event (keyEditHandler_handled _) h)
  case keyRemove => exact .inl (request_event (keyRemoveHandler_handled _) h)
  case keyQuery => exact .inl (request_event (keyQueryHandler_handled _) h)
  case keyHold => exact .inl (request_event (keyHoldHandler_handled _) h)
  case keyChecked => exact .inl (request_event (keyCheckedHandler_handled _) h)
  case availQuery => exact .inl (request_event (availQueryHandler_handled _) h)
  case issue => exact .inl (request_event (issueHandler_handled _) h)
  case amend => exact .inl (request_event (amendHandler_handled _) h)
  case handout => exact .inl (request_event (handoutHandler_handled _) h)
  case cancel => exact .inl (request_event (cancelHandler_handled _) h)
  case resume => exact .inl (request_event (resumeHandler_handled _) h)
  case forceClose => exact .inl (request_event (forceCloseHandler_handled _) h)
  case retire => exact .inl (request_event (retireHandler_handled _) h)
  case contractQuery => exact .inl (request_event (contractQueryHandler_handled _) h)
  case listLate => exact .inl (request_event (listLateHandler_handled _) h)
  case openRelease => exact .inl (request_event (openHandler_handled _) h)
  case cancelRelease => exact .inl (request_event (cancelReleaseHandler_handled _) h)
  case service => exact .inl (request_event (serviceHandler_handled _) h)
  case compartmentQuery => exact .inl (request_event (compartmentQueryHandler_handled _) h)
  case rescan => exact .inl (request_event (rescanHandler_handled _) h)
  case dropQuery => exact .inl (request_event (dropQueryHandler_handled _) h)
  case dropEmptied => exact .inl (request_event (dropEmptiedHandler_handled _) h)
  case fetch => exact .inl (request_event (fetchHandler_handled _) h)
  case consume => exact .inl (request_event (consumeHandler_handled _) h)
  case attentionQuery => exact .inl (request_event (attentionQueryHandler_handled _) h)
  case acknowledge => exact .inl (request_event (acknowledgeHandler_handled _) h)
  case forecastQuery => exact .inl (request_event (forecastQueryHandler_handled _) h)
  case storeRead => exact .inl (request_event (storeReadHandler_handled _) h)
  case storeStage => exact .inl (request_event (storeStageHandler_handled _) h)
  case storeCommit => exact .inl (request_event (storeCommitHandler_handled _) h)
  case profileLock => exact .inl (request_event (profileLockHandler_handled _) h)
  case unknownKind | overrun =>
    exact .inl (.of_taken h (State.deliver_event (handlerOf_handled _ _) s _ _))
  case frameDiscard =>
    refine .inl (.of_taken h ?_)
    unfold State.completeFrame
    split
    · exact .of_same ⟨rfl, rfl, rfl⟩
    · exact State.deliver_event (handlerOf_handled _ _) s _ _
  case badLength b | byteReceived b => exact .inl (.of_taken h (s.receiveByte_event b))
  case stopBitError | idleTimerExpiry => exact quiet h s.giveUpFrame_same
  case frameSent =>
    change s.taken s.frameSent = .next t at h
    by_cases hp : s.powered = true
    · obtain rfl : s.frameSent = t := by simpa [State.taken, hp] using h
      obtain hq | ⟨cold, a, ha, he, htx, hr⟩ := s.frameSent_cases
      · exact .inl (.of_same hq)
      · exact .inr ⟨cold, a, true, ha, he, .inr (.inr ⟨rfl, hp, rfl, htx, hr⟩)⟩
    · obtain rfl : s = t := by simpa [State.taken, hp] using h
      exact .inl (.of_same (.refl s))
  case powerUp b =>
    refine .inr ⟨b, _, false, ?_, (Host.Outcome.next.inj h).symm, .inl rfl⟩
    split
    · exact ⟨⟨s.losePower_same.keys, s.losePower_same.compartments, s.losePower_same.contracts⟩,
        s.losePower_same.scanner⟩
    · exact ⟨⟨rfl, rfl, rfl⟩, rfl⟩
  case storeWriteComplete =>
    refine quiet h ?_
    split
    · exact s.writeCompleted_same _
    · exact .refl s
  case minuteEvent => exact quiet h (SameRecords.trans
    (t := s.withTimeBase { s.timeBase with ticks := 0 }) ⟨rfl, rfl, rfl⟩ (State.advanceClock_same _))
  case latenessScanVisit =>
    refine .inl (.of_taken h ?_)
    split
    · exact (s.visit_effect.then (State.settle_same _)).event
    · exact .of_same (.refl s)
  case doorOpened n =>
    exact .inl (.of_pin (s' := s.movePin n true) ⟨⟨rfl, rfl, rfl⟩, rfl⟩ h (State.doorOpened_event _ n))
  case doorClosed n =>
    exact .inl (.of_pin (s' := s.movePin n false) ⟨⟨rfl, rfl, rfl⟩, rfl⟩ h (State.doorClosed_event _ n))
  case windowExpiry n =>
    refine .inl (.of_taken h ?_)
    split
    · next hd => exact .of_op (.windowEnd hd) (State.finish_same _)
    · exact .of_same (.refl s)
  case holdExpiry n =>
    refine .inl (.of_taken h ?_)
    split
    · exact s.expireHold_event n
    · exact .of_same (.refl s)
  case scanCompletion f => exact .inl (.of_taken h (s.scanCompletion_event f))
  case digitKey | clearKey | callButtonPressed | callButtonReleased => exact quiet h ⟨rfl, rfl, rfl⟩
  case okKey => exact .inl (.of_taken h s.pressOk_event)
  case tagAtPad x => exact .inl (.of_taken h (s.tagAtPad_event x))
  case badgePresented b => exact quiet h (s.presentBadge_same b)
  case longPress => exact quiet h s.longPress_same
  case interDigitExpiry | lockoutExpiry | staffTimerExpiry | resultHoldExpiry | briefPromptExpiry =>
    refine quiet h ?_
    split <;> exact ⟨rfl, rfl, rfl⟩
  case chuteRead x => exact .inl (.of_taken h (s.chuteRead_event x))
  case staffDoorOpened =>
    exact .inl (.of_pin (s' := s.withStaffDoorPin true) ⟨⟨rfl, rfl, rfl⟩, rfl⟩ h
      (.of_same (State.staffDoorOpened_same _)))
  case staffDoorClosed =>
    exact .inl (.of_pin (s' := s.withStaffDoorPin false) ⟨⟨rfl, rfl, rfl⟩, rfl⟩ h
      (State.staffDoorClosed_event _))
  case pagerPulseEnd => exact quiet h ⟨rfl, rfl, rfl⟩
  case powerLoss => exact quiet h s.losePower_same.toSameRecords

/-- Every step leaves the records as one operation does, or its command makes a start. -/
theorem step_cases {s t : State} (h : step s = .next t) :
    Event s t ∨ ∃ c rest cold, s.pending = c :: rest ∧ Started s t c cold := by
  unfold step at h
  split at h
  · cases h
    exact .inl s.tick_event
  · next c rest hp =>
    have hb : SameBasis s (s.withPending rest) := ⟨⟨rfl, rfl, rfl⟩, rfl⟩
    rcases exec_cases h with ⟨a, ha, he⟩ | ⟨cold, a, m, ha, rfl, hc⟩
    · exact .inl ⟨a, ⟨hb.toSameRecords.trans ha.toSameRecords, ha.scanner⟩, he⟩
    · exact .inr ⟨c, rest, cold, hp, a, m, ⟨hb.toSameRecords.trans ha.toSameRecords, ha.scanner⟩, rfl, hc⟩

end Sys2Proof.Machine
end

section
/-! SUPPORT. What the operations of the cabinet leave of its compartments, and what those of the key table leave of
the keys' places. -/

namespace Sys2Proof.Machine

/-! ### Compartments: contents, service, doors and the pickups in flight -/

/-- The contract and the key of a compartment's PICKUP release. -/
def Compartment.pickup? (c : Compartment) : Option (Nat × KeyId) :=
  match c.release with
  | some ⟨.pickup x k, _⟩ => some (x, k)
  | _ => none

theorem Compartment.pickup?_eq_some {c : Compartment} {x : Nat} {k : KeyId} :
    c.pickup? = some (x, k) ↔ ∃ o, c.release = some ⟨.pickup x k, o⟩ := by
  unfold Compartment.pickup?
  split
  · next h => simp [h]
  · next h =>
    simp only [reduceCtorEq, false_iff, not_exists]
    exact fun o ho => h _ _ _ ho

/-- A door that is closed with its scan done: LOCKED, WAITING or UNLATCHED. -/
def DoorState.shut : DoorState → Bool
  | .locked => true
  | .waiting => true
  | .unlatched => true
  | .opened => false
  | .leftOpen => false
  | .forcedOpen => false
  | .scanning => false
  | .unknown => false

theorem DoorState.shut_iff {d : DoorState} : d.shut = true ↔ d = .locked ∨ d = .waiting ∨ d = .unlatched := by
  cases d <;> simp [DoorState.shut]

/-- Compartment `n` is shut, or its release waits for a channel. -/
def State.guarded (s : State) (n : CompId) : Prop := (s.comp n).door.shut = true ∨ n ∈ s.compartments.queue

theorem State.guarded_iff {s : State} (h : s.LatchOk) {n : CompId} :
    s.guarded n ↔ (s.comp n).door.shut = true := by
  obtain ⟨-, -, -, hw, -⟩ := h
  refine ⟨fun hg => hg.elim id fun hq => ?_, .inl⟩
  rw [(hw n).mp hq]; rfl

/-- `t` has the contents and the service of every compartment of `s`, has shut no door, and has no PICKUP release that
`s` has not. -/
structure Calm (s t : State) : Prop where
  contents : ∀ n, (t.comp n).contents = (s.comp n).contents
  service : ∀ n, (t.comp n).service = (s.comp n).service
  known : ∀ n, (t.comp n).known = (s.comp n).known
  guarded : ∀ n, t.guarded n → s.guarded n
  pickup : ∀ n p, (t.comp n).pickup? = some p → (s.comp n).pickup? = some p

theorem Calm.of_eq {s t : State} (h : t.compartments = s.compartments) : Calm s t := by
  have hc : ∀ n, t.comp n = s.comp n := fun n => by rw [State.comp, h]; rfl
  refine ⟨fun n => by rw [hc], fun n => by rw [hc], fun n => by rw [hc], fun n hg => ?_, fun n p hp => hc n ▸ hp⟩
  rwa [State.guarded, hc, h] at hg

theorem Calm.refl (s : State) : Calm s s := .of_eq rfl

theorem Calm.trans {s t u : State} (h : Calm s t) (g : Calm t u) : Calm s u :=
  ⟨fun n => (g.contents n).trans (h.contents n), fun n => (g.service n).trans (h.service n),
    fun n => (g.known n).trans (h.known n), fun n hn => h.guarded n (g.guarded n hn),
    fun n p hp => h.pickup n p (g.pickup n p hp)⟩

/-- Writing one compartment's door, timers, release or reservation is calm when it shuts no door and adds no pickup. -/
theorem Calm.modifyComp {s : State} {n : CompId} {f : Compartment → Compartment}
    (hc : (f (s.comp n)).contents = (s.comp n).contents) (hv : (f (s.comp n)).service = (s.comp n).service)
    (hk : (f (s.comp n)).known = (s.comp n).known) (hd : (f (s.comp n)).door.shut = true → s.guarded n)
    (hp : ∀ p, (f (s.comp n)).pickup? = some p → (s.comp n).pickup? = some p) : Calm s (s.modifyComp n f) := by
  have split : ∀ {P : Compartment → CompId → Prop}, P (f (s.comp n)) n → (∀ m, m ≠ n → P (s.comp m) m) →
      ∀ m, P ((s.modifyComp n f).comp m) m := by
    intro P h1 h2 m
    by_cases hm : m = n
    · subst hm; rw [State.modifyComp_comp_self]; exact h1
    · rw [State.modifyComp_comp_ne _ _ (Ne.symm hm)]; exact h2 m hm
  refine ⟨split (P := fun c m => c.contents = (s.comp m).contents) hc fun _ _ => rfl,
    split (P := fun c m => c.service = (s.comp m).service) hv fun _ _ => rfl,
    split (P := fun c m => c.known = (s.comp m).known) hk fun _ _ => rfl, ?_,
    split (P := fun c m => ∀ p, c.pickup? = some p → (s.comp m).pickup? = some p) hp fun _ _ _ h => h⟩
  have hg := split (P := fun c m => c.door.shut = true → s.guarded m) hd fun _ _ h => .inl h
  exact fun m h => h.elim (hg m) .inr

/-- Requests that leave the queue, and channels that change hands, touch no compartment's record. -/
theorem Calm.requeue {s t : State} (ht : t.compartments.table = s.compartments.table)
    (hq : ∀ m ∈ t.compartments.queue, m ∈ s.compartments.queue) : Calm s t := by
  have hc : ∀ n, t.comp n = s.comp n := fun n => by rw [State.comp, ht]; rfl
  refine ⟨fun n => by rw [hc], fun n => by rw [hc], fun n => by rw [hc], fun n hg => ?_, fun n p hp => hc n ▸ hp⟩
  rw [State.guarded, hc] at hg
  exact hg.imp id (hq n)

/-- A grant unlatches the door of a compartment that waited (R22). -/
theorem State.grantOne_calm (s : State) : Calm s s.grantOne := by
  unfold State.grantOne
  split
  · exact .refl s
  next n rest hq =>
  have hn : n ∈ s.compartments.queue := hq ▸ List.mem_cons_self
  have hrest : ∀ m ∈ rest, m ∈ s.compartments.queue := fun m hm => hq ▸ List.mem_cons_of_mem _ hm
  have grant : Calm s (s.modifyComp n fun c =>
      { c with door := .unlatched, window := some (seconds s.store.working.profile.value.window) }) :=
    .modifyComp rfl rfl rfl (fun _ => .inr hn) fun _ hp => hp
  split
  · exact grant.trans (.requeue rfl hrest)
  · exact grant.trans (.requeue rfl hrest)
  · exact .refl s

theorem State.arbitrate_calm (s : State) : Calm s s.arbitrate := s.grantOne_calm.trans s.grantOne.grantOne_calm

theorem State.freeChannel_calm (s : State) (n : CompId) : Calm s (s.freeChannel n) := by
  exact Calm.trans (.requeue (t := s.withCompartments { s.compartments with
      channel1 := if s.compartments.channel1 = some n then none else s.compartments.channel1
      channel2 := if s.compartments.channel2 = some n then none else s.compartments.channel2 }) rfl fun _ hm => hm)
    (.modifyComp rfl rfl rfl .inl fun _ h => h)

/-- A request leaves the release queue (R24, R30). -/
theorem State.unqueue_calm (s : State) (n : CompId) : Calm s (s.withCompartments
    { s.compartments with queue := s.compartments.queue.filter (· != n) }) :=
  .requeue rfl fun _ hm => (List.mem_filter.mp hm).1

theorem State.endRelease_calm (s : State) (n : CompId) (o : ReleaseOutcome) (named : CompId) :
    Calm s (s.endRelease n o named) := by
  have h : Calm s (s.modifyComp n Compartment.withoutRelease) :=
    .modifyComp rfl rfl rfl .inl fun p hp => by simp [Compartment.withoutRelease, Compartment.pickup?] at hp
  exact h.trans (.of_eq (s.endRelease_compartments n o named).1)

/-- Closing the door of a shut compartment on the scan list shuts no other (R17). -/
theorem State.relock_calm (s : State) (n : CompId) (d : DoorState) (h : s.guarded n) :
    Calm s (s.modifyComp n fun c => { c with door := d }) :=
  .modifyComp rfl rfl rfl (fun _ => h) fun _ hp => hp

theorem State.cancelRelease_calm {s t : State} {n named : CompId} (h : s.cancelRelease n named = some t) :
    Calm s t := by
  obtain ⟨hno, hw, hu⟩ := s.cancelRelease_cases n named
  by_cases h1 : (s.comp n).door = .waiting
  · obtain rfl := Option.some.inj ((hw h1).symm.trans h)
    refine (s.unqueue_calm n).trans ((State.relock_calm _ n _ (.inl ?_)).trans (State.endRelease_calm _ _ _ _))
    change (s.comp n).door.shut = true
    rw [h1]; rfl
  · by_cases h2 : (s.comp n).door = .unlatched
    · obtain rfl := Option.some.inj ((hu h2).symm.trans h)
      refine (s.freeChannel_calm n).trans ((State.relock_calm _ n _ (.inl ?_)).trans
        ((State.arbitrate_calm _).trans (State.endRelease_calm _ _ _ _)))
      rw [(s.freeChannel_spec n).1]
      change (s.comp n).door.shut = true
      rw [h2]; rfl
    · rw [hno h1 h2] at h; cases h

theorem State.cancelReturn_calm (s : State) (number : Nat) : Calm s (s.cancelReturn number) := by
  unfold State.cancelReturn
  split
  · exact .refl s
  · split
    · next h => exact State.cancelRelease_calm h
    · exact .modifyComp rfl rfl rfl .inl fun _ hp => hp

theorem State.withdrawPromise_calm (s : State) (k : KeyId) (scanned : Option CompId) :
    Calm s (s.withdrawPromise k scanned) := by
  have h : ∀ f, Calm s (s.modifyKey k f) := fun f => .of_eq rfl
  unfold State.withdrawPromise
  split
  · exact .refl s
  dsimp only
  split
  · exact h _
  · next m _ =>
    cases hc : State.cancelRelease _ m (scanned.getD m) with
    | none => exact h _
    | some t => exact (h _).trans (State.cancelRelease_calm hc)

theorem State.requestSweep_calm (s : State) (n : CompId) : Calm s (s.requestSweep n) := by
  unfold State.requestSweep
  split
  · exact .refl s
  dsimp only
  split
  · refine Calm.trans (.of_eq ?_) (.modifyComp rfl rfl rfl (fun h => ?_) fun _ hp => hp)
    · rfl
    · simp [DoorState.shut] at h
  · exact .of_eq rfl

theorem State.requestSweeps_calm (s : State) (ns : List CompId) : Calm s (ns.foldl State.requestSweep s) := by
  induction ns generalizing s with
  | nil => exact .refl s
  | cons n ns ih => exact (s.requestSweep_calm n).trans (ih _)

/-- The release queue after a request has joined it holds it and what it held. -/
theorem State.mem_enqueue {s : State} {n m : CompId} {p : Bool} (h : m ∈ (s.enqueue n p).compartments.queue) :
    m = n ∨ m ∈ s.compartments.queue := by
  change m ∈ (if p = true then s.compartments.queue.takeWhile s.priorityAt ++ [n]
    ++ s.compartments.queue.dropWhile s.priorityAt else s.compartments.queue ++ [n]) at h
  split at h
  · simp only [List.mem_append, List.mem_singleton] at h
    rcases h with (h | h) | h
    · exact .inr (List.takeWhile_subset _ h)
    · exact .inl h
    · exact .inr (List.dropWhile_subset _ h)
  · simpa [or_comm] using h

theorem State.enqueue_calm {s : State} {n : CompId} {p : Bool} (h : (s.comp n).door.shut = true) :
    Calm s (s.enqueue n p) :=
  ⟨fun _ => rfl, fun _ => rfl, fun _ => rfl,
    fun m hm => hm.elim .inl fun hq => (State.mem_enqueue hq).elim (fun e => .inl (e ▸ h)) .inr, fun _ _ h => h⟩

/-- A compartment whose release request was taken, before its channel is granted (R18, R20). -/
def Compartment.placed (r : Release) (c : Compartment) : Compartment :=
  { c with
    release := some r, door := .waiting
    reservation := match r.purpose with
      | .ret contract _ => some contract
      | _ => c.reservation }

/-- A taken release request places the release in a LOCKED compartment, and the arbiter may grant (R20). -/
theorem State.requestRelease_ok {s t : State} {n : CompId} {r : Release} (h : s.requestRelease n r = .ok t) :
    (s.comp n).door = .locked ∧ t = ((s.modifyComp n (Compartment.placed r)).enqueue n r.priority).arbitrate := by
  unfold State.requestRelease at h
  split at h
  · cases h
  next hd =>
  split at h
  · cases h
  exact ⟨by simpa using (not_or.mp hd).2, (Except.ok.inj h).symm⟩

theorem State.requestRelease_calm {s t : State} {n : CompId} {r : Release} (h : s.requestRelease n r = .ok t) :
    Calm (s.modifyComp n (Compartment.placed r)) t := by
  obtain ⟨-, rfl⟩ := State.requestRelease_ok h
  exact (State.enqueue_calm (by rw [State.modifyComp_comp_self]; rfl)).trans (State.arbitrate_calm _)

/-- A release request keeps contents and service, and shuts no door. -/
theorem State.placed_calm {s : State} {n : CompId} {r : Release} (hd : (s.comp n).door = .locked)
    (hr : ∀ x k, r.purpose ≠ .pickup x k) : Calm s (s.modifyComp n (Compartment.placed r)) := by
  refine .modifyComp rfl rfl rfl (fun _ => .inl (by rw [hd]; rfl)) fun p hp => ?_
  obtain ⟨x, k⟩ := p
  obtain ⟨o, ho⟩ := Compartment.pickup?_eq_some.mp hp
  exact absurd (congrArg (fun r => r.map Release.purpose) ho) (by simpa [Compartment.placed] using hr x k)

theorem State.tellOpened_same (s : State) (n : CompId) (r : Release) : SameRecords s (s.tellOpened n r) := by
  unfold State.tellOpened
  split <;> exact ⟨rfl, rfl, rfl⟩

theorem State.withdrawEntry_same (s : State) (n : CompId) : SameRecords s (s.withdrawEntry n) := ⟨rfl, rfl, rfl⟩

theorem State.requestDoor_same (s : State) (n : CompId) (c : Carried) : SameRecords s (s.requestDoor n c) :=
  ⟨rfl, rfl, rfl⟩

/-- A door found open is shut no more. -/
theorem Calm.unshut {s : State} {n : CompId} {f : Compartment → Compartment}
    (hf : ∀ c, (f c).contents = c.contents ∧ (f c).service = c.service ∧ (f c).known = c.known
      ∧ (f c).release = c.release) (hd : ∀ c, (f c).door.shut = false) : Calm s (s.modifyComp n f) := by
  obtain ⟨h1, h2, h3, h4⟩ := hf (s.comp n)
  refine .modifyComp h1 h2 h3 (fun h => ?_) fun p hp => ?_
  · rw [hd] at h; cases h
  · rwa [Compartment.pickup?, h4] at hp

theorem State.openUnder_calm (s : State) (n : CompId) : Calm s (s.openUnder n) := by
  have h : ∀ f, (∀ c : Compartment, (f c).contents = c.contents ∧ (f c).service = c.service ∧ (f c).known = c.known
      ∧ (f c).release = c.release) → (∀ c, (f c).door.shut = false) →
      Calm s ((s.freeChannel n).modifyComp n f).arbitrate := fun f hf hd =>
    (s.freeChannel_calm n).trans ((Calm.unshut hf hd).trans (State.arbitrate_calm _))
  unfold State.openUnder
  dsimp only
  split
  · refine (h _ ?_ ?_).trans (.of_eq (State.tellOpened_same _ _ _).compartments) <;> intro c
    · exact ⟨rfl, rfl, rfl, rfl⟩
    · rfl
  · exact h _ (fun _ => ⟨rfl, rfl, rfl, rfl⟩) fun _ => rfl

theorem State.forceOpen_calm (s : State) (n : CompId) : Calm s (s.forceOpen n) := by
  have h : ∀ b t, SameRecords ((s.modifyComp n fun c => { c with door := .forcedOpen, forced := true }).enter b) t →
      Calm s t := fun b t ht =>
    (Calm.unshut (f := fun c => { c with door := .forcedOpen, forced := true }) (fun _ => ⟨rfl, rfl, rfl, rfl⟩)
      fun _ => rfl).trans ((Calm.of_eq (State.enter_same _ b).compartments).trans (.of_eq ht.compartments))
  unfold State.forceOpen
  dsimp only
  split
  · exact (h _ _ (.refl _)).trans ((State.unqueue_calm _ n).trans (State.endRelease_calm _ _ _ _))
  case h_2 | h_3 => exact h _ _ (State.withdrawEntry_same _ _)
  all_goals exact h _ _ (.refl _)

theorem State.closeDoor_calm (s : State) (n : CompId) : Calm s (s.closeDoor n) :=
  (Calm.unshut (f := fun c => { c with door := .scanning, hold := none }) (fun _ => ⟨rfl, rfl, rfl, rfl⟩)
    fun _ => rfl).trans (.of_eq (State.requestDoor_same _ _ _).compartments)

theorem State.windowEnd_calm {s : State} {n : CompId} {d : DoorState} (h : (s.comp n).door = .unlatched) :
    Calm s (((s.freeChannel n).modifyComp n fun c => { c with door := d }).arbitrate.endRelease n .expired) := by
  refine (s.freeChannel_calm n).trans ((State.relock_calm _ n _ (.inl ?_)).trans
    ((State.arbitrate_calm _).trans (State.endRelease_calm _ _ _ _)))
  rw [(s.freeChannel_spec n).1]
  change (s.comp n).door.shut = true
  rw [h]; rfl

theorem State.holdEnd_calm (s : State) (n : CompId) :
    Calm s (s.modifyComp n fun c => { c with door := .leftOpen, hold := none }) :=
  .unshut (fun _ => ⟨rfl, rfl, rfl, rfl⟩) fun _ => rfl

/-- A change of every compartment that touches none of what the laws read. -/
theorem Calm.map {s t : State} {f : Compartment → Compartment}
    (hf : ∀ c, (f c).contents = c.contents ∧ (f c).service = c.service ∧ (f c).known = c.known
      ∧ (f c).door = c.door ∧ (f c).release = c.release)
    (ht : t.compartments = { s.compartments with table := s.compartments.table.map f }) : Calm s t := by
  have hc : ∀ n, t.comp n = f (s.comp n) := fun n => by rw [State.comp, ht]; exact Table.get_map _ _ _
  refine ⟨fun n => ?_, fun n => ?_, fun n => ?_, fun n => ?_, fun n p => ?_⟩
  · rw [hc]; exact (hf _).1
  · rw [hc]; exact (hf _).2.1
  · rw [hc]; exact (hf _).2.2.1
  · rw [State.guarded, hc, (hf _).2.2.2.1, ht]; exact id
  · rw [hc, Compartment.pickup?, (hf _).2.2.2.2]; exact id

theorem State.clearForced_calm (s : State) : Calm s s.clearForced :=
  .map (f := fun c => { c with forced := false }) (fun _ => ⟨rfl, rfl, rfl, rfl, rfl⟩) rfl

theorem State.countAll_calm (s : State) : Calm s s.countAll :=
  .map (f := Compartment.tick) (fun _ => ⟨rfl, rfl, rfl, rfl, rfl⟩) rfl

end Sys2Proof.Machine
end

section
/-! SUPPORT. Where the keys are: what each operation does to the keys' tags and locations and to the contents of the
compartments, and the law of location (R1, R2, R16). -/

namespace Sys2Proof.Machine

/-! ### Tags and locations -/

/-- A key's tag and location. -/
def KeyRecord.place (r : KeyRecord) : Nat × Location := (r.tag, r.location)

/-- A key's location, when it is enrolled. -/
def State.loc (s : State) (k : KeyId) : Option Location := (s.key k).map KeyRecord.location

/-- Every key has the tag and the location in `t` that it has in `s`. -/
def SamePlaces (s t : State) : Prop := ∀ k, (t.key k).map KeyRecord.place = (s.key k).map KeyRecord.place

theorem SamePlaces.of_eq {s t : State} (h : t.keys = s.keys) : SamePlaces s t := fun k => by
  rw [State.key, h]; rfl

theorem SamePlaces.refl (s : State) : SamePlaces s s := fun _ => rfl

theorem SamePlaces.trans {s t u : State} (h : SamePlaces s t) (g : SamePlaces t u) : SamePlaces s u :=
  fun k => (g k).trans (h k)

theorem SamePlaces.tag {s t : State} (h : SamePlaces s t) (k : KeyId) :
    (t.key k).map KeyRecord.tag = (s.key k).map KeyRecord.tag := by
  have := congrArg (Option.map Prod.fst) (h k)
  rwa [Option.map_map, Option.map_map] at this

theorem SamePlaces.loc {s t : State} (h : SamePlaces s t) (k : KeyId) : t.loc k = s.loc k := by
  have := congrArg (Option.map Prod.snd) (h k)
  rwa [Option.map_map, Option.map_map] at this

theorem SamePlaces.modifyKey {s : State} {k : KeyId} {f : KeyRecord → KeyRecord}
    (hf : ∀ r, (f r).place = r.place) : SamePlaces s (s.modifyKey k f) := by
  intro j
  by_cases h : k = j
  · subst h
    rw [State.modifyKey_key_self, Option.map_map]
    exact congrArg (fun g => Option.map g (s.key k)) (funext hf)
  · rw [State.modifyKey_key_ne _ _ h]

/-- Re-examining a key rewrites at most its idle-since and the lists (R6). -/
theorem State.reexamine_keys (s : State) (m : Nat) (k : KeyId) :
    (s.reexamine m k).keys.places = s.keys.places
      ∨ (s.reexamine m k).keys.places
        = (s.modifyKey k fun r => { r with idleSince := m }).keys.places := by
  unfold State.reexamine
  split
  · exact .inl rfl
  · split
    · exact .inr rfl
    all_goals exact .inl rfl

theorem State.reexamine_places (s : State) (m : Nat) (k : KeyId) : SamePlaces s (s.reexamine m k) := by
  intro j
  have hm := SamePlaces.modifyKey (s := s) (k := k) (f := fun r => { r with idleSince := m }) (fun _ => rfl) j
  rcases s.reexamine_keys m k with h | h
  · rw [State.key, h]; rfl
  · rw [State.key, h]; exact hm

theorem State.reexamineAll_places (s : State) (m : Nat) (ks : List KeyId) :
    SamePlaces s (s.reexamineAll m ks) := by
  induction ks generalizing s with
  | nil => exact .refl s
  | cons k ks ih => exact (s.reexamine_places m k).trans (ih _)

theorem State.reexamineAll_frame (s : State) (m : Nat) (ks : List KeyId) :
    ∃ x, s.reexamineAll m ks = s.withKeys x := by
  induction ks generalizing s with
  | nil => exact ⟨s.keys, rfl⟩
  | cons k ks ih =>
    obtain ⟨x, hx⟩ := ih (s.reexamine m k)
    refine ⟨x, hx.trans ?_⟩
    rw [s.reexamine_frame m k]
    rfl

theorem State.pickupFailed_places (s : State) (x : Nat) (k : KeyId) (n : CompId) (y : FailReason) :
    SamePlaces s (s.pickupFailed x k n y) := by
  unfold State.pickupFailed
  split
  · refine SamePlaces.trans ?_ (State.reexamine_places _ _ _)
    refine SamePlaces.trans (t := s.fallBack x k n y) ?_ (.modifyKey fun _ => rfl)
    rw [State.fallBack_frame]
    exact .of_eq rfl
  · exact .refl s

theorem State.tellEnded_places (s : State) (n : CompId) (r : Release) (o : ReleaseOutcome) (named : CompId) :
    SamePlaces s (s.tellEnded n r o named) := by
  unfold State.tellEnded
  split
  · exact (s.pickupFailed_places _ _ _ _).trans (.of_eq rfl)
  · rw [State.returnFailed_frame]; exact .of_eq rfl
  · exact .of_eq rfl
  · exact .refl s

theorem State.endRelease_places (s : State) (n : CompId) (o : ReleaseOutcome) (named : CompId) :
    SamePlaces s (s.endRelease n o named) := by
  unfold State.endRelease
  dsimp only
  split
  · exact SamePlaces.trans (.of_eq rfl) (State.tellEnded_places _ _ _ _ _)
  · exact .of_eq rfl

/-- A grant, a freed channel and a door keep keys, contracts, scan list and drop box. -/
theorem State.grantOne_frame (s : State) : ∃ x, s.grantOne = s.withCompartments x := by
  unfold State.grantOne
  split
  · exact ⟨_, rfl⟩
  · dsimp only
    split <;> exact ⟨_, rfl⟩

theorem State.arbitrate_frame (s : State) : ∃ x, s.arbitrate = s.withCompartments x := by
  obtain ⟨x, hx⟩ := s.grantOne_frame
  obtain ⟨y, hy⟩ := s.grantOne.grantOne_frame
  exact ⟨y, hy.trans (by rw [hx]; rfl)⟩

theorem State.cancelRelease_places {s t : State} {n named : CompId} (h : s.cancelRelease n named = some t) :
    SamePlaces s t := by
  obtain ⟨hno, hw, hu⟩ := s.cancelRelease_cases n named
  by_cases h1 : (s.comp n).door = .waiting
  · obtain rfl := Option.some.inj ((hw h1).symm.trans h)
    exact SamePlaces.trans (.of_eq rfl) (State.endRelease_places _ _ _ _)
  · by_cases h2 : (s.comp n).door = .unlatched
    · obtain rfl := Option.some.inj ((hu h2).symm.trans h)
      refine SamePlaces.trans ?_ (State.endRelease_places _ _ _ _)
      obtain ⟨x, hx⟩ := ((s.freeChannel n).modifyComp n fun c => { c with door := s.lockedDoor n }).arbitrate_frame
      rw [hx]
      exact .of_eq rfl
    · rw [hno h1 h2] at h; cases h

theorem State.cancelReturn_places (s : State) (number : Nat) : SamePlaces s (s.cancelReturn number) := by
  unfold State.cancelReturn
  split
  · exact .refl s
  · split
    · next h => exact State.cancelRelease_places h
    · exact .of_eq rfl

theorem State.clearPromise_places (s : State) (k : KeyId) : SamePlaces s (s.clearPromise k) :=
  .modifyKey fun _ => rfl

theorem State.withdrawPromise_places (s : State) (k : KeyId) (scanned : Option CompId) :
    SamePlaces s (s.withdrawPromise k scanned) := by
  unfold State.withdrawPromise
  split
  · exact .refl s
  dsimp only
  split
  · exact s.clearPromise_places k
  · next m _ =>
    cases hc : State.cancelRelease _ m (scanned.getD m) with
    | none => exact s.clearPromise_places k
    | some t => exact (s.clearPromise_places k).trans (State.cancelRelease_places hc)

theorem State.requestSweep_keys (s : State) (n : CompId) : (s.requestSweep n).keys = s.keys := by
  unfold State.requestSweep
  split
  · rfl
  · dsimp only
    split <;> rfl

theorem State.requestSweep_contracts (s : State) (n : CompId) : (s.requestSweep n).contracts = s.contracts := by
  unfold State.requestSweep
  split
  · rfl
  · dsimp only
    split <;> rfl

theorem State.requestSweeps_same (s : State) (ns : List CompId) :
    (ns.foldl State.requestSweep s).keys = s.keys ∧ (ns.foldl State.requestSweep s).contracts = s.contracts := by
  induction ns generalizing s with
  | nil => exact ⟨rfl, rfl⟩
  | cons n ns ih =>
    exact ⟨(ih _).1.trans (s.requestSweep_keys n), (ih _).2.trans (s.requestSweep_contracts n)⟩

theorem State.requestRelease_frame {s t : State} {n : CompId} {r : Release} (h : s.requestRelease n r = .ok t) :
    t.keys = s.keys ∧ t.contracts = s.contracts := by
  obtain ⟨-, rfl⟩ := State.requestRelease_ok h
  obtain ⟨x, hx⟩ := ((s.modifyComp n (Compartment.placed r)).enqueue n r.priority).arbitrate_frame
  rw [hx]
  exact ⟨rfl, rfl⟩

theorem State.modifyContract_keys (s : State) (x : Nat) (f : Contract → Contract) :
    (s.modifyContract x f).keys = s.keys ∧ (s.modifyContract x f).compartments = s.compartments := by
  rw [State.modifyContract_frame]; exact ⟨rfl, rfl⟩

/-- Closing a contract writes its record and the notices alone (R78). -/
theorem State.closeContract_frame (s : State) (x : Nat) (r : Route) (m : Option Nat) (n : Option CompId) :
    s.closeContract x r m n = { s with
      contracts := (s.closeContract x r m n).contracts, notices := (s.closeContract x r m n).notices } := by
  generalize ht : s.closeContract x r m n = t
  unfold State.closeContract at ht
  split at ht
  · subst ht; rfl
  · split at ht
    · dsimp only at ht
      rw [State.modifyContract_frame] at ht
      subst ht; rfl
    · subst ht; rfl

/-! ### Moving a key (R2) -/

/-- A key that is not enrolled does not move. -/
theorem State.moveKey_none {s : State} {k : KeyId} (h : s.key k = none) (l : Location) : s.moveKey k l = s := by
  simp [State.moveKey, h]

/-- A move takes the key from the contents of its compartment, or from the drop list, and then writes its location. -/
theorem State.moveKey_cases {s : State} {k : KeyId} {r : KeyRecord} (h : s.key k = some r) (l : Location) :
    ∃ u, s.moveKey k l = State.modifyKey u k (fun r => { r with location := l })
      ∧ ((∃ m, r.location = .compartment m ∧ l ≠ .compartment m
          ∧ u = s.modifyComp m fun c => { c with contents := c.contents.filter (· != .key k) })
        ∨ (∀ m, r.location = .compartment m → l = .compartment m) ∧ (u = s ∨ u = s.removeDrop k)) := by
  rw [State.moveKey, h]
  obtain ⟨_, _, _, _, _, _, loc, _, _, _, _⟩ := r
  cases loc with
  | compartment m =>
    by_cases e : l = .compartment m
    · exact ⟨s, congrArg (State.modifyKey · k _) (if_pos e),
        .inr ⟨fun m' h' => Location.compartment.inj h' ▸ e, .inl rfl⟩⟩
    · exact ⟨_, congrArg (State.modifyKey · k _) (if_neg e), .inl ⟨m, rfl, e, rfl⟩⟩
  | drop =>
    cases l with
    | compartment => exact ⟨_, rfl, .inr ⟨fun _ h => Location.noConfusion h, .inr rfl⟩⟩
    | out | drop | staffHand | missing => exact ⟨_, rfl, .inr ⟨fun _ h => Location.noConfusion h, .inl rfl⟩⟩
  | out | staffHand | missing => exact ⟨_, rfl, .inr ⟨fun _ h => Location.noConfusion h, .inl rfl⟩⟩

/-- A move writes the key table, the contents of a compartment and the drop box alone. -/
theorem State.moveKey_frame (s : State) (k : KeyId) (l : Location) :
    (s.moveKey k l).contracts = s.contracts ∧ (s.moveKey k l).compartments.queue = s.compartments.queue
      ∧ (s.moveKey k l).scanner = s.scanner ∧ (s.moveKey k l).keys.lists = s.keys.lists := by
  cases h : s.key k with
  | none => rw [State.moveKey_none h]; exact ⟨rfl, rfl, rfl, rfl⟩
  | some r =>
    obtain ⟨u, hu, ⟨m, -, -, rfl⟩ | ⟨-, rfl | rfl⟩⟩ := State.moveKey_cases h l <;> rw [hu] <;>
      exact ⟨rfl, rfl, rfl, rfl⟩

/-- A key that moves leaves the contents of the compartment it was in (R2). -/
theorem State.moveKey_comp (s : State) (k : KeyId) (l : Location) (n : CompId) :
    (s.moveKey k l).comp n = if s.loc k = some (.compartment n) ∧ l ≠ .compartment n then
        { s.comp n with contents := (s.comp n).contents.filter (· != .key k) }
      else s.comp n := by
  cases h : s.key k with
  | none => rw [State.moveKey_none h, State.loc, h]; rfl
  | some r =>
    have hloc : s.loc k = some r.location := by rw [State.loc, h]; rfl
    obtain ⟨u, hu, hc⟩ := State.moveKey_cases h l
    have hat : s.loc k = some (.compartment n) ↔ r.location = .compartment n := by rw [hloc, Option.some.injEq]
    rw [hu, State.modifyKey_comp]
    rcases hc with ⟨m, hm, hl, rfl⟩ | ⟨hl, hs⟩
    · by_cases e : m = n
      · subst e; rw [if_pos ⟨hat.mpr hm, hl⟩, State.modifyComp_comp_self]
      · rw [if_neg (fun x => e (Location.compartment.inj (hm.symm.trans (hat.mp x.1)))),
          State.modifyComp_comp_ne _ _ e]
    · rw [if_neg (fun x => x.2 (hl n (hat.mp x.1)))]
      obtain rfl | rfl := hs <;> rfl

/-- A move sets the key's location and keeps every tag and every other location. -/
theorem State.moveKey_place (s : State) (k : KeyId) (l : Location) (j : KeyId) :
    ((s.moveKey k l).key j).map KeyRecord.tag = (s.key j).map KeyRecord.tag
      ∧ (s.moveKey k l).loc j = if j = k then (s.key k).map fun _ => l else s.loc j := by
  cases h : s.key k with
  | none =>
    rw [State.moveKey_none h]
    refine ⟨rfl, ?_⟩
    split
    · next e => rw [e, State.loc, h]; rfl
    · rfl
  | some r =>
    obtain ⟨h1, h2⟩ := State.moveKey_key h l
    by_cases e : j = k
    · subst e
      rw [State.loc, h1, h, if_pos rfl]
      exact ⟨rfl, rfl⟩
    · rw [State.loc, h2 j e, if_neg e]
      exact ⟨rfl, rfl⟩

/-! ### The law of location -/

/-- The law of location for the compartments that satisfy `P`. -/
structure State.Located (s : State) (P : CompId → Prop) : Prop where
  tags : ∀ j k a b, s.key j = some a → s.key k = some b → a.tag = b.tag → j = k
  lists : ∀ k n, P n → (Item.key k ∈ (s.comp n).contents ↔ s.loc k = some (.compartment n))
  nodup : ∀ n, P n → (s.comp n).contents.Nodup

theorem State.located_iff {s : State} : s.LocationOk ↔ s.Located fun _ => True :=
  ⟨fun ⟨h1, h2, h3⟩ => ⟨h1, fun k n _ => h2 k n, fun n _ => h3 n⟩,
    fun ⟨h1, h2, h3⟩ => ⟨h1, fun k n => h2 k n trivial, fun n => h3 n trivial⟩⟩

theorem State.Located.mono {s : State} {P Q : CompId → Prop} (h : s.Located P) (hq : ∀ n, Q n → P n) :
    s.Located Q := ⟨h.tags, fun k n hn => h.lists k n (hq n hn), fun n hn => h.nodup n (hq n hn)⟩

theorem tags_unique_of_same {s t : State} (h : ∀ j k a b, s.key j = some a → s.key k = some b → a.tag = b.tag → j = k)
    (ht : ∀ k, (t.key k).map KeyRecord.tag = (s.key k).map KeyRecord.tag) :
    ∀ j k a b, t.key j = some a → t.key k = some b → a.tag = b.tag → j = k := by
  intro j k a b ha hb hab
  have h1 := ht j
  have h2 := ht k
  rw [ha] at h1
  rw [hb] at h2
  obtain ⟨a', ha', e1⟩ := Option.map_eq_some_iff.mp h1.symm
  obtain ⟨b', hb', e2⟩ := Option.map_eq_some_iff.mp h2.symm
  exact h j k a' b' ha' hb' (by rw [e1, e2, hab])

/-- Where no key moves and no contents change, the law stands. -/
theorem State.Located.of_same {s t : State} {P : CompId → Prop} (h : s.Located P) (hk : SamePlaces s t)
    (hc : ∀ n, P n → (t.comp n).contents = (s.comp n).contents) : t.Located P :=
  ⟨tags_unique_of_same h.tags hk.tag,
    fun k n hn => by rw [hc n hn, hk.loc, h.lists k n hn], fun n hn => by rw [hc n hn]; exact h.nodup n hn⟩

/-- A key may move to any place that is not a compartment of the law (R2). -/
theorem State.Located.moveKey {s : State} {P : CompId → Prop} (h : s.Located P) (k : KeyId) {l : Location}
    (hl : ∀ n, l = .compartment n → ¬ P n) : (s.moveKey k l).Located P := by
  have hne : ∀ n, P n → l ≠ .compartment n := fun n hn e => hl n e hn
  refine ⟨tags_unique_of_same h.tags fun j => (s.moveKey_place k l j).1, fun j n hn => ?_, fun n hn => ?_⟩
  · rw [(s.moveKey_place k l j).2, s.moveKey_comp k l n]
    by_cases e : j = k
    · subst e
      rw [if_pos rfl]
      have hno : (s.key j).map (fun _ => l) ≠ some (.compartment n) := fun e => by
        obtain ⟨r, -, hr⟩ := Option.map_eq_some_iff.mp e
        exact hne n hn hr
      by_cases hin : s.loc j = some (.compartment n)
      · rw [if_pos ⟨hin, hne n hn⟩]
        simpa using hno
      · rw [if_neg (fun x => hin x.1), h.lists j n hn]
        exact iff_of_false hin hno
    · rw [if_neg e, ← h.lists j n hn]
      split
      · simp [e]
      · rfl
  · rw [s.moveKey_comp k l n]
    split
    · exact (h.nodup n hn).filter _
    · exact h.nodup n hn

end Sys2Proof.Machine
end

section
/-! SUPPORT. The law of location through the operations that move keys: a read's reconciliation, the drop box and a forced
closing (R2, R46-R50, R103-R108). -/

namespace Sys2Proof.Machine

/-! ### Keys that stay and keys that move -/

/-- No key moves and no contents change. -/
structure Still (s t : State) : Prop where
  places : SamePlaces s t
  contents : ∀ n, (t.comp n).contents = (s.comp n).contents

theorem Still.refl (s : State) : Still s s := ⟨.refl s, fun _ => rfl⟩

theorem Still.trans {s t u : State} (h : Still s t) (g : Still t u) : Still s u :=
  ⟨h.places.trans g.places, fun n => (g.contents n).trans (h.contents n)⟩

theorem Still.of_eq {s t : State} (hk : t.keys = s.keys) (hc : t.compartments = s.compartments) : Still s t :=
  ⟨.of_eq hk, fun n => by rw [State.comp, hc]; rfl⟩

theorem Still.of_same {s t : State} (h : SameRecords s t) : Still s t := .of_eq h.keys h.compartments

theorem Still.of_calm {s t : State} (h : Calm s t) (hk : SamePlaces s t) : Still s t := ⟨hk, h.contents⟩

theorem Still.modifyKey {s : State} {k : KeyId} {f : KeyRecord → KeyRecord} (hf : ∀ r, (f r).place = r.place) :
    Still s (s.modifyKey k f) := ⟨.modifyKey hf, fun _ => rfl⟩

theorem State.reexamine_still (s : State) (m : Nat) (k : KeyId) : Still s (s.reexamine m k) :=
  ⟨s.reexamine_places m k, fun n => by rw [s.reexamine_frame]; rfl⟩

theorem State.reexamineAll_still (s : State) (m : Nat) (ks : List KeyId) : Still s (s.reexamineAll m ks) :=
  ⟨s.reexamineAll_places m ks, fun n => by
    obtain ⟨x, hx⟩ := s.reexamineAll_frame m ks
    rw [hx]; rfl⟩

theorem State.LocationOk.of_still {s t : State} (h : s.LocationOk) (g : Still s t) : t.LocationOk :=
  State.located_iff.mpr ((State.located_iff.mp h).of_same g.places fun n _ => g.contents n)

/-- Key `k` has gone to `l`, and with it from the contents of the compartment it was in; no other key has moved (R2). -/
structure Moved (s t : State) (k : KeyId) (l : Location) : Prop where
  tag : ∀ j, (t.key j).map KeyRecord.tag = (s.key j).map KeyRecord.tag
  loc : ∀ j, t.loc j = if j = k then (s.key k).map fun _ => l else s.loc j
  contents : ∀ n, (t.comp n).contents = if s.loc k = some (.compartment n) ∧ l ≠ .compartment n then
    (s.comp n).contents.filter (· != .key k) else (s.comp n).contents

theorem State.moveKey_moved (s : State) (k : KeyId) (l : Location) : Moved s (s.moveKey k l) k l :=
  ⟨fun j => (s.moveKey_place k l j).1, fun j => (s.moveKey_place k l j).2, fun n => by
    rw [s.moveKey_comp]; split <;> rfl⟩

theorem SamePlaces.enrolled {s t : State} (h : SamePlaces s t) (k : KeyId) {α : Type} (a : α) :
    ((t.key k).map fun _ => a) = (s.key k).map fun _ => a := by
  have := congrArg (Option.map fun _ => a) (h k)
  rwa [Option.map_map, Option.map_map] at this

theorem Moved.after {s t u : State} {k : KeyId} {l : Location} (h : Still s t) (g : Moved t u k l) :
    Moved s u k l := by
  refine ⟨fun j => (g.tag j).trans (h.places.tag j), fun j => ?_, fun n => ?_⟩
  · rw [g.loc j, h.places.enrolled, h.places.loc]
  · rw [g.contents n, h.places.loc, h.contents n]

theorem Moved.before {s t u : State} {k : KeyId} {l : Location} (h : Moved s t k l) (g : Still t u) :
    Moved s u k l :=
  ⟨fun j => (g.places.tag j).trans (h.tag j), fun j => (g.places.loc j).trans (h.loc j),
    fun n => (g.contents n).trans (h.contents n)⟩

theorem State.Located.of_moved {s t : State} {P : CompId → Prop} {k : KeyId} {l : Location} (h : s.Located P)
    (g : Moved s t k l) (hl : ∀ n, l = .compartment n → ¬ P n) : t.Located P := by
  have hm := h.moveKey k hl
  have e := s.moveKey_moved k l
  refine ⟨tags_unique_of_same h.tags g.tag, fun j n hn => ?_, fun n hn => ?_⟩
  · rw [g.contents n, ← e.contents n, g.loc, ← e.loc]; exact hm.lists j n hn
  · rw [g.contents n, ← e.contents n]; exact hm.nodup n hn

theorem State.LocationOk.of_moved {s t : State} {k : KeyId} {l : Location} (h : s.LocationOk) (g : Moved s t k l)
    (hl : ∀ n, l ≠ .compartment n) : t.LocationOk :=
  State.located_iff.mpr ((State.located_iff.mp h).of_moved g fun n e => absurd e (hl n))

/-! ### Tags -/

theorem State.keyOfTag_eq_some {s : State}
    (h : ∀ j k a b, s.key j = some a → s.key k = some b → a.tag = b.tag → j = k) {x : Nat} {k : KeyId} :
    s.keyOfTag x = some k ↔ (s.key k).map KeyRecord.tag = some x := by
  constructor
  · intro hf
    have := Table.get_of_find hf
    obtain ⟨r, hr, ht⟩ := Option.any_eq_true _ _ |>.mp this
    rw [State.key, hr, Option.map_some, beq_iff_eq.mp ht]
  · intro hk
    obtain ⟨r, hr, rfl⟩ := Option.map_eq_some_iff.mp hk
    cases hf : s.keyOfTag r.tag with
    | none =>
      have := Table.find_eq_none.mp hf k
      rw [show s.keys.places.get k = some r from hr] at this
      simp at this
    | some j =>
      obtain ⟨a, ha, ht⟩ := Option.any_eq_true _ _ |>.mp (Table.get_of_find hf)
      rw [h j k a r ha hr (beq_iff_eq.mp ht)]

/-- A tag that no enrolled record has names no key. -/
theorem State.keyOfTag_eq_none {s : State} {x : Nat} : s.keyOfTag x = none ↔ ∀ k r, s.key k = some r → r.tag ≠ x := by
  refine Table.find_eq_none.trans (forall_congr' fun k => ?_)
  change (s.key k).any _ = false ↔ _
  cases s.key k <;> simp

/-! ### A read's reconciliation -/

theorem State.contractState_slotOf {s : State} {x : Nat} {st : ContractState} (h : s.contractState x = some st) :
    ∃ sl c, s.slotOf x = some sl ∧ s.slot sl = some c ∧ c.state = st := by
  obtain ⟨c, hc, rfl⟩ := Option.map_eq_some_iff.mp h
  obtain ⟨sl, hsl, hs⟩ := Option.bind_eq_some_iff.mp hc
  exact ⟨sl, c, hsl, hs, rfl⟩

theorem State.enter_still (s : State) (b : NoticeBody) : Still s (s.enter b) := .of_same (s.enter_same b).toSameRecords

/-- A handout's records, before the entitled key of the contract is re-examined (R74). -/
def State.handedOut (s : State) (i : ScanInput) (x : Nat) (k : KeyId) (sl : Slot) : State :=
  (((s.modifySlot sl fun c => { c with state := .out, handoutMinute := i.minute }).dropCode sl).moveKey k
    (.out x)).enter { kind := .handoutDone, minute := i.minute, comp := some i.comp, key := some k, contract := some x }

/-- A handout re-examines the entitled key, when its contract has another one (R57, R74; log 42). -/
theorem State.handoutDone_cases {s : State} {i : ScanInput} {x : Nat} {k : KeyId} {sl : Slot} {c : Contract}
    (h : s.slotOf x = some sl) (hc : s.slot sl = some c) :
    (s.handoutDone i x k = s.handedOut i x k sl ∧ ∀ e, c.entitlement = .specific e → e = k)
      ∨ ∃ e, c.entitlement = .specific e ∧ e ≠ k
        ∧ s.handoutDone i x k = (s.handedOut i x k sl).reexamine (i.minute.getD 0) e := by
  unfold State.handoutDone
  rw [h]
  dsimp only
  rw [hc, Option.map_some]
  cases c.entitlement with
  | cls => exact .inl ⟨rfl, fun e h => by cases h⟩
  | specific e =>
    by_cases hk : e = k
    · exact .inl ⟨if_pos hk, fun e' h => by cases h; exact hk⟩
    · exact .inr ⟨e, rfl, hk, if_neg hk⟩

theorem State.handedOut_moved (s : State) (i : ScanInput) (x : Nat) (k : KeyId) (sl : Slot) :
    Moved s (s.handedOut i x k sl) k (.out x) := by
  unfold State.handedOut
  refine Moved.before (Moved.after ?_ (State.moveKey_moved _ _ _)) (State.enter_still _ _)
  exact .of_eq rfl rfl

/-- A handed out key is OUT with its contract (R74). -/
theorem State.handoutDone_moved {s : State} {i : ScanInput} {x : Nat} {k : KeyId} {sl : Slot} {c : Contract}
    (h : s.slotOf x = some sl) (hc : s.slot sl = some c) : Moved s (s.handoutDone i x k) k (.out x) := by
  obtain ⟨he, -⟩ | ⟨e, -, -, he⟩ := State.handoutDone_cases (i := i) (k := k) h hc <;> rw [he]
  · exact s.handedOut_moved i x k sl
  · exact (s.handedOut_moved i x k sl).before (State.reexamine_still _ _ _)

/-- What step 1 makes of a key that is gone: the handout it completes, or a key that is missing or taken by staff
(R47). -/
theorem State.keyGone_cases (s : State) (i : ScanInput) (k : KeyId) :
    (∃ x, i.purpose = .pickup x k ∧ s.contractState x = some .picking ∧ s.keyGone i k = s.handoutDone i x k)
      ∨ ∃ l b, (l = .missing ∨ l = .staffHand) ∧ s.keyGone i k = (s.moveKey k l).enter b := by
  unfold State.keyGone
  cases i.purpose with
  | pickup x k' =>
    dsimp only
    split
    · next h =>
      obtain ⟨rfl, hp⟩ := h
      exact .inl ⟨x, rfl, hp, rfl⟩
    · exact .inr ⟨_, _, .inl rfl, rfl⟩
  | staff | link => exact .inr ⟨_, _, .inr rfl, rfl⟩
  | ret | forced | nothing => exact .inr ⟨_, _, .inl rfl, rfl⟩

/-- Step 1 takes a key that is gone out of every compartment (R47). -/
theorem State.keyGone_moved (s : State) (i : ScanInput) (k : KeyId) :
    ∃ l, (∀ n, l ≠ .compartment n) ∧ Moved s (s.keyGone i k) k l := by
  obtain ⟨x, -, hp, he⟩ | ⟨l, b, hl, he⟩ := s.keyGone_cases i k <;> rw [he]
  · obtain ⟨sl, c, hsl, hc, -⟩ := State.contractState_slotOf hp
    exact ⟨_, fun n => by simp, State.handoutDone_moved hsl hc⟩
  · refine ⟨l, fun n => ?_, (s.moveKey_moved k l).before (State.enter_still _ _)⟩
    obtain rfl | rfl := hl <;> simp

theorem State.closeContract_still (s : State) (x : Nat) (r : Route) (m : Option Nat) (n : Option CompId) :
    Still s (s.closeContract x r m n) := by
  rw [s.closeContract_frame]; exact .of_eq rfl rfl

theorem State.cancelReturn_still (s : State) (x : Nat) : Still s (s.cancelReturn x) :=
  .of_calm (s.cancelReturn_calm x) (s.cancelReturn_places x)

theorem State.withdrawPromise_still (s : State) (k : KeyId) (n : Option CompId) :
    Still s (s.withdrawPromise k n) := .of_calm (s.withdrawPromise_calm k n) (s.withdrawPromise_places k n)

theorem State.requestSweep_still (s : State) (n : CompId) : Still s (s.requestSweep n) :=
  .of_calm (s.requestSweep_calm n) (.of_eq (s.requestSweep_keys n))

/-- A key where it already is. -/
theorem Moved.stay {s : State} {k : KeyId} {n : CompId}
    (h : s.loc k = some (.compartment n) ∨ s.key k = none) : Moved s s k (.compartment n) := by
  refine ⟨fun _ => rfl, fun j => ?_, fun m => ?_⟩
  · split
    · next e =>
      subst e
      obtain h | h := h
      · rw [h]
        obtain ⟨r, hr, -⟩ := Option.map_eq_some_iff.mp h
        rw [hr]; rfl
      · rw [State.loc, h]; rfl
    · rfl
  · rw [if_neg]
    rintro ⟨h1, h2⟩
    obtain h | h := h
    · rw [h] at h1
      exact h2 (Option.some.inj h1)
    · rw [State.loc, h] at h1; cases h1

/-- Step 2 brings a found key to the compartment that was read (R48, R49). -/
theorem State.keyFound_moved (s : State) (i : ScanInput) (log : FoundLog) (k : KeyId) :
    Moved s (s.keyFound i log k).1 k (.compartment i.comp) := by
  unfold State.keyFound
  split
  · next h => exact .stay (.inr (by simpa using h))
  · split
    · exact .after (s.closeContract_still _ _ _ _) (State.moveKey_moved _ _ _)
    · exact .after ((s.closeContract_still _ _ _ _).trans (State.cancelReturn_still _ _)) (State.moveKey_moved _ _ _)
  · next m h =>
    split
    · next e => exact .stay (.inl (e ▸ h))
    · exact ((s.moveKey_moved _ _).before (State.requestSweep_still _ _)).before
        (State.withdrawPromise_still _ _ _)
  all_goals exact s.moveKey_moved _ _

/-- What step 1 leaves of tags, locations and the law (R47). -/
theorem State.keysGone_moved (i : ScanInput) (G : List KeyId) (s : State) :
    let t := G.foldl (fun s k => s.keyGone i k) s
    (∀ j, (t.key j).map KeyRecord.tag = (s.key j).map KeyRecord.tag)
      ∧ (∀ j, j ∉ G → t.loc j = s.loc j) ∧ (∀ j ∈ G, ∀ n, t.loc j ≠ some (.compartment n))
      ∧ ∀ P, s.Located P → t.Located P := by
  induction G generalizing s with
  | nil => exact ⟨fun _ => rfl, fun _ _ => rfl, fun j hj => by simp at hj, fun _ h => h⟩
  | cons k G ih =>
    obtain ⟨l, hl, hm⟩ := s.keyGone_moved i k
    obtain ⟨h1, h2, h3, h4⟩ := ih (s.keyGone i k)
    refine ⟨fun j => (h1 j).trans (hm.tag j), fun j hj => ?_, fun j hj n => ?_, fun P hP => ?_⟩
    · obtain ⟨hjk, hjG⟩ := not_or.mp (List.mem_cons.not.mp hj)
      rw [List.foldl_cons, h2 j hjG, hm.loc j, if_neg hjk]
    · by_cases hG : j ∈ G
      · exact h3 j hG n
      · obtain rfl := (List.mem_cons.mp hj).resolve_right hG
        rw [List.foldl_cons, h2 j hG, hm.loc j, if_pos rfl]
        intro e
        obtain ⟨_, -, e⟩ := Option.map_eq_some_iff.mp e
        exact hl n e
    · exact h4 P (hP.of_moved hm fun n e => absurd e (hl n))

/-- What step 2 leaves of tags, locations and the law (R48, R49). -/
theorem State.keysFound_moved (i : ScanInput) (F : List KeyId) (p : State × FoundLog) :
    let t := (F.foldl (fun p k => p.1.keyFound i p.2 k) p).1
    (∀ j, (t.key j).map KeyRecord.tag = (p.1.key j).map KeyRecord.tag)
      ∧ (∀ j, j ∉ F → t.loc j = p.1.loc j)
      ∧ (∀ j ∈ F, t.loc j = (p.1.key j).map fun _ => .compartment i.comp)
      ∧ ∀ P, ¬ P i.comp → p.1.Located P → t.Located P := by
  induction F generalizing p with
  | nil => exact ⟨fun _ => rfl, fun _ _ => rfl, fun j hj => by simp at hj, fun _ _ h => h⟩
  | cons k F ih =>
    have hm := p.1.keyFound_moved i p.2 k
    obtain ⟨h1, h2, h3, h4⟩ := ih (p.1.keyFound i p.2 k)
    have hen : ∀ j (l : Location), (((p.1.keyFound i p.2 k).1.key j).map fun _ => l) = (p.1.key j).map fun _ => l :=
      fun j l => by
        have := congrArg (Option.map fun _ => l) (hm.tag j)
        rwa [Option.map_map, Option.map_map] at this
    refine ⟨fun j => (h1 j).trans (hm.tag j), fun j hj => ?_, fun j hj => ?_, fun P hn hP => ?_⟩
    · obtain ⟨hjk, hjF⟩ := not_or.mp (List.mem_cons.not.mp hj)
      rw [List.foldl_cons, h2 j hjF, hm.loc j, if_neg hjk]
    · by_cases hF : j ∈ F
      · rw [List.foldl_cons, h3 j hF, hen]
      · obtain rfl := (List.mem_cons.mp hj).resolve_right hF
        rw [List.foldl_cons, h2 j hF, hm.loc j, if_pos rfl]
    · refine h4 P hn (hP.of_moved hm fun n e => ?_)
      obtain rfl := Location.compartment.inj e
      exact hn

theorem State.step3_same (s : State) (i : ScanInput) : SameBasis s (s.step3 i) := by
  unfold State.step3
  generalize i.found.filter _ = l
  induction l generalizing s with
  | nil => exact .refl s
  | cons x l ih =>
    have h := ih (s.enter { kind := .foreignTag, minute := i.minute, comp := some i.comp, tag := some x })
    exact ⟨⟨h.keys, h.compartments, h.contracts⟩, h.scanner⟩

theorem State.step5_still (s : State) (i : ScanInput) : Still s (s.step5 i) := by
  unfold State.step5
  split
  · rw [State.fallBack_frame]; exact .of_eq rfl rfl
  · exact .refl s

theorem State.step6_still (s : State) (i : ScanInput) : Still s (s.step6 i) := by
  unfold State.step6
  split
  · rw [State.returnFailed_frame]; exact .of_eq rfl rfl
  · exact .refl s

theorem State.modifyComp_still {s : State} {n : CompId} {f : Compartment → Compartment}
    (hf : ∀ c, (f c).contents = c.contents) : Still s (s.modifyComp n f) := by
  refine ⟨.of_eq rfl, fun m => ?_⟩
  by_cases e : n = m
  · subst e; rw [State.modifyComp_comp_self, hf]
  · rw [State.modifyComp_comp_ne _ _ e]

theorem State.step7_still (s : State) (n : CompId) : Still s (s.step7 n) := by
  unfold State.step7
  dsimp only
  split
  · next k _ =>
    refine Still.trans (t := s.clearPromise k) ?_ (State.modifyComp_still fun _ => ?_)
    · exact .modifyKey fun _ => rfl
    · rfl
  · exact State.modifyComp_still fun _ => rfl

theorem State.markReturned_still (s : State) (k : KeyId) (r : Route) : Still s (s.markReturned k r) := by
  unfold State.markReturned
  split
  · exact .refl s
  · split
    · exact .modifyKey fun _ => rfl
    · exact .refl s

theorem State.step8_still (s : State) (log : FoundLog) : Still s (s.step8 log) := by
  unfold State.step8
  generalize log.closed = l
  induction l generalizing s with
  | nil => exact .refl s
  | cons p l ih => exact (s.markReturned_still p.1 p.2).trans (ih _)

theorem State.step9_still (s : State) (i : ScanInput) (log : FoundLog) (k : Option KeyId) :
    Still s (s.step9 i log k) := s.reexamineAll_still _ _

theorem foundList_nodup (tags : List Nat) : (foundList tags).Nodup :=
  (List.nodup_reverse.mpr (List.nodup_dedup _)).take

theorem mem_keysOf {items : List Item} {k : KeyId} : k ∈ keysOf items ↔ Item.key k ∈ items := by
  unfold keysOf
  rw [List.mem_filterMap]
  constructor
  · rintro ⟨x, hx, h⟩
    cases x <;> cases h
    exact hx
  · exact fun h => ⟨_, h, rfl⟩

theorem State.itemOf_key {s : State} {x : Nat} {k : KeyId} : s.itemOf x = .key k ↔ s.keyOfTag x = some k := by
  unfold State.itemOf
  cases s.keyOfTag x <;> simp

/-- No two tags are one item (R50). -/
theorem State.itemOf_injective {s : State}
    (h : ∀ j k a b, s.key j = some a → s.key k = some b → a.tag = b.tag → j = k) : s.itemOf.Injective := by
  intro x y e
  cases hx : s.keyOfTag x with
  | some k =>
    have hy : s.keyOfTag y = some k := State.itemOf_key.mp (e.symm.trans (State.itemOf_key.mpr hx))
    have := ((State.keyOfTag_eq_some h).mp hx).symm.trans ((State.keyOfTag_eq_some h).mp hy)
    exact Option.some.inj this
  | none =>
    have hi : s.itemOf x = .foreign x := by rw [State.itemOf, hx]
    rw [hi, State.itemOf] at e
    split at e <;> cases e
    rfl

/-- Step 4 writes the items that were found, and the law holds again when they are the keys that are there (R50). -/
theorem State.step4_located {s : State} {i : ScanInput} (h : s.Located (· ≠ i.comp)) (hn : i.found.Nodup)
    (hk : ∀ k, (∃ x ∈ i.found, s.keyOfTag x = some k) ↔ s.loc k = some (.compartment i.comp)) :
    (s.step4 i).LocationOk := by
  refine State.located_iff.mpr ⟨h.tags, fun k n _ => ?_, fun n _ => ?_⟩
  · by_cases e : i.comp = n
    · subst e
      rw [State.step4, State.modifyComp_comp_self]
      change _ ↔ s.loc k = _
      rw [← hk k, List.mem_map]
      exact exists_congr fun x => and_congr_right fun _ => State.itemOf_key
    · rw [State.step4, State.modifyComp_comp_ne _ _ e]
      exact h.lists k n (Ne.symm e)
  · by_cases e : i.comp = n
    · subst e
      rw [State.step4, State.modifyComp_comp_self]
      exact hn.map (State.itemOf_injective h.tags)
    · rw [State.step4, State.modifyComp_comp_ne _ _ e]
      exact h.nodup n (Ne.symm e)

/-- After the first two steps the keys in the compartment are those whose tags were found (R47-R49). -/
theorem State.found_iff_there {s : State} {i : ScanInput} (h : s.LocationOk)
    (hb : i.before = (s.comp i.comp).contents) :
    let t := ((s.step1 i).step2 i).1
    (∀ j, (t.key j).map KeyRecord.tag = (s.key j).map KeyRecord.tag) ∧ t.Located (· ≠ i.comp)
      ∧ ∀ k, (∃ x ∈ i.found, t.keyOfTag x = some k) ↔ t.loc k = some (.compartment i.comp) := by
  have hs := State.located_iff.mp h
  obtain ⟨a1, a2, a3, a4⟩ := State.keysGone_moved i
    ((keysOf i.before).filter fun k => (s.key k).isSome && !s.found i k) s
  change let t := ((s.step1 i).step2 i).1; _
  change ∀ j, ((s.step1 i).key j).map _ = _ at a1
  change ∀ j, _ → (s.step1 i).loc j = _ at a2
  change ∀ j ∈ _, ∀ n, (s.step1 i).loc j ≠ _ at a3
  change ∀ P, _ → (s.step1 i).Located P at a4
  have h1 := a4 _ hs
  obtain ⟨b1, b2, b3, b4⟩ := State.keysFound_moved i ((s.step1 i).foundKeys i.found) (s.step1 i, ⟨[], []⟩)
  change ∀ j, (((s.step1 i).step2 i).1.key j).map _ = _ at b1
  change ∀ j, _ → ((s.step1 i).step2 i).1.loc j = _ at b2
  change ∀ j ∈ _, ((s.step1 i).step2 i).1.loc j = _ at b3
  change ∀ P, _ → _ → ((s.step1 i).step2 i).1.Located P at b4
  have h2 := b4 (· ≠ i.comp) (fun hn => hn rfl) (h1.mono fun _ _ => trivial)
  refine ⟨fun j => (b1 j).trans (a1 j), h2, fun k => ?_⟩
  have htag : ∀ x, ((s.step1 i).step2 i).1.keyOfTag x = some k ↔ (s.step1 i).keyOfTag x = some k := fun x => by
    rw [State.keyOfTag_eq_some h2.tags, State.keyOfTag_eq_some h1.tags, b1 k]
  have hmem : (∃ x ∈ i.found, ((s.step1 i).step2 i).1.keyOfTag x = some k)
      ↔ k ∈ (s.step1 i).foundKeys i.found := by
    rw [State.foundKeys, List.mem_filterMap]
    exact exists_congr fun x => and_congr_right fun _ => htag x
  rw [hmem]
  constructor
  · intro hk
    obtain ⟨x, -, hx⟩ := List.mem_filterMap.mp hk
    rw [b3 k hk]
    obtain ⟨r, hr, -⟩ := Option.map_eq_some_iff.mp ((State.keyOfTag_eq_some h1.tags).mp hx)
    change ((s.step1 i).key k).map _ = _
    rw [hr]; rfl
  · intro hl
    by_contra hk
    rw [b2 k hk] at hl
    change (s.step1 i).loc k = _ at hl
    have hG : k ∉ (keysOf i.before).filter fun k => (s.key k).isSome && !s.found i k := fun hG => a3 k hG _ hl
    rw [a2 k hG] at hl
    have hin : k ∈ keysOf i.before := by rw [mem_keysOf, hb]; exact (hs.lists k _ trivial).mpr hl
    obtain ⟨r, hr, -⟩ := Option.map_eq_some_iff.mp hl
    have hf : r.tag ∈ i.found := by
      by_contra hf
      exact hG (List.mem_filter.mpr ⟨hin, by simp [hr, State.found, hf]⟩)
    refine hk (List.mem_filterMap.mpr ⟨r.tag, hf, (State.keyOfTag_eq_some h1.tags).mpr ?_⟩)
    rw [a1 k, hr]; rfl

/-- The state of a reconciliation before its clean-up, steps 1 to 4. -/
def State.sorted (s : State) (i : ScanInput) : State := (((s.step1 i).step2 i).1.step3 i).step4 i

theorem State.sorted_located {s : State} {i : ScanInput} (h : s.LocationOk)
    (hb : i.before = (s.comp i.comp).contents) (hn : i.found.Nodup) : (s.sorted i).LocationOk := by
  obtain ⟨-, h2, hk⟩ := State.found_iff_there h hb
  have h3 := ((s.step1 i).step2 i).1.step3_same i
  have hs := Still.of_same h3.toSameRecords
  refine State.step4_located (h2.of_same hs.places fun n _ => hs.contents n) hn fun k => ?_
  rw [hs.places.loc, ← hk k]
  refine exists_congr fun x => and_congr_right fun _ => ?_
  rw [State.keyOfTag, h3.keys]; rfl

theorem State.reconcile_eq (s : State) (i : ScanInput) : s.reconcile i
    = (((((s.sorted i).step5 i).step6 i).step7 i.comp).step8 ((s.step1 i).step2 i).2).step9 i
      ((s.step1 i).step2 i).2 (s.releaseKey i.comp) := rfl

theorem State.reconcile_located {s : State} {i : ScanInput} (h : s.LocationOk)
    (hb : i.before = (s.comp i.comp).contents) (hn : i.found.Nodup) : (s.reconcile i).LocationOk := by
  rw [State.reconcile_eq]
  exact (State.sorted_located h hb hn).of_still ((State.step5_still _ _).trans ((State.step6_still _ _).trans
    ((State.step7_still _ _).trans ((State.step8_still _ _).trans (State.step9_still _ _ _ _)))))

/-- The input of the reconciliation of a read (R43, R46). -/
theorem State.completeRead_cases (s : State) (n : CompId) (tags : List Nat) : s.completeRead n tags = s
    ∨ ∃ e ∈ s.scanner.list, e.comp = n ∧ e.reading = true ∧ s.completeRead n tags
      = (s.withdrawEntry n).reconcile ⟨n, foundList tags, (s.comp n).contents, s.present,
        (s.withdrawEntry n).scanPurpose n e.carried⟩ := by
  unfold State.completeRead
  split
  · exact .inl rfl
  · next e he =>
    have hr := List.find?_some he
    rw [ScanEntry.reads, Bool.and_eq_true, beq_iff_eq] at hr
    obtain ⟨hr, rfl⟩ := hr
    exact .inr ⟨e, List.mem_of_find?_eq_some he, rfl, hr, rfl⟩

theorem State.completeRead_located {s : State} (h : s.LocationOk) (n : CompId) (tags : List Nat) :
    (s.completeRead n tags).LocationOk := by
  rcases s.completeRead_cases n tags with he | ⟨e, -, -, -, he⟩ <;> rw [he]
  · exact h
  · exact State.reconcile_located (h.of_still (.of_same (s.withdrawEntry_same n))) rfl (foundList_nodup tags)

end Sys2Proof.Machine
end

section
/-! SUPPORT. What every operation and a start leave of the keys' places, and the law of location (R1, R2, R16). -/

namespace Sys2Proof.Machine

/-! ### Every operation -/

theorem State.modifySlot_still (s : State) (sl : Slot) (f : Contract → Contract) : Still s (s.modifySlot sl f) :=
  .of_eq rfl rfl

theorem State.modifyContract_still (s : State) (x : Nat) (f : Contract → Contract) :
    Still s (s.modifyContract x f) :=
  .of_eq (s.modifyContract_keys x f).1 (s.modifyContract_keys x f).2

theorem State.addCode_still (s : State) (sl : Slot) (x : Option Nat) : Still s (s.addCode sl x) := by
  unfold State.addCode
  split <;> exact .of_eq rfl rfl

theorem State.dropCode_still (s : State) (sl : Slot) : Still s (s.dropCode sl) := .of_eq rfl rfl

theorem State.changeCode_still (s : State) (sl : Slot) (x : Option (Option Nat)) : Still s (s.changeCode sl x) := by
  unfold State.changeCode
  split
  · exact .refl s
  · exact (s.dropCode_still sl).trans (State.addCode_still _ _ _)

theorem State.reexamineClaim_still (s : State) (e : Entitlement) : Still s (s.reexamineClaim e) := by
  unfold State.reexamineClaim
  split
  · exact s.reexamine_still _ _
  · exact .refl s

theorem State.resetTier_still (s : State) (sl : Slot) (m : Nat) : Still s (s.resetTier sl m) := by
  unfold State.resetTier
  split
  · exact .refl s
  · dsimp only
    split <;> exact .of_eq rfl rfl

theorem State.amend_still (s : State) (sl : Slot) (c : Contract) (a : Amendment) : Still s (s.amend sl c a) := by
  have h := (s.modifySlot_still sl a.applyTo).trans (State.changeCode_still _ sl a.code)
  unfold State.amend
  dsimp only
  split
  · exact h.trans (State.resetTier_still _ _ _)
  · exact h

theorem State.editKey_still (s : State) (k : KeyId) (r : KeyRecord) (f : KeyFields) :
    Still s (s.editKey k r f) := by
  have h : Still s (s.modifyKey k fun r =>
      { r with label := f.label, group := f.group, transmission := f.transmission, energy := f.energy
               seats := f.seats }) := .modifyKey fun _ => rfl
  unfold State.editKey
  dsimp only
  split
  · exact h.trans ⟨fun _ => rfl, fun _ => rfl⟩
  · exact h

/-- A key promised to a contract: out of its list, its idle-since kept (R4). -/
def State.promised (s : State) (x : Nat) (k : KeyId) (g : Group) : State :=
  (s.modifyKey k fun r => { r with promisedTo := some x }).withKeys
    ((s.modifyKey k fun r => { r with promisedTo := some x }).keys.leave g k)

/-- A contract whose pickup of key `k` has started (R68). -/
def Contract.toPicking (k : KeyId) (g : Group) (c : Contract) : Contract :=
  { c with state := .picking, key := some k, grantedGroup := some g }

/-- A contract whose pickup is undone (R68). -/
def Contract.toTicket (c : Contract) : Contract := { c with state := .ticket, key := none, grantedGroup := none }

/-- A pickup promises its key, moves its contract to PICKING, and requests the release, or is undone (R68). -/
theorem State.startPickup_cases (s : State) (x : Nat) (k : KeyId) (o : Origin) :
    s.startPickup x k o = .noKey
      ∨ ∃ r n, s.key k = some r ∧ r.location = .compartment n ∧ s.grantable x k = true
        ∧ ((∃ t, ((s.promised x k r.group).modifyContract x (Contract.toPicking k r.group)).requestRelease n
              ⟨.pickup x k, o⟩ = .ok t ∧ s.startPickup x k o = .started n t)
          ∨ s.startPickup x k o = .undone
            (((((s.promised x k r.group).modifyContract x (Contract.toPicking k r.group)).modifyContract x
              Contract.toTicket).clearPromise k).reexamine s.joinMinute k)) := by
  unfold State.startPickup
  split
  · next s1 r n hp hr hn =>
    refine .inr ⟨r, n, hr, ?_, ?_⟩
    · unfold State.keyComp at hn
      rw [hr] at hn
      split at hn
      · next hl => cases hn; exact Option.some.inj hl
      · cases hn
    · unfold State.grantPromise at hp
      rw [hr] at hp
      dsimp only at hp
      split at hp
      · next hg =>
        obtain rfl := Option.some.inj hp
        refine ⟨hg, ?_⟩
        dsimp only
        split
        · next hs => exact .inl ⟨_, hs, rfl⟩
        · exact .inr rfl
      · cases hp
  · exact .inl rfl

theorem State.promised_still (s : State) (x : Nat) (k : KeyId) (g : Group) : Still s (s.promised x k g) := by
  refine Still.trans (t := s.modifyKey k fun r => { r with promisedTo := some x }) ?_ ⟨fun _ => rfl, fun _ => rfl⟩
  exact .modifyKey fun _ => rfl

theorem State.clearPromise_still (s : State) (k : KeyId) : Still s (s.clearPromise k) :=
  .modifyKey fun _ => rfl

theorem State.startPickup_still {s t : State} {x : Nat} {k : KeyId} {o : Origin}
    (h : (∃ n, s.startPickup x k o = .started n t) ∨ s.startPickup x k o = .undone t) : Still s t := by
  obtain e | ⟨r, n, -, -, -, ⟨u, hu, e⟩ | e⟩ := s.startPickup_cases x k o <;> rw [e] at h <;>
    obtain ⟨m, hm⟩ | hm := h <;> cases hm
  · refine ((s.promised_still x k r.group).trans (State.modifyContract_still _ _ _)).trans
      ⟨.of_eq (State.requestRelease_frame hu).1, fun m => ?_⟩
    rw [(State.requestRelease_calm hu).contents]
    exact (State.modifyComp_still (f := Compartment.placed _) fun _ => rfl).contents m
  · exact (s.promised_still x k r.group).trans ((State.modifyContract_still _ _ _).trans
      ((State.modifyContract_still _ _ _).trans
        ((State.clearPromise_still _ k).trans (State.reexamine_still _ _ _))))

theorem State.answerTag_taken {s t : State} {tag : Nat} {n : CompId} (h : s.answerTag tag = (.taken n, t)) :
    ∃ x k u, s.recognised tag = some (x, k) ∧ s.requestRelease n ⟨.ret x k, .kiosk⟩ = .ok u
      ∧ t = u.modifyContract x fun c => { c with state := .returning } := by
  unfold State.answerTag at h
  split at h
  · cases h
  next x k hr =>
  split at h
  · cases h
  split at h
  · cases h
  next u hu =>
  cases h
  exact ⟨x, k, u, hr, hu, rfl⟩

theorem State.tierStep_still (s : State) (sl : Slot) (m : Nat) : Still s (s.tierStep sl m) := by
  unfold State.tierStep
  split
  · exact .refl s
  · dsimp only
    split <;> exact .of_eq rfl rfl

theorem State.reminderStep_still (s : State) (sl : Slot) (m : Nat) : Still s (s.reminderStep sl m) := by
  unfold State.reminderStep
  split
  · exact .refl s
  · dsimp only
    split
    · exact .refl s
    split
    · exact .of_eq rfl rfl
    split <;> exact .of_eq rfl rfl

theorem State.lapse_still (s : State) (sl : Slot) (m : Nat) : Still s (s.lapse sl m) := by
  have h : Still s ((s.modifySlot sl fun c => { c with state := .lapsed }).dropCode sl) := .of_eq rfl rfl
  unfold State.lapse
  split
  · exact .refl s
  · dsimp only
    refine Still.trans ?_ (State.enter_still _ _)
    split
    · exact h.trans (State.reexamine_still _ _ _)
    · exact h

theorem State.visitSlot_still (s : State) (sl : Slot) (m : Nat) : Still s (s.visitSlot sl m) := by
  unfold State.visitSlot
  split
  · exact .refl s
  · split
    case h_1 | h_2 => exact (s.tierStep_still sl m).trans (State.reminderStep_still _ _ _)
    case h_3 | h_4 =>
      split
      · exact s.lapse_still sl m
      · exact .refl s
    all_goals exact .refl s

theorem State.forceClose_located {s : State} (h : s.LocationOk) (c : Contract) : (s.forceClose c).LocationOk := by
  have h1 := h.of_still ((s.closeContract_still c.number .forceClosed s.present none).trans
    (State.cancelReturn_still _ c.number))
  unfold State.forceClose
  dsimp only
  split
  · exact (h1.of_moved (State.moveKey_moved _ _ _) fun n => by simp).of_still (State.reexamine_still _ _ _)
  · exact h1

/-- A dropped key is DROP, and UNCHECKED (R104, R105). -/
theorem State.keyDropped_moved (s : State) (k : KeyId) : Moved s (s.keyDropped k) k .drop := by
  refine (s.moveKey_moved k .drop).before ?_
  exact .modifyKey fun _ => rfl

theorem State.keyDropped_located {s : State} (h : s.LocationOk) (k : KeyId) : (s.keyDropped k).LocationOk :=
  h.of_moved (s.keyDropped_moved k) fun n => by simp

theorem State.dropReturn_located {s : State} (h : s.LocationOk) (k : KeyId) (x : Nat) (m : Option Nat) :
    (s.dropReturn k x m).LocationOk :=
  (State.keyDropped_located (h.of_still ((s.closeContract_still x .drop m none).trans
    (State.cancelReturn_still _ x))) k).of_still (State.reexamine_still _ _ _)

theorem State.dropOther_located {s : State} (h : s.LocationOk) (k : KeyId) (l : Location) :
    (s.dropOther k l).LocationOk := by
  have h1 := State.keyDropped_located h k
  unfold State.dropOther
  dsimp only
  split
  · exact h1.of_still ((State.requestSweep_still _ _).trans ((State.withdrawPromise_still _ _ _).trans
      (State.reexamineAll_still _ _ _)))
  all_goals exact h1

theorem State.dropKey_located {s : State} (h : s.LocationOk) (x : Nat) (k : KeyId) (m : Option Nat) :
    (s.dropKey x k m).LocationOk := by
  have ha : ∀ e, (s.appendDrop e).LocationOk := fun e => h.of_still (.of_eq rfl rfl)
  unfold State.dropKey
  split
  · exact h
  · exact State.dropReturn_located (ha _) _ _ _
  · exact State.dropOther_located (ha _) _ _

/-- A chute read that concerns no enrolled key changes no key and no compartment; the DROP_FULL notice none either. -/
theorem State.enterFull_same (s : State) (m : Option Nat) : SameBasis s (s.enterFull m) := by
  unfold State.enterFull
  split
  · exact ⟨⟨rfl, rfl, rfl⟩, rfl⟩
  · exact .refl s

/-- What a chute read can be for the records: nothing, or the read of an enrolled key (R103). -/
theorem State.chute_cases (s : State) (tag : Option Nat) : SameRecords s (s.chute tag)
    ∨ ∃ x k, s.keyOfTag x = some k ∧ SameRecords (s.dropKey x k s.present) (s.chute tag) := by
  have hf : ∀ e x y, SameRecords s (((s.appendDrop e).enterForeign s.present x y).enterFull s.present) :=
    fun e x y => SameRecords.trans (t := (s.appendDrop e).enterForeign s.present x y) ⟨rfl, rfl, rfl⟩
      (State.enterFull_same _ _).toSameRecords
  unfold State.chute
  dsimp only
  split
  · exact .inl ⟨rfl, rfl, rfl⟩
  split
  · exact .inl (hf _ _ _)
  split
  · exact .inl (.refl s)
  split
  · exact .inl (hf _ _ _)
  · next k hk => exact .inr ⟨_, k, hk, (State.enterFull_same _ _).toSameRecords⟩

theorem State.LocationOk.of_same {s t : State} (h : s.LocationOk) (g : SameRecords s t) : t.LocationOk :=
  h.of_still (.of_same g)

theorem State.takeFromDrop_moved (s : State) (k : KeyId) : Still s (s.takeFromDrop k)
    ∨ s.loc k = some .drop ∧ Moved s (s.takeFromDrop k) k .staffHand := by
  by_cases h : s.loc k = some .drop
  · refine .inr ⟨h, fun j => ?_, fun j => ?_, fun n => ?_⟩
    · by_cases e : k = j
      · subst e
        rw [State.takeFromDrop, State.modifyKey_key_self, Option.map_map]
        refine congrArg (fun g => Option.map g (s.key k)) (funext fun r => ?_)
        dsimp only [Function.comp]
        split <;> rfl
      · rw [State.takeFromDrop, State.modifyKey_key_ne _ _ e]
    · by_cases e : k = j
      · subst e
        obtain ⟨r, hr, hl⟩ := Option.map_eq_some_iff.mp h
        rw [State.loc, State.takeFromDrop, State.modifyKey_key_self, if_pos rfl, hr, Option.map_some,
          Option.map_some, if_pos hl, Option.map_some]
      · rw [State.loc, State.takeFromDrop, State.modifyKey_key_ne _ _ e, if_neg (Ne.symm e)]; rfl
    · rw [h]; exact (if_neg (by simp)).symm
  · refine .inl ⟨fun j => ?_, fun _ => rfl⟩
    by_cases e : k = j
    · subst e
      rw [State.takeFromDrop, State.modifyKey_key_self, Option.map_map]
      cases hr : s.key k with
      | none => rfl
      | some r =>
        have hl : r.location ≠ .drop := fun hl => h (by rw [State.loc, hr, Option.map_some, hl])
        rw [Option.map_some, Option.map_some, Function.comp, if_neg hl]
    · rw [State.takeFromDrop, State.modifyKey_key_ne _ _ e]

/-- The drop list's keys after an emptying, by tag and location (R108). -/
theorem State.takeAllFromDrop_located {s : State} (h : s.LocationOk) (ks : List KeyId) :
    (ks.foldl State.takeFromDrop s).LocationOk := by
  induction ks generalizing s with
  | nil => exact h
  | cons k ks ih =>
    obtain hs | ⟨-, hm⟩ := s.takeFromDrop_moved k
    · exact ih (h.of_still hs)
    · exact ih (h.of_moved hm fun n => by simp)

theorem State.clearDrop_same (s : State) :
    SameBasis ((s.drop.entries.filterMap DropEntry.key).foldl State.takeFromDrop s) s.clearDrop :=
  ⟨⟨rfl, rfl, rfl⟩, rfl⟩

theorem State.clearDrop_located {s : State} (h : s.LocationOk) : s.clearDrop.LocationOk :=
  (State.takeAllFromDrop_located h _).of_same s.clearDrop_same.toSameRecords

theorem State.enrol_located {s : State} (h : s.LocationOk) {k : KeyId} {tag : Nat} {f : KeyFields}
    (hfree : s.key k = none) (hnew : s.keyOfTag tag = none) : (s.enrol k tag f).LocationOk := by
  obtain ⟨h1, h2, h3⟩ := h
  unfold State.enrol
  dsimp only
  generalize hr : (⟨tag, _, _, _, _, _, _, _, _, _, _⟩ : KeyRecord) = record
  have hloc : record.location = .staffHand := by rw [← hr]
  have htag : record.tag = tag := by rw [← hr]
  generalize hu : s.withKeys { s.keys with places := s.keys.places.set k (some record) } = u
  refine State.LocationOk.of_still (s := u) ?_ (.of_calm (State.requestSweeps_calm u _)
    (.of_eq (State.requestSweeps_same u _).1))
  have hk : u.key k = some record := by rw [← hu]; exact Table.get_set_self _ _ _
  have hj : ∀ j, j ≠ k → u.key j = s.key j := fun j hj => by rw [← hu]; exact Table.get_set_ne _ _ (Ne.symm hj)
  have hc : ∀ n, u.comp n = s.comp n := fun n => by rw [← hu]; rfl
  have hnew' := State.keyOfTag_eq_none.mp hnew
  refine ⟨fun i j a b ha hb hab => ?_, fun j n => ?_, fun n => hc n ▸ h3 n⟩
  · by_cases ei : i = k <;> by_cases ej : j = k
    · rw [ei, ej]
    · subst ei
      rw [hk] at ha; cases ha
      exact absurd (hab.symm.trans htag) (hnew' j b (hj j ej ▸ hb))
    · subst ej
      rw [hk] at hb; cases hb
      exact absurd (hab.trans htag) (hnew' i a (hj i ei ▸ ha))
    · exact h1 i j a b (hj i ei ▸ ha) (hj j ej ▸ hb) hab
  · rw [hc]
    by_cases e : j = k
    · subst e
      rw [h2 j n, hfree, hk]
      simp [hloc]
    · rw [hj j e]; exact h2 j n

theorem State.removeKey_located {s : State} (h : s.LocationOk) {k : KeyId} {r : KeyRecord} (hk : s.key k = some r)
    (hl : r.location.fixed = false) : (s.removeKey k).LocationOk := by
  obtain ⟨h1, h2, h3⟩ := h
  have hself : (s.removeKey k).key k = none := Table.get_set_self _ _ _
  have hne : ∀ j, j ≠ k → (s.removeKey k).key j = s.key j := fun j hj => Table.get_set_ne _ _ (Ne.symm hj)
  have hmem : ∀ j a, (s.removeKey k).key j = some a → s.key j = some a := fun j a ha => by
    by_cases e : j = k
    · subst e; rw [hself] at ha; cases ha
    · rwa [hne j e] at ha
  refine ⟨fun i j a b ha hb => h1 i j a b (hmem i a ha) (hmem j b hb), fun j n => ?_, h3⟩
  change Item.key j ∈ (s.comp n).contents ↔ _
  rw [h2 j n]
  by_cases e : j = k
  · subst e
    rw [hself, hk]
    refine iff_of_false (fun h => ?_) (fun h => by cases h)
    rw [Option.some.inj h] at hl
    cases hl
  · rw [hne j e]

theorem State.openUnder_keys (s : State) (n : CompId) :
    (s.openUnder n).keys = s.keys ∧ (s.openUnder n).contracts = s.contracts := by
  unfold State.openUnder
  dsimp only
  obtain ⟨x, hx⟩ := ((s.freeChannel n).modifyComp n fun c =>
    { c with door := .opened, hold := some (seconds s.store.working.profile.value.hold) }).arbitrate_frame
  rw [hx]
  split
  · exact ⟨(State.tellOpened_same _ _ _).keys, (State.tellOpened_same _ _ _).contracts⟩
  · exact ⟨rfl, rfl⟩

theorem State.forceOpen_places (s : State) (n : CompId) : SamePlaces s (s.forceOpen n) := by
  unfold State.forceOpen
  dsimp only
  split
  · exact SamePlaces.trans (.of_eq rfl) (State.endRelease_places _ _ _ _)
  all_goals exact .of_eq rfl

theorem State.windowEnd_places (s : State) (n : CompId) (d : DoorState) : SamePlaces s
    (((s.freeChannel n).modifyComp n fun c => { c with door := d }).arbitrate.endRelease n .expired) := by
  obtain ⟨x, hx⟩ := ((s.freeChannel n).modifyComp n fun c => { c with door := d }).arbitrate_frame
  refine SamePlaces.trans ?_ (State.endRelease_places _ _ _ _)
  rw [hx]
  exact .of_eq rfl

theorem State.sweepAll_calm (s : State) : Calm s s.sweepAll :=
  (s.requestSweeps_calm s.unlisted).trans (t := s.unlisted.foldl State.requestSweep s) (.of_eq rfl)

theorem State.rewriteKey_still {s : State} {k : KeyId} {f : KeyRecord → KeyRecord} {m : Nat}
    (hf : ∀ r, (f r).place = r.place) : Still s ((s.modifyKey k f).reexamine m k) :=
  (Still.modifyKey hf).trans (State.reexamine_still _ _ _)

theorem State.issue_still (s : State) (sl : Slot) (c : Contract) : Still s (s.issue sl c) :=
  Still.trans (Still.trans (t := s.withContracts { s.contracts with slots := s.contracts.slots.set sl (some c) })
    (.of_eq rfl rfl) (State.addCode_still _ _ _)) (State.reexamineClaim_still _ _)

/-- Every operation keeps the law of location (R1, R2, R16). -/
theorem Op.located {s t : State} (h : Op s t) (hs : s.LocationOk) : t.LocationOk := by
  have calm : ∀ {t : State}, Calm s t → t.keys = s.keys → t.LocationOk := fun hc hk =>
    hs.of_still (.of_calm hc (.of_eq hk))
  cases h with
  | nothing => exact hs
  | enrol hfree hnew => exact State.enrol_located hs hfree hnew
  | editKey hk => exact hs.of_still (s.editKey_still _ _ _)
  | removeKey hk hn hl => exact State.removeKey_located hs hk hl
  | holdKey hk =>
    unfold State.holdKey
    split
    · exact hs
    · refine hs.of_still (State.rewriteKey_still fun _ => ?_)
      rfl
  | checkKey hk =>
    unfold State.checkKey
    split
    · exact hs
    · refine hs.of_still (State.rewriteKey_still fun _ => ?_)
      rfl
  | issue => exact hs.of_still (s.issue_still _ _)
  | amend => exact hs.of_still (s.amend_still _ _ _)
  | voidTicket => exact hs.of_still (((s.modifySlot_still _ _).trans (State.dropCode_still _ _)).trans
      (State.reexamineClaim_still _ _))
  | resumeTicket => exact hs.of_still (s.modifySlot_still _ _)
  | retire => exact hs.of_still (.of_eq rfl rfl)
  | pickup _ _ ht => exact hs.of_still (State.startPickup_still (.inl ⟨_, ht⟩))
  | pickupUndone _ _ ht => exact hs.of_still (State.startPickup_still (.inr ht))
  | returnStarted ht =>
    obtain ⟨x, k, u, -, hu, rfl⟩ := State.answerTag_taken ht
    refine hs.of_still (Still.trans ?_ (u.modifyContract_still _ _))
    refine .of_calm ((State.placed_calm (State.requestRelease_ok hu).1 fun _ _ => ?_).trans
      (State.requestRelease_calm hu)) (.of_eq (State.requestRelease_frame hu).1)
    exact Purpose.noConfusion
  | release hr ht =>
    refine calm ((State.placed_calm (State.requestRelease_ok ht).1 fun x k e => ?_).trans
      (State.requestRelease_calm ht)) (State.requestRelease_frame ht).1
    obtain ⟨b, hb⟩ | hb := hr <;> rw [hb] at e <;> cases e
  | cancel ht => exact hs.of_still (.of_calm (State.cancelRelease_calm ht) (State.cancelRelease_places ht))
  | forceClose => exact State.forceClose_located hs _
  | outOfService =>
    unfold State.outOfService
    split
    · exact hs
    · exact hs.of_still ((State.modifyComp_still (f := fun c => { c with service := .outOfService })
        fun _ => rfl).trans (State.reexamineAll_still _ _ _))
  | backInService =>
    unfold State.backInService
    split
    · exact hs
    · exact hs.of_still ((State.modifyComp_still (f := fun c => { c with service := .inService })
        fun _ => rfl).trans (State.requestSweep_still _ _))
  | requestSweep => exact hs.of_still (s.requestSweep_still _)
  | sweepAll => exact calm s.sweepAll_calm (State.requestSweeps_same s _).1
  | openUnder => exact calm (s.openUnder_calm _) (s.openUnder_keys _).1
  | forceOpen => exact hs.of_still (.of_calm (s.forceOpen_calm _) (s.forceOpen_places _))
  | closeDoor => exact calm (s.closeDoor_calm _) rfl
  | windowEnd hd => exact hs.of_still (.of_calm (State.windowEnd_calm hd) (State.windowEnd_places _ _ _))
  | holdEnd => exact calm (s.holdEnd_calm _) rfl
  | scan => exact State.completeRead_located hs _ _
  | chute =>
    obtain h | ⟨x, k, -, h⟩ := s.chute_cases ‹_›
    · exact hs.of_same h
    · exact (State.dropKey_located hs _ _ _).of_same h
  | clearDrop => exact State.clearDrop_located hs
  | visitSlot => exact hs.of_still (s.visitSlot_still _ _)
  | clearForced => exact calm s.clearForced_calm rfl
  | count => exact calm s.countAll_calm rfl

/-! ### Starts (R186) -/

theorem Table.get_zipWith {α β γ : Type} {n : Nat} (f : α → β → γ) (t : Table α n) (u : Table β n) (i : Fin n) :
    (t.zipWith f u).get i = f (t.get i) (u.get i) := by
  simp [Table.get, Table.zipWith]

/-- The records of a start before its switches are read: steps 1 to 3 of R186. -/
def State.startTables (cold : Bool) (s : State) : State :=
  if cold then s.endFlight.readStore.emptyTables else s.endFlight.readStore.rollBackTables

theorem State.startSweep_same (s : State) : SameRecords s s.startSweep := by
  refine SameRecords.trans (t := s.withScanner
    { list := (s.doorPins.places fun isOpen => !isOpen).map fun n => ⟨n, .sweep, .nothing, false⟩
      sweeping := true }) ⟨rfl, rfl, rfl⟩ ?_
  unfold State.startSweep
  rw [(State.startRead_kept _).2]
  exact ⟨rfl, rfl, rfl⟩

theorem State.enters_same {α : Type} (l : List α) (f : State → α → NoticeBody) (s : State) :
    SameBasis s (l.foldl (fun s a => s.enter (f s a)) s) := by
  induction l generalizing s with
  | nil => exact .refl s
  | cons a l ih =>
    have h := ih (s.enter (f s a))
    exact ⟨⟨h.keys, h.compartments, h.contracts⟩, h.scanner⟩

theorem State.startNotices_same (cold m : Bool) (s : State) : SameRecords s (s.startNotices cold m) :=
  (s.enter_same _).toSameRecords.trans (State.enters_same _ _ _).toSameRecords

/-- After the switches are read no key, compartment or contract changes in a start (R186 steps 5 to 7). -/
theorem State.start_same (cold m : Bool) (s : State) :
    SameRecords ((s.startTables cold).readField.readStaffDoor cold) (s.start cold m) := by
  have he : ∀ u v : State, SameRecords v u → SameRecords v (u.sweepCheck.clearCauses.attend.transmit false) :=
    fun u v h => (h.trans (State.sweepCheck_same _)).trans
      (SameRecords.trans (t := u.sweepCheck.clearCauses) ⟨rfl, rfl, rfl⟩
        ((State.attend_same _).toSameRecords.trans (State.transmit_same _ _).toSameRecords))
  unfold State.start
  dsimp only
  generalize hu : (if cold = true then s.endFlight.readStore.emptyTables else s.endFlight.readStore.rollBackTables) = u
  obtain rfl : s.startTables cold = u := hu
  have hn := ((s.startTables cold).readField.readStaffDoor cold).startSweep_same.trans
    (State.startNotices_same cold m _)
  refine he _ _ ?_
  split
  · exact hn.trans (State.enter_same _ _).toSameRecords
  · exact hn

/-- The staff door's reading empties the drop list or leaves the keys as they are (R112). -/
theorem State.readStaffDoor_cases (cold : Bool) (s : State) :
    (s.visitEnded cold = false ∧ SameRecords s (s.readStaffDoor cold))
      ∨ s.visitEnded cold = true ∧ SameRecords
        ((s.drop.entries.filterMap DropEntry.key).foldl State.takeFromDrop
          (s.withDrop { s.drop with staffDoor := .closed })) (s.readStaffDoor cold) := by
  unfold State.readStaffDoor State.visitEnded
  dsimp only
  by_cases hc : cold = false ∧ s.drop.staffDoor = .opened ∧ (if s.staffDoorPin then .opened else .closed)
      = StaffDoor.closed
  · obtain ⟨hcold, hopen, hpin⟩ := hc
    have hp : s.staffDoorPin = false := by
      cases h : s.staffDoorPin <;> simp [h] at hpin ⊢
    rw [if_pos ⟨hcold, hopen, hpin⟩, hpin]
    exact .inr ⟨by simp [hcold, hopen, hp], (State.clearDrop_same _).toSameRecords⟩
  · rw [if_neg hc]
    refine .inl ⟨?_, rfl, rfl, rfl⟩
    by_contra hv
    exact hc (by simpa [and_assoc] using hv)

theorem State.startTables_warm (s : State) : Still s (s.startTables false).readField := by
  refine ⟨fun k => ?_, fun n => ?_⟩
  · change ((s.keys.places.map (Option.map fun r => { r with promisedTo := none })).get k).map _ = _
    rw [Table.get_map, Option.map_map]
    rfl
  · change (((((s.compartments.table.map Compartment.atRest).map fun c => { c with known := false }).zipWith
      (Compartment.fromPin _) s.doorPins)).get n).contents = _
    rw [Table.get_zipWith, Table.get_map, Table.get_map, Compartment.fromPin]
    split <;> rfl

theorem State.startTables_cold (s : State) :
    (∀ k, (s.startTables true).readField.key k = none)
      ∧ ∀ n, ((s.startTables true).readField.comp n).contents = [] := by
  refine ⟨fun k => Table.get_replicate _ _, fun n => ?_⟩
  change ((((Table.replicate 192 Compartment.cold).zipWith (Compartment.fromPin _) s.doorPins)).get n).contents = _
  rw [Table.get_zipWith, Table.get_replicate, Compartment.fromPin]
  split <;> rfl

/-- A start leaves the keys where they are, or in STAFF_HAND those of an emptied drop list, or empties the tables. -/
theorem State.start_located {s : State} (h : s.LocationOk) (cold m : Bool) : (s.start cold m).LocationOk := by
  have hf : (s.startTables cold).readField.LocationOk := by
    cases cold with
    | false => exact h.of_still s.startTables_warm
    | true =>
      obtain ⟨hk, hc⟩ := s.startTables_cold
      refine ⟨fun j k a b ha => ?_, fun k n => ?_, fun n => ?_⟩
      · rw [hk] at ha; cases ha
      · rw [hk, hc]; simp
      · rw [hc]; exact List.nodup_nil
  refine State.LocationOk.of_same ?_ (State.start_same cold m s)
  obtain ⟨-, hs⟩ | ⟨-, hs⟩ := State.readStaffDoor_cases cold (s.startTables cold).readField
  · exact hf.of_same hs
  · refine (State.takeAllFromDrop_located ?_ _).of_same hs
    exact hf.of_same ⟨rfl, rfl, rfl⟩

end Sys2Proof.Machine
end

section
/-! SUPPORT. The contract table: what writing one slot does to the laws of the index and of the rentals (R56, R58, R59,
R74). -/

namespace Sys2Proof.Machine

/-! ### One slot written -/

/-- Slot `sl` holds `c` in `t`, and every other slot what it held in `s`. -/
structure Rewrote (s t : State) (sl : Slot) (c : Option Contract) : Prop where
  self : t.slot sl = c
  other : ∀ i, i ≠ sl → t.slot i = s.slot i

theorem Rewrote.set {s t : State} {sl : Slot} {c : Option Contract}
    (h : t.contracts.slots = s.contracts.slots.set sl c) : Rewrote s t sl c := by
  refine ⟨?_, fun i hi => ?_⟩
  · rw [State.slot, h, Table.get_set_self]
  · rw [State.slot, h, Table.get_set_ne _ _ (Ne.symm hi)]; rfl

theorem Rewrote.modify {s t : State} {sl : Slot} {c : Contract} {f : Contract → Contract} (hc : s.slot sl = some c)
    (h : t.contracts.slots = (s.modifySlot sl f).contracts.slots) : Rewrote s t sl (some (f c)) := by
  have he : (s.modifySlot sl f).slot sl = some (f c) := by rw [State.modifySlot_slot_self, hc]; rfl
  refine ⟨?_, fun i hi => ?_⟩
  · rw [← he, State.slot, h]; rfl
  · rw [← State.modifySlot_slot_ne s f (Ne.symm hi), State.slot, h]; rfl

/-- A slot rewritten with what it holds. -/
theorem Rewrote.same {s t : State} (h : t.contracts.slots = s.contracts.slots) (sl : Slot) :
    Rewrote s t sl (s.slot sl) := by
  have hs : ∀ i, t.slot i = s.slot i := fun i => by rw [State.slot, h]; rfl
  exact ⟨hs sl, fun i _ => hs i⟩

theorem Rewrote.trans {s t u : State} {sl : Slot} {c d : Option Contract} (h : Rewrote s t sl c)
    (g : Rewrote t u sl d) : Rewrote s u sl d := ⟨g.self, fun i hi => (g.other i hi).trans (h.other i hi)⟩

/-! ### Contracts by number (R56) -/

/-- No two occupied slots hold one contract number. -/
def State.Numbered (s : State) : Prop :=
  ∀ i j c d, s.slot i = some c → s.slot j = some d → c.number = d.number → i = j

theorem State.slotOf_some {s : State} {x : Nat} {sl : Slot} (h : s.slotOf x = some sl) :
    ∃ c, s.slot sl = some c ∧ c.number = x := by
  obtain ⟨c, hc, hn⟩ := Option.any_eq_true _ _ |>.mp (Table.get_of_find h)
  exact ⟨c, hc, beq_iff_eq.mp hn⟩

theorem State.slotOf_none {s : State} {x : Nat} (h : s.slotOf x = none) {sl : Slot} {c : Contract}
    (hc : s.slot sl = some c) : c.number ≠ x := by
  have := Table.find_eq_none.mp h sl
  rw [show s.contracts.slots.get sl = some c from hc] at this
  simpa using this

theorem State.slotOf_iff {s : State} (h : s.Numbered) {x : Nat} {sl : Slot} :
    s.slotOf x = some sl ↔ ∃ c, s.slot sl = some c ∧ c.number = x := by
  refine ⟨State.slotOf_some, fun ⟨c, hc, hn⟩ => ?_⟩
  cases hf : s.slotOf x with
  | none => exact absurd hn (State.slotOf_none hf hc)
  | some i =>
    obtain ⟨d, hd, hx⟩ := State.slotOf_some hf
    rw [h i sl d c hd hc (hx.trans hn.symm)]

theorem State.contract_iff {s : State} (h : s.Numbered) {x : Nat} {c : Contract} :
    s.contract x = some c ↔ ∃ sl, s.slot sl = some c ∧ c.number = x := by
  unfold State.contract
  rw [Option.bind_eq_some_iff]
  constructor
  · rintro ⟨sl, hsl, hc⟩
    obtain ⟨d, hd, hn⟩ := State.slotOf_some hsl
    exact ⟨sl, hc, by rw [hc] at hd; rw [Option.some.inj hd]; exact hn⟩
  · rintro ⟨sl, hc, hn⟩
    exact ⟨sl, (State.slotOf_iff h).mpr ⟨c, hc, hn⟩, hc⟩

theorem State.contractState_iff {s : State} (h : s.Numbered) {x : Nat} {st : ContractState} :
    s.contractState x = some st ↔ ∃ sl c, s.slot sl = some c ∧ c.number = x ∧ c.state = st := by
  unfold State.contractState
  rw [Option.map_eq_some_iff]
  constructor
  · rintro ⟨c, hc, hs⟩
    obtain ⟨sl, h1, h2⟩ := (State.contract_iff h).mp hc
    exact ⟨sl, c, h1, h2, hs⟩
  · rintro ⟨sl, c, h1, h2, hs⟩
    exact ⟨c, (State.contract_iff h).mpr ⟨sl, h1, h2⟩, hs⟩

/-- Writing the contract of a number writes its slot. -/
theorem State.modifyContract_rewrote {s : State} (h : s.Numbered) {sl : Slot} {c : Contract} (hc : s.slot sl = some c)
    (f : Contract → Contract) : s.modifyContract c.number f = s.modifySlot sl f := by
  unfold State.modifyContract
  rw [(State.slotOf_iff h).mpr ⟨c, hc, rfl⟩]

/-! ### The law of the index (R56, R58) -/

/-- The pickup code by which a contract stands in the index. -/
def Contract.entry (c : Contract) : Option Nat := if c.state.indexed then c.code else none

theorem Contract.entry_eq_some {c : Contract} {x : Nat} :
    c.entry = some x ↔ c.code = some x ∧ c.state.indexed = true := by
  unfold Contract.entry
  split <;> simp_all

theorem State.IndexOk.mem_codes {s : State} (h : s.IndexOk) {x : Nat} {sl : Slot} :
    (x, sl) ∈ s.contracts.codes ↔ (s.slot sl).bind Contract.entry = some x := by
  rw [h.2.2 x sl, Option.bind_eq_some_iff]
  exact exists_congr fun c => and_congr_right fun _ => Contract.entry_eq_some.symm

theorem State.IndexOk.numbered {s : State} (h : s.IndexOk) : s.Numbered := h.1

/-- A written slot keeps the index when its number is its own and the codes follow it. -/
theorem State.IndexOk.rewrite {s t : State} {sl : Slot} {c : Option Contract} (h : s.IndexOk) (hr : Rewrote s t sl c)
    (hn : ∀ d, c = some d → ∀ i e, s.slot i = some e → e.number = d.number → i = sl)
    (hs : t.contracts.codes.Pairwise fun a b => a.1 < b.1)
    (hc : ∀ x i, (x, i) ∈ t.contracts.codes
      ↔ (i ≠ sl ∧ (x, i) ∈ s.contracts.codes) ∨ i = sl ∧ c.bind Contract.entry = some x) : t.IndexOk := by
  refine ⟨fun i j a b ha hb hab => ?_, hs, fun x i => ?_⟩
  · by_cases ei : i = sl <;> by_cases ej : j = sl
    · rw [ei, ej]
    · rw [ei, hr.self] at ha
      rw [hr.other j ej] at hb
      exact absurd (hn a ha j b hb hab.symm) ej
    · rw [ej, hr.self] at hb
      rw [hr.other i ei] at ha
      exact absurd (hn b hb i a ha hab) ei
    · rw [hr.other i ei] at ha
      rw [hr.other j ej] at hb
      exact h.1 i j a b ha hb hab
  · have hgoal : (x, i) ∈ t.contracts.codes ↔ (t.slot i).bind Contract.entry = some x := by
      rw [hc x i]
      by_cases e : i = sl
      · rw [e, hr.self]; simp
      · rw [hr.other i e, h.mem_codes]; simp [e]
    rw [hgoal, Option.bind_eq_some_iff]
    exact exists_congr fun c => and_congr_right fun _ => Contract.entry_eq_some

/-- A contract that keeps its number and its code in the index keeps the law. -/
theorem State.IndexOk.keep {s t : State} {sl : Slot} {c d : Contract} (h : s.IndexOk) (hc : s.slot sl = some c)
    (hr : Rewrote s t sl (some d)) (hn : d.number = c.number) (he : d.entry = c.entry)
    (hcodes : t.contracts.codes = s.contracts.codes) : t.IndexOk := by
  refine h.rewrite hr (fun d' hd' i e hi hne => ?_) (hcodes ▸ h.2.1) fun x i => ?_
  · obtain rfl := Option.some.inj hd'
    exact h.1 i sl e c hi hc (hne.trans hn)
  · rw [hcodes]
    by_cases e : i = sl
    · subst e
      rw [h.mem_codes, hc]
      simp [he]
    · simp [e]

/-- A contract that leaves the index takes its code with it. -/
theorem State.IndexOk.drop {s t : State} {sl : Slot} {c d : Contract} (h : s.IndexOk) (hc : s.slot sl = some c)
    (hr : Rewrote s t sl (some d)) (hn : d.number = c.number) (he : d.state.indexed = false)
    (hcodes : t.contracts.codes = s.contracts.codes.filter fun p => p.2 != sl) : t.IndexOk := by
  refine h.rewrite hr (fun d' hd' i e hi hne => ?_) (hcodes ▸ h.2.1.filter _) fun x i => ?_
  · obtain rfl := Option.some.inj hd'
    exact h.1 i sl e c hi hc (hne.trans hn)
  · rw [hcodes, List.mem_filter]
    simp [Contract.entry, he, and_comm]

theorem State.IndexOk.of_eq {s t : State} (h : s.IndexOk) (hc : t.contracts = s.contracts) : t.IndexOk := by
  unfold State.IndexOk State.slot
  rw [hc]
  exact h

/-! ### The law of the rentals (R18, R59, R74) -/

/-- The contract of number `x` is in PICKING with key `k`. -/
def State.Picks (s : State) (x : Nat) (k : KeyId) : Prop :=
  ∃ sl d, s.slot sl = some d ∧ d.number = x ∧ d.state = .picking ∧ d.key = some k

/-- The contract of number `x` is open with key `k`. -/
def State.Rents (s : State) (x : Nat) (k : KeyId) : Prop :=
  ∃ sl d, s.slot sl = some d ∧ d.number = x ∧ d.isOpen = true ∧ d.key = some k

/-- The law of the rentals, its pickups for the compartments that satisfy `P`. -/
structure State.Rented (s : State) (P : CompId → Prop) : Prop where
  pickups : ∀ n x k, P n → (s.comp n).pickup? = some (x, k) → s.Picks x k
  alone : ∀ n m x k k', P n → (s.comp n).pickup? = some (x, k) → (s.comp m).pickup? = some (x, k') → m = n
  out : ∀ k x, s.loc k = some (.out x) → s.Rents x k
  handed : ∀ sl d, s.slot sl = some d → d.isOpen = true → ∃ k, d.key = some k ∧ s.loc k = some (.out d.number)

theorem State.rented_iff {s : State} (hn : s.Numbered) : s.RentalOk ↔ s.Rented fun _ => True := by
  have hp : ∀ n x k, (s.comp n).pickup? = some (x, k)
      ↔ ∃ r, (s.comp n).release = some r ∧ r.purpose = .pickup x k := fun n x k => by
    rw [Compartment.pickup?_eq_some]
    constructor
    · rintro ⟨o, ho⟩; exact ⟨_, ho, rfl⟩
    · rintro ⟨⟨p, o⟩, hr, rfl⟩; exact ⟨o, hr⟩
  have hl : ∀ k l, s.loc k = some l ↔ ∃ r, s.key k = some r ∧ r.location = l := fun k l => Option.map_eq_some_iff
  constructor
  · rintro ⟨h1, h2, h3⟩
    refine ⟨fun n x k _ h => ?_, fun n m x k k' _ h h' => ?_, fun k x h => ?_, fun sl d hd ho => ?_⟩
    · obtain ⟨r, hr, hpu⟩ := (hp n x k).mp h
      obtain ⟨⟨d, hd, hst, hk⟩, -⟩ := h1 n r x k hr hpu
      obtain ⟨sl, hs, hx⟩ := (State.contract_iff hn).mp hd
      exact ⟨sl, d, hs, hx, hst, hk⟩
    · obtain ⟨r, hr, hpu⟩ := (hp n x k).mp h
      obtain ⟨r', hr', hpu'⟩ := (hp m x k').mp h'
      exact (h1 n r x k hr hpu).2 m r' k' hr' hpu'
    · obtain ⟨r, hr, hrl⟩ := (hl k _).mp h
      obtain ⟨d, hd, ho, hk⟩ := h2 k r x hr hrl
      obtain ⟨sl, hs, hx⟩ := (State.contract_iff hn).mp hd
      exact ⟨sl, d, hs, hx, ho, hk⟩
    · obtain ⟨k, r, hk, hr, hrl⟩ := h3 sl d hd ho
      exact ⟨k, hk, (hl k _).mpr ⟨r, hr, hrl⟩⟩
  · rintro ⟨h1, h2, h3, h4⟩
    refine ⟨fun n r x k hr hpu => ⟨?_, fun m r' k' hr' hpu' => ?_⟩, fun k r x hr hrl => ?_, fun sl d hd ho => ?_⟩
    · obtain ⟨sl, d, hs, hx, hst, hk⟩ := h1 n x k trivial ((hp n x k).mpr ⟨r, hr, hpu⟩)
      exact ⟨d, (State.contract_iff hn).mpr ⟨sl, hs, hx⟩, hst, hk⟩
    · exact h2 n m x k k' trivial ((hp n x k).mpr ⟨r, hr, hpu⟩) ((hp m x k').mpr ⟨r', hr', hpu'⟩)
    · obtain ⟨sl, d, hs, hx, ho, hk⟩ := h3 k x ((hl k _).mpr ⟨r, hr, hrl⟩)
      exact ⟨d, (State.contract_iff hn).mpr ⟨sl, hs, hx⟩, ho, hk⟩
    · obtain ⟨k, hk, hkl⟩ := h4 sl d hd ho
      obtain ⟨r, hr, hrl⟩ := (hl k _).mp hkl
      exact ⟨k, r, hk, hr, hrl⟩

/-- The two laws of the contract table, the pickups for the compartments that satisfy `P`. -/
structure State.Booked (s : State) (P : CompId → Prop) : Prop where
  index : s.IndexOk
  rented : s.Rented P

theorem State.booked_iff {s : State} : s.ContractsOk ↔ s.Booked fun _ => True :=
  ⟨fun ⟨h, g⟩ => ⟨h, (State.rented_iff h.1).mp g⟩, fun ⟨h, g⟩ => ⟨h, (State.rented_iff h.1).mpr g⟩⟩

theorem State.Rented.mono {s : State} {P Q : CompId → Prop} (h : s.Rented P) (hq : ∀ n, Q n → P n) : s.Rented Q :=
  ⟨fun n x k hn => h.pickups n x k (hq n hn), fun n m x k k' hn => h.alone n m x k k' (hq n hn), h.out, h.handed⟩

/-- The records of `t` give no PICKUP release that those of `s` do not. -/
def FewerPickups (s t : State) : Prop :=
  ∀ n p, (t.comp n).pickup? = some p → (s.comp n).pickup? = some p

theorem FewerPickups.of_eq {s t : State} (h : t.compartments = s.compartments) : FewerPickups s t :=
  fun n p hp => by rwa [State.comp, h] at hp

theorem FewerPickups.trans {s t u : State} (h : FewerPickups s t) (g : FewerPickups t u) : FewerPickups s u :=
  fun n p hp => h n p (g n p hp)

/-- With the contract table as it is, keys that are OUT as they were and pickups that only end keep the laws. -/
theorem State.Booked.of_outs {s t : State} {P : CompId → Prop} (h : s.Booked P) (hc : t.contracts = s.contracts)
    (hl : ∀ k x, t.loc k = some (.out x) ↔ s.loc k = some (.out x)) (hp : FewerPickups s t) : t.Booked P := by
  have hs : ∀ sl, t.slot sl = s.slot sl := fun sl => by rw [State.slot, hc]; rfl
  refine ⟨h.index.of_eq hc, fun n x k hn hpu => ?_, fun n m x k k' hn h1 h2 => ?_, fun k x hkl => ?_,
    fun sl d hd ho => ?_⟩
  · obtain ⟨sl, d, hd, hx⟩ := h.rented.pickups n x k hn (hp _ _ hpu)
    exact ⟨sl, d, (hs sl).trans hd, hx⟩
  · exact h.rented.alone n m x k k' hn (hp _ _ h1) (hp _ _ h2)
  · obtain ⟨sl, d, hd, hx⟩ := h.rented.out k x ((hl k x).mp hkl)
    exact ⟨sl, d, (hs sl).trans hd, hx⟩
  · obtain ⟨k, hk', hkl⟩ := h.rented.handed sl d ((hs sl).symm.trans hd) ho
    exact ⟨k, hk', (hl k _).mpr hkl⟩

theorem State.Booked.of_calm {s t : State} {P : CompId → Prop} (h : s.Booked P) (hc : t.contracts = s.contracts)
    (hk : SamePlaces s t) (hp : FewerPickups s t) : t.Booked P :=
  h.of_outs hc (fun k x => by rw [hk.loc k]) hp

/-- What an open contract rents: its number and its key. -/
def Contract.rents (c : Contract) : Option (Nat × Option KeyId) := if c.isOpen then some (c.number, c.key) else none

theorem Contract.rents_eq_some {c : Contract} {x : Nat} {o : Option KeyId} :
    c.rents = some (x, o) ↔ c.isOpen = true ∧ c.number = x ∧ c.key = o := by
  unfold Contract.rents
  split <;> simp_all

/-- No compartment of the law has a PICKUP release for the contract of number `x`. -/
def State.Unsought (s : State) (P : CompId → Prop) (x : Nat) : Prop :=
  ∀ n k, P n → (s.comp n).pickup? ≠ some (x, k)

theorem State.Unsought.fewer {s t : State} {P : CompId → Prop} {x : Nat} (h : s.Unsought P x)
    (g : FewerPickups s t) : t.Unsought P x := fun n k hn hp => h n k hn (g n _ hp)

/-- A written slot keeps the law of the rentals when it rents what it rented, and no release waits for a contract that
leaves PICKING. -/
theorem State.Rented.rewrite {s t : State} {P : CompId → Prop} {sl : Slot} {c : Option Contract} (h : s.Rented P)
    (hr : Rewrote s t sl c) (hk : SamePlaces s t) (hp : FewerPickups s t)
    (hpick : ∀ d, s.slot sl = some d → d.state = .picking →
      (∃ e, c = some e ∧ e.number = d.number ∧ e.state = .picking ∧ e.key = d.key) ∨ t.Unsought P d.number)
    (hrent : c.bind Contract.rents = (s.slot sl).bind Contract.rents) : t.Rented P := by
  have hl := hk.loc
  refine ⟨fun n x k hP hpu => ?_, fun n m x k k' hP h1 h2 => ?_, fun k x hkl => ?_, fun i d hd ho => ?_⟩
  · obtain ⟨i, d, hd, hx, hst, hkey⟩ := h.pickups n x k hP (hp _ _ hpu)
    by_cases e : i = sl
    · subst e
      obtain ⟨e, he, h1, h2, h3⟩ | hno := hpick d hd hst
      · exact ⟨i, e, hr.self.trans he, h1.trans hx, h2, h3.trans hkey⟩
      · exact absurd hpu (hx ▸ hno n k hP)
    · exact ⟨i, d, (hr.other i e).trans hd, hx, hst, hkey⟩
  · exact h.alone n m x k k' hP (hp _ _ h1) (hp _ _ h2)
  · obtain ⟨i, d, hd, hx, ho, hkey⟩ := h.out k x ((hl k).symm.trans hkl)
    by_cases e : i = sl
    · subst e
      have hc : c.bind Contract.rents = some (x, some k) :=
        hrent.trans (by rw [hd]; exact Contract.rents_eq_some.mpr ⟨ho, hx, hkey⟩)
      obtain ⟨e, he, her⟩ := Option.bind_eq_some_iff.mp hc
      obtain ⟨heo, hex, hek⟩ := Contract.rents_eq_some.mp her
      exact ⟨i, e, hr.self.trans he, hex, heo, hek⟩
    · exact ⟨i, d, (hr.other i e).trans hd, hx, ho, hkey⟩
  · by_cases e : i = sl
    · subst e
      have hc : (s.slot i).bind Contract.rents = some (d.number, d.key) :=
        hrent.symm.trans (by rw [hr.self.symm.trans hd]; exact Contract.rents_eq_some.mpr ⟨ho, rfl, rfl⟩)
      obtain ⟨b, hb, hbr⟩ := Option.bind_eq_some_iff.mp hc
      obtain ⟨hbo, hbx, hbk⟩ := Contract.rents_eq_some.mp hbr
      obtain ⟨k, hkey, hkl⟩ := h.handed i b hb hbo
      exact ⟨k, hbk.symm.trans hkey, by rw [hl, ← hbx]; exact hkl⟩
    · obtain ⟨k, hkey, hkl⟩ := h.handed i d ((hr.other i e).symm.trans hd) ho
      exact ⟨k, hkey, (hl k).trans hkl⟩

end Sys2Proof.Machine
end

section
/-! SUPPORT. The laws of the contract table and the transitions of R59 through the operations that end a release, close a
contract or move a key (R51, R72, R74, R77, R78). -/

namespace Sys2Proof.Machine

theorem State.slot_of_eq {s t : State} (h : t.contracts = s.contracts) (sl : Slot) : t.slot sl = s.slot sl := by
  rw [State.slot, h]; rfl

theorem State.contractState_of_eq {s t : State} (h : t.contracts = s.contracts) (x : Nat) :
    t.contractState x = s.contractState x := by
  unfold State.contractState State.contract State.slotOf
  rw [h, show t.slot = s.slot from funext (State.slot_of_eq h)]

theorem State.enter_contractState (s : State) (b : NoticeBody) (x : Nat) :
    (s.enter b).contractState x = s.contractState x := State.contractState_of_eq rfl x

/-- Two tables whose rows answer two tests alike find the same row. -/
theorem Table.find_congr {α β : Type} {n : Nat} {t : Table α n} {u : Table β n} {p : α → Bool} {q : β → Bool}
    (h : ∀ i, p (t.get i) = q (u.get i)) : t.find p = u.find q := by
  cases ht : t.find p with
  | none => exact (Table.find_eq_none.mpr fun i => (h i).symm.trans (Table.find_eq_none.mp ht i)).symm
  | some i =>
    cases hu : u.find q with
    | none => exact absurd ((h i).symm.trans (Table.get_of_find ht)) (by simp [Table.find_eq_none.mp hu i])
    | some j =>
      refine congrArg some (le_antisymm (not_lt.mp fun hlt => ?_) (not_lt.mp fun hlt => ?_))
      · exact absurd ((h j).trans (Table.get_of_find hu)) (by simp [Table.find_first ht hlt])
      · exact absurd ((h i).symm.trans (Table.get_of_find ht)) (by simp [Table.find_first hu hlt])

/-- A contract written by number keeps its slot, and is found there under its number. -/
theorem State.modifyContract_slotOf (s : State) (x : Nat) {f : Contract → Contract}
    (hf : ∀ c, (f c).number = c.number) : (s.modifyContract x f).slotOf x = s.slotOf x := by
  unfold State.modifyContract
  cases h : s.slotOf x with
  | none => exact h
  | some sl =>
    refine Eq.trans (Table.find_congr fun i => ?_) h
    by_cases e : sl = i
    · subst e
      rw [show (s.modifySlot sl f).contracts.slots.get sl = (s.slot sl).map f from s.modifySlot_slot_self sl f,
        show s.contracts.slots.get sl = s.slot sl from rfl]
      cases s.slot sl <;> simp [hf]
    · exact congrArg _ (s.modifySlot_slot_ne f e)

theorem State.modifyContract_contract (s : State) (x : Nat) {f : Contract → Contract}
    (hf : ∀ c, (f c).number = c.number) : (s.modifyContract x f).contract x = (s.contract x).map f := by
  rw [State.contract, s.modifyContract_slotOf x hf, State.contract]
  unfold State.modifyContract
  cases h : s.slotOf x with
  | none => rfl
  | some sl => exact s.modifySlot_slot_self sl f

/-! ### One contract turned -/

/-- Slot `sl` holds `c` in `s` and `d` in `t`, with `c`'s number and entitlement; no other slot and no code changes. -/
structure Turned (s t : State) (sl : Slot) (c d : Contract) : Prop where
  held : s.slot sl = some c
  rewrote : Rewrote s t sl (some d)
  number : d.number = c.number
  entitlement : d.entitlement = c.entitlement
  codes : t.contracts.codes = s.contracts.codes

theorem Turned.then {s t u : State} {sl : Slot} {c d : Contract} (h : Turned s t sl c d)
    (g : u.contracts = t.contracts) : Turned s u sl c d :=
  ⟨h.held, h.rewrote.trans (h.rewrote.self ▸ .same (congrArg ContractTable.slots g) sl), h.number, h.entitlement,
    (congrArg ContractTable.codes g).trans h.codes⟩

theorem State.modifyContract_turned {s : State} {x : Nat} {c : Contract} {f : Contract → Contract}
    (h : s.contract x = some c) (hn : (f c).number = c.number) (he : (f c).entitlement = c.entitlement) :
    ∃ sl, c.number = x ∧ Turned s (s.modifyContract x f) sl c (f c) := by
  obtain ⟨sl, hsl, hc⟩ := Option.bind_eq_some_iff.mp h
  obtain ⟨d, hd, hx⟩ := State.slotOf_some hsl
  obtain rfl := Option.some.inj (hc.symm.trans hd)
  have hm : s.modifyContract x f = s.modifySlot sl f := by unfold State.modifyContract; rw [hsl]
  rw [hm]
  exact ⟨sl, hx, hc, .modify hc rfl, hn, he, rfl⟩

/-- A pickup that falls back turns a contract in PICKING to TICKET or SUSPENDED, or changes no contract (R72). -/
theorem State.fallBack_turned (s : State) (x : Nat) (k : KeyId) (n : CompId) (y : FailReason) :
    (s.fallBack x k n y).contracts = s.contracts ∧ s.contractState x ≠ some .picking
      ∨ ∃ sl c d, Turned s (s.fallBack x k n y) sl c d ∧ c.number = x ∧ c.state = .picking
        ∧ (d.state = .ticket ∨ d.state = .suspended) ∧ d.entry = c.entry := by
  unfold State.fallBack
  split
  · next h => exact .inl ⟨rfl, by simp [State.contractState, h]⟩
  next c hc =>
  split
  · next hp =>
    refine .inr ?_
    dsimp only
    obtain ⟨sl, hx, ht⟩ := State.modifyContract_turned (f := fun c' =>
      { c' with
        state := if c.attempts + 1 < 3 then .ticket else .suspended
        attempts := c.attempts + 1, key := none, grantedGroup := none }) hc rfl rfl
    refine ⟨sl, c, _, ht.then ?_, hx, hp, ?_, ?_⟩
    · split <;> rfl
    · dsimp only
      split
      · exact .inl rfl
      · exact .inr rfl
    · unfold Contract.entry
      rw [hp]
      dsimp only
      split
      · rfl
      · rfl
  · next hp => exact .inl ⟨rfl, by simpa [State.contractState, hc] using hp⟩

/-- A failed return turns a contract in RETURNING to OUT, or changes no contract (R77). -/
theorem State.returnFailed_turned (s : State) (x : Nat) (k : KeyId) (n : CompId) (y : FailReason) :
    (s.returnFailed x k n y).contracts = s.contracts
      ∨ s.contractState x = some .returning ∧ ∃ sl c, Turned s (s.returnFailed x k n y) sl c { c with state := .out }
        ∧ c.number = x ∧ c.state = .returning := by
  unfold State.returnFailed
  split
  · next h =>
    obtain ⟨c, hc, hst⟩ := Option.map_eq_some_iff.mp h
    obtain ⟨sl, hx, ht⟩ := State.modifyContract_turned (f := fun c => { c with state := .out }) hc rfl rfl
    exact .inr ⟨h, sl, c, ht.then rfl, hx, hst⟩
  · exact .inl rfl

/-- Closing turns an open contract to CLOSED, or changes no contract (R78). -/
theorem State.closeContract_turned {s : State} {x : Nat} {c : Contract} (hc : s.contract x = some c)
    (ho : c.isOpen = true) (r : Route) (m : Option Nat) (n : Option CompId) :
    ∃ sl d, Turned s (s.closeContract x r m n) sl c d ∧ c.number = x ∧ d.state = .closed := by
  unfold State.closeContract
  rw [hc]
  dsimp only
  rw [if_pos ho]
  obtain ⟨sl, hx, ht⟩ := State.modifyContract_turned (f := fun c' =>
    { c' with
      state := .closed, route := some r, returnMinute := m
      tier := match m with
        | some m => c.tier.max (computedTier (s.policyOf c) c m)
        | none => c.tier
      lateHours := m.map (lateHours (s.policyOf c) c) }) hc rfl rfl
  exact ⟨sl, _, ht.then rfl, hx, rfl⟩

/-! ### The transitions of a settlement -/

/-- What a slot can become when releases end and contracts close, the closed and the failed returns for keys that
satisfy `K` (R59). -/
inductive Settles (K : KeyId → Prop) : Option Contract → Option Contract → Prop
  | same (a) : Settles K a a
  | back {c d} (hc : c.state = .picking) (hd : d.state = .ticket ∨ d.state = .suspended) : Settles K (some c) (some d)
  | failed {c d k} (hc : c.state = .returning) (hk : c.key = some k) (h : K k) (hd : d.state = .out)
      (hkey : d.key = some k) : Settles K (some c) (some d)
  | closed {c d k} (hc : c.isOpen = true) (hk : c.key = some k) (h : K k) (hd : d.state = .closed) :
      Settles K (some c) (some d)

theorem Contract.isOpen_iff {c : Contract} : c.isOpen = true ↔ c.state = .out ∨ c.state = .returning := by
  simp [Contract.isOpen]

theorem Settles.trans {K : KeyId → Prop} {a b c : Option Contract} (h : Settles K a b) (g : Settles K b c) :
    Settles K a c := by
  cases g with
  | same => exact h
  | back hc hd =>
    cases h with
    | same => exact .back hc hd
    | back _ h => rw [hc] at h; simp at h
    | failed _ _ _ h => rw [hc] at h; cases h
    | closed _ _ _ h => rw [hc] at h; cases h
  | failed hc hk hK hd hkey =>
    cases h with
    | same => exact .failed hc hk hK hd hkey
    | back _ h => rw [hc] at h; simp at h
    | failed _ _ _ h => rw [hc] at h; cases h
    | closed _ _ _ h => rw [hc] at h; cases h
  | closed hc hk hK hd =>
    rw [Contract.isOpen_iff] at hc
    cases h with
    | same => exact .closed (Contract.isOpen_iff.mpr hc) hk hK hd
    | back _ h => obtain h | h := h <;> rw [h] at hc <;> simp at hc
    | failed hr hk' hK' _ _ => exact .closed (Contract.isOpen_iff.mpr (.inr hr)) hk' hK' hd
    | closed _ _ _ h => rw [h] at hc; simp at hc

/-- The transitions of R59 between two slots. -/
def Advances (a b : Option Contract) : Prop :=
  transitionAllowed (a.map Contract.state) (b.map Contract.state) = true

theorem Advances.refl (a : Option Contract) : Advances a a := by
  unfold Advances
  cases a with
  | none => rfl
  | some c => cases h : c.state <;> simp [h, transitionAllowed]

theorem Settles.advances {K : KeyId → Prop} {a b : Option Contract} (h : Settles K a b) : Advances a b := by
  cases h with
  | same => exact .refl a
  | back hc hd => obtain hd | hd := hd <;> simp [Advances, transitionAllowed, hc, hd]
  | failed hc _ _ hd => simp [Advances, transitionAllowed, hc, hd]
  | closed hc _ _ hd =>
    obtain hc | hc := Contract.isOpen_iff.mp hc <;> simp [Advances, transitionAllowed, hc, hd]

theorem Rewrote.slots {s t : State} {sl : Slot} {c : Option Contract} {R : Option Contract → Option Contract → Prop}
    (h : Rewrote s t sl c) (hr : ∀ a, R a a) (hc : R (s.slot sl) c) (i : Slot) : R (s.slot i) (t.slot i) := by
  by_cases e : i = sl
  · rw [e, h.self]; exact hc
  · rw [h.other i e]; exact hr _

/-- From `s` to `t` the laws of the contract table are kept and every slot moves by a settlement. -/
def Settling (K : KeyId → Prop) (P : CompId → Prop) (s t : State) : Prop :=
  s.Booked P → t.Booked P ∧ ∀ sl, Settles K (s.slot sl) (t.slot sl)

theorem Settling.trans {K : KeyId → Prop} {P : CompId → Prop} {s t u : State} (h : Settling K P s t)
    (g : Settling K P t u) : Settling K P s u := fun hs =>
  have ⟨ht, h1⟩ := h hs
  have ⟨hu, h2⟩ := g ht
  ⟨hu, fun sl => (h1 sl).trans (h2 sl)⟩

theorem Settling.of_calm {K : KeyId → Prop} {P : CompId → Prop} {s t : State} (hc : t.contracts = s.contracts)
    (hk : SamePlaces s t) (hp : FewerPickups s t) : Settling K P s t := fun hs =>
  ⟨hs.of_calm hc hk hp, fun sl => by rw [State.slot_of_eq hc]; exact .same _⟩

theorem Settling.of_eq {K : KeyId → Prop} {P : CompId → Prop} {s t : State} (hc : t.contracts = s.contracts)
    (hk : t.keys = s.keys) (hp : t.compartments = s.compartments) : Settling K P s t :=
  .of_calm hc (.of_eq hk) (.of_eq hp)

/-! ### The end of a release (R18, R72, R77) -/

/-- A contract that turns from PICKING back to TICKET or SUSPENDED, with no release in flight for it. -/
theorem Turned.back_settling {K : KeyId → Prop} {P : CompId → Prop} {s t : State} {sl : Slot} {c d : Contract}
    (h : Turned s t sl c d) (hc : c.state = .picking) (hd : d.state = .ticket ∨ d.state = .suspended)
    (he : d.entry = c.entry) (hk : SamePlaces s t) (hp : FewerPickups s t) (hno : t.Unsought P c.number) :
    Settling K P s t := fun hs => by
  refine ⟨⟨hs.index.keep h.held h.rewrote h.number he h.codes, hs.rented.rewrite h.rewrote hk hp (fun d' hd' _ => ?_)
    ?_⟩, h.rewrote.slots .same (h.held ▸ .back hc hd)⟩
  · obtain rfl := Option.some.inj (h.held.symm.trans hd')
    exact .inr hno
  · rw [h.held]
    obtain hd | hd := hd <;> simp [Contract.rents, Contract.isOpen, hc, hd]

/-- A contract that turns between OUT and RETURNING. -/
theorem Turned.open_booked {P : CompId → Prop} {s t : State} {sl : Slot} {c d : Contract} (h : Turned s t sl c d)
    (hc : c.isOpen = true) (hd : d.isOpen = true) (hkey : d.key = c.key) (hk : SamePlaces s t)
    (hp : FewerPickups s t) (hs : s.Booked P) : t.Booked P := by
  have entry : ∀ e : Contract, e.isOpen = true → e.entry = none := fun e he => by
    obtain he | he := Contract.isOpen_iff.mp he <;> simp [Contract.entry, he, ContractState.indexed]
  refine ⟨hs.index.keep h.held h.rewrote h.number ((entry d hd).trans (entry c hc).symm) h.codes,
    hs.rented.rewrite h.rewrote hk hp (fun d' hd' hst => ?_) ?_⟩
  · obtain rfl := Option.some.inj (h.held.symm.trans hd')
    rw [Contract.isOpen_iff, hst] at hc
    simp at hc
  · rw [h.held]
    simp [Contract.rents, hc, hd, h.number, hkey]

theorem State.fallBack_settling {K : KeyId → Prop} {P : CompId → Prop} {s : State} {x : Nat} (k : KeyId) (n : CompId)
    (y : FailReason) (hno : s.Unsought P x) : Settling K P s (s.fallBack x k n y) := by
  have hf := s.fallBack_frame x k n y
  have hk : SamePlaces s (s.fallBack x k n y) := by rw [hf]; exact .of_eq rfl
  have hp : FewerPickups s (s.fallBack x k n y) := by rw [hf]; exact .of_eq rfl
  obtain ⟨h, -⟩ | ⟨sl, c, d, h, rfl, hc, hd, he⟩ := s.fallBack_turned x k n y
  · exact .of_calm h hk hp
  · exact h.back_settling hc hd he hk hp (hno.fewer hp)

theorem State.reexamine_settling {K : KeyId → Prop} {P : CompId → Prop} (s : State) (m : Nat) (k : KeyId) :
    Settling K P s (s.reexamine m k) := by
  refine .of_calm ?_ (s.reexamine_places m k) (.of_eq ?_) <;> rw [s.reexamine_frame]

theorem State.reexamineAll_settling {K : KeyId → Prop} {P : CompId → Prop} (s : State) (m : Nat) (ks : List KeyId) :
    Settling K P s (s.reexamineAll m ks) := by
  obtain ⟨x, hx⟩ := s.reexamineAll_frame m ks
  refine .of_calm ?_ (s.reexamineAll_places m ks) (.of_eq ?_) <;> rw [hx] <;> rfl

theorem State.clearPromise_settling {K : KeyId → Prop} {P : CompId → Prop} (s : State) (k : KeyId) :
    Settling K P s (s.clearPromise k) := .of_calm rfl (s.clearPromise_places k) (.of_eq rfl)

theorem State.pickupFailed_settling {K : KeyId → Prop} {P : CompId → Prop} {s : State} {x : Nat} (k : KeyId)
    (n : CompId) (y : FailReason) (hno : s.Unsought P x) : Settling K P s (s.pickupFailed x k n y) := by
  unfold State.pickupFailed
  split
  · exact (State.fallBack_settling k n y hno).trans ((State.clearPromise_settling _ k).trans
      (State.reexamine_settling _ _ _))
  · exact .of_eq rfl rfl rfl

theorem State.returnFailed_settling {K : KeyId → Prop} {P : CompId → Prop} {s : State} {x : Nat} (k : KeyId)
    (n : CompId) (y : FailReason) (hK : s.contractState x = some .returning → ∀ k, K k) :
    Settling K P s (s.returnFailed x k n y) := fun hs => by
  have hf := s.returnFailed_frame x k n y
  have hk : SamePlaces s (s.returnFailed x k n y) := by rw [hf]; exact .of_eq rfl
  have hp : FewerPickups s (s.returnFailed x k n y) := by rw [hf]; exact .of_eq rfl
  obtain h | ⟨hr, sl, c, h, rfl, hc⟩ := s.returnFailed_turned x k n y
  · exact Settling.of_calm h hk hp hs
  · have ho : c.isOpen = true := Contract.isOpen_iff.mpr (.inr hc)
    obtain ⟨j, hj, -⟩ := hs.rented.handed sl c h.held ho
    refine ⟨h.open_booked ho (Contract.isOpen_iff.mpr (.inl rfl)) rfl hk hp hs,
      h.rewrote.slots .same (h.held ▸ ?_)⟩
    exact .failed hc hj (hK hr j) rfl hj

/-- A release record that is removed leaves no PICKUP release for its contract (R18). -/
theorem State.modifyComp_released {s : State} {n : CompId} {f : Compartment → Compartment}
    (hf : ∀ c, (f c).release = none) : FewerPickups s (s.modifyComp n f)
      ∧ ∀ P x k, (∀ m k' , P m → (s.comp m).pickup? = some (x, k') → m = n) → (s.comp n).pickup? = some (x, k) →
        (s.modifyComp n f).Unsought P x := by
  have hself : ((s.modifyComp n f).comp n).pickup? = none := by
    rw [State.modifyComp_comp_self, Compartment.pickup?, hf]
  refine ⟨fun m p hp => ?_, fun P x k hn hk m k' hm hp => ?_⟩
  · by_cases e : n = m
    · subst e; rw [hself] at hp; cases hp
    · rwa [State.modifyComp_comp_ne _ _ e] at hp
  · by_cases e : n = m
    · subst e; rw [hself] at hp; cases hp
    · rw [State.modifyComp_comp_ne _ _ e] at hp
      exact e (hn m k' hm hp).symm

theorem State.endRelease_settling {K : KeyId → Prop} {P : CompId → Prop} {s : State} {n : CompId} (o : ReleaseOutcome)
    (named : CompId) (hret : ∀ x k g, (s.comp n).release = some ⟨.ret x k, g⟩ → s.contractState x = some .returning →
      ∀ k, K k) : Settling K P s (s.endRelease n o named) := fun hs => by
  obtain ⟨hp, hno⟩ := State.modifyComp_released (s := s) (n := n) (f := Compartment.withoutRelease) fun _ => rfl
  have h1 : Settling K P s (s.modifyComp n Compartment.withoutRelease) := .of_calm rfl (.of_eq rfl) hp
  refine h1.trans ?_ hs
  unfold State.endRelease
  dsimp only
  split
  · next r hr =>
    obtain ⟨p, g⟩ := r
    unfold State.tellEnded
    cases p with
    | pickup x k =>
      have hk : (s.comp n).pickup? = some (x, k) := Compartment.pickup?_eq_some.mpr ⟨g, hr⟩
      have ha := hno P x k (fun m k' hm hp => (hs.rented.alone m n x k' k hm hp hk).symm) hk
      exact (State.pickupFailed_settling k named o.reason ha).trans (.of_eq rfl rfl rfl)
    | ret x k =>
      exact (State.returnFailed_settling k named o.reason fun h => hret x k g hr
        ((State.contractState_of_eq (t := s.modifyComp n Compartment.withoutRelease) rfl x).symm.trans h)).trans
          (.of_eq rfl rfl rfl)
    | staff => exact .of_eq rfl rfl rfl
    | link => exact .of_eq rfl rfl rfl
  · exact .of_eq rfl rfl rfl

/-- A grant keeps every release record (R22). -/
theorem State.grantOne_release (s : State) (n : CompId) : (s.grantOne.comp n).release = (s.comp n).release := by
  unfold State.grantOne
  split
  · rfl
  next m rest hq =>
  have hm : ((s.modifyComp m fun c =>
      { c with door := .unlatched, window := some (seconds s.store.working.profile.value.window) }).comp n).release
      = (s.comp n).release := by
    by_cases e : m = n
    · subst e; rw [State.modifyComp_comp_self]
    · rw [State.modifyComp_comp_ne _ _ e]
  dsimp only
  split
  · exact hm
  · exact hm
  · rfl

theorem State.arbitrate_release (s : State) (n : CompId) : (s.arbitrate.comp n).release = (s.comp n).release :=
  (State.grantOne_release _ n).trans (s.grantOne_release n)

theorem State.relocked_settling {K : KeyId → Prop} {P : CompId → Prop} {s t : State} {n : CompId} (hc : Calm s t)
    (hk : t.keys = s.keys) (hx : t.contracts = s.contracts) (hr : (t.comp n).release = (s.comp n).release)
    (o : ReleaseOutcome) (named : CompId) (hret : ∀ x k g, (s.comp n).release = some ⟨.ret x k, g⟩ →
      s.contractState x = some .returning → ∀ k, K k) : Settling K P s (t.endRelease n o named) := by
  refine Settling.trans (.of_calm hx (.of_eq hk) hc.pickup) (State.endRelease_settling o named ?_)
  intro x k g h
  rw [State.contractState_of_eq hx]
  rw [hr] at h
  exact hret x k g h

/-- The end of a window, and of a release that was cancelled in UNLATCHED: the channel freed, the door closed (R24,
R30). -/
theorem State.unlatched_settling {K : KeyId → Prop} {P : CompId → Prop} {s : State} {n : CompId} {d : DoorState}
    (h : (s.comp n).door = .unlatched) (o : ReleaseOutcome) (named : CompId)
    (hret : ∀ x k g, (s.comp n).release = some ⟨.ret x k, g⟩ → s.contractState x = some .returning → ∀ k, K k) :
    Settling K P s
      (((s.freeChannel n).modifyComp n fun c => { c with door := d }).arbitrate.endRelease n o named) := by
  have hx := ((s.freeChannel n).modifyComp n fun c => { c with door := d }).arbitrate_frame
  obtain ⟨x, hx⟩ := hx
  refine State.relocked_settling ((s.freeChannel_calm n).trans ((State.relock_calm _ n _ (.inl ?_)).trans
    (State.arbitrate_calm _))) (by rw [hx]; rfl) (by rw [hx]; rfl) ?_ o named hret
  · rw [(s.freeChannel_spec n).1]
    change (s.comp n).door.shut = true
    rw [h]; rfl
  · rw [State.arbitrate_release, State.modifyComp_comp_self, (s.freeChannel_spec n).1]

theorem State.cancelRelease_settling {K : KeyId → Prop} {P : CompId → Prop} {s t : State} {n named : CompId}
    (h : s.cancelRelease n named = some t) (hret : ∀ x k g, (s.comp n).release = some ⟨.ret x k, g⟩ →
      s.contractState x = some .returning → ∀ k, K k) : Settling K P s t := by
  obtain ⟨hno, hw, hu⟩ := s.cancelRelease_cases n named
  by_cases h1 : (s.comp n).door = .waiting
  · obtain rfl := Option.some.inj ((hw h1).symm.trans h)
    refine State.relocked_settling ((s.unqueue_calm n).trans (State.relock_calm _ n _ (.inl ?_))) rfl rfl ?_ _ _ hret
    · change (s.comp n).door.shut = true
      rw [h1]; rfl
    · rw [State.modifyComp_comp_self]; rfl
  · by_cases h2 : (s.comp n).door = .unlatched
    · obtain rfl := Option.some.inj ((hu h2).symm.trans h)
      exact State.unlatched_settling h2 _ _ hret
    · rw [hno h1 h2] at h; cases h

/-- A release of a RETURN that is not under way ends without a word to its contract (R77). -/
theorem State.endRelease_contracts {s : State} {n : CompId} {x : Nat} {k : KeyId} {g : Origin}
    (hr : (s.comp n).release = some ⟨.ret x k, g⟩) (hx : s.contractState x ≠ some .returning) (o : ReleaseOutcome)
    (named : CompId) : (s.endRelease n o named).contracts = s.contracts := by
  unfold State.endRelease
  dsimp only
  rw [hr]
  dsimp only [State.tellEnded]
  have h := State.contractState_of_eq (s := s) (t := s.modifyComp n Compartment.withoutRelease) rfl x
  rw [State.returnFailed, if_neg (h ▸ hx)]
  rfl

theorem State.cancelRelease_contracts {s t : State} {n named : CompId} {x : Nat} {k : KeyId} {g : Origin}
    (h : s.cancelRelease n named = some t) (hr : (s.comp n).release = some ⟨.ret x k, g⟩)
    (hx : s.contractState x ≠ some .returning) : t.contracts = s.contracts := by
  have ended : ∀ u : State, u.contracts = s.contracts → (u.comp n).release = (s.comp n).release →
      (u.endRelease n .cancelled named).contracts = s.contracts := fun u hc hu =>
    (State.endRelease_contracts (hu.trans hr) (State.contractState_of_eq hc x ▸ hx) _ _).trans hc
  obtain ⟨hno, hw, hu⟩ := s.cancelRelease_cases n named
  by_cases h1 : (s.comp n).door = .waiting
  · obtain rfl := Option.some.inj ((hw h1).symm.trans h)
    exact ended _ rfl (by rw [State.modifyComp_comp_self]; rfl)
  · by_cases h2 : (s.comp n).door = .unlatched
    · obtain rfl := Option.some.inj ((hu h2).symm.trans h)
      refine ended _ ?_ ?_
      · obtain ⟨y, hy⟩ := ((s.freeChannel n).modifyComp n fun c =>
          { c with door := s.lockedDoor n }).arbitrate_frame
        rw [hy]; rfl
      · rw [State.arbitrate_release, State.modifyComp_comp_self, (s.freeChannel_spec n).1]
    · rw [hno h1 h2] at h; cases h

/-- The cancel of a contract's RETURN release turns no contract but one in RETURNING (R79). -/
theorem State.cancelReturn_contracts {s : State} {x : Nat} (hx : s.contractState x ≠ some .returning) :
    (s.cancelReturn x).contracts = s.contracts := by
  unfold State.cancelReturn
  split
  · rfl
  next m hm =>
  split
  · next h =>
    have hf := Table.get_of_find hm
    rw [show s.compartments.table.get m = s.comp m from rfl] at hf
    cases hr : (s.comp m).release with
    | none => rw [hr] at hf; simp at hf
    | some r =>
      obtain ⟨p, g⟩ := r
      cases p with
      | ret y k =>
        rw [hr] at hf
        simp only [Option.map_some, Bool.and_eq_true, beq_iff_eq] at hf
        exact State.cancelRelease_contracts h hr (hf.2.symm ▸ hx)
      | pickup | staff | link => rw [hr] at hf; simp at hf
  · rfl

/-- A contract that was closed is not RETURNING (R78). -/
theorem State.closeContract_notReturning (s : State) (x : Nat) (r : Route) (m : Option Nat) (n : Option CompId) :
    (s.closeContract x r m n).contractState x ≠ some .returning := by
  unfold State.closeContract
  split
  · next h => simp [State.contractState, h]
  · next c hc =>
    split
    · dsimp only
      rw [State.enter_contractState, State.contractState, State.modifyContract_contract, hc]
      · simp
      · exact fun _ => rfl
    · next ho =>
      rw [State.contractState, hc]
      intro h
      exact ho (Contract.isOpen_iff.mpr (.inr (Option.some.inj h)))

theorem State.withdrawPromise_settling {K : KeyId → Prop} {P : CompId → Prop} (s : State) (k : KeyId)
    (scanned : Option CompId) : Settling K P s (s.withdrawPromise k scanned) := by
  have h0 : Settling K P s (s.clearPromise k) := s.clearPromise_settling k
  unfold State.withdrawPromise
  split
  · exact .of_eq rfl rfl rfl
  dsimp only
  split
  · exact h0
  · next m hm =>
    cases hc : State.cancelRelease _ m (scanned.getD m) with
    | none => exact h0
    | some t =>
      refine h0.trans (State.cancelRelease_settling hc fun x k' g hr => ?_)
      have hf := Table.get_of_find hm
      change (match Option.map Release.purpose ((s.clearPromise k).comp m).release with
        | some (.pickup c' _) => c' == _
        | _ => false) = true at hf
      rw [hr] at hf
      cases hf

/-! ### Keys that move (R2, R74, R78) -/

/-- A key that is not OUT moves to a place that is not OUT. -/
theorem State.Booked.of_moved {P : CompId → Prop} {s t : State} {k : KeyId} {l : Location} (h : s.Booked P)
    (hm : Moved s t k l) (hs : ∀ x, s.loc k ≠ some (.out x)) (hl : ∀ x, l ≠ .out x)
    (hc : t.contracts = s.contracts) (hp : FewerPickups s t) : t.Booked P := by
  refine h.of_outs hc (fun j x => ?_) hp
  rw [hm.loc j]
  split
  · next e =>
    subst e
    refine iff_of_false (fun e => ?_) (hs x)
    obtain ⟨_, -, e⟩ := Option.map_eq_some_iff.mp e
    exact hl x e
  · rfl

theorem Settling.of_moved {K : KeyId → Prop} {P : CompId → Prop} {s t : State} {k : KeyId} {l : Location}
    (hm : Moved s t k l) (hs : ∀ x, s.loc k ≠ some (.out x)) (hl : ∀ x, l ≠ .out x)
    (hc : t.contracts = s.contracts) (hp : FewerPickups s t) : Settling K P s t := fun h =>
  ⟨h.of_moved hm hs hl hc hp, fun sl => by rw [State.slot_of_eq hc]; exact .same _⟩

theorem State.moveKey_fewer (s : State) (k : KeyId) (l : Location) : FewerPickups s (s.moveKey k l) := fun n p h => by
  rw [s.moveKey_comp] at h
  split at h <;> exact h

/-- An open contract closes and its key goes where it was found (R48, R78, R104). -/
theorem Settling.of_closed {K : KeyId → Prop} {P : CompId → Prop} {s t : State} {x : Nat} {k : KeyId} {l : Location}
    {r : Route} {m : Option Nat} {n : Option CompId} (hk : K k) (hs : s.loc k = some (.out x))
    (hl : ∀ x, l ≠ .out x) (hc : t.contracts = (s.closeContract x r m n).contracts) (hm : Moved s t k l)
    (hp : FewerPickups s t) : Settling K P s t := fun h => by
  obtain ⟨i, c, hi, hx, ho, hkey⟩ := h.rented.out k x hs
  have hcx : s.contract x = some c := (State.contract_iff h.index.numbered).mpr ⟨i, hi, hx⟩
  obtain ⟨sl, d, ht, -, hd⟩ := State.closeContract_turned hcx ho r m n
  have ht : Turned s t sl c d := ht.then hc
  obtain rfl : i = sl := h.index.1 i sl c c hi ht.held rfl
  have hent : d.entry = c.entry := by
    obtain ho | ho := Contract.isOpen_iff.mp ho <;> simp [Contract.entry, ContractState.indexed, ho, hd]
  refine ⟨⟨h.index.keep hi ht.rewrote ht.number hent ht.codes, fun a y j ha hpu => ?_,
    fun a b y j j' ha h1 h2 => h.rented.alone a b y j j' ha (hp _ _ h1) (hp _ _ h2), fun j y hj => ?_,
    fun i' e he heo => ?_⟩, ht.rewrote.slots .same (hi ▸ .closed ho hkey hk hd)⟩
  · obtain ⟨i', e, he, hex, hst, hek⟩ := h.rented.pickups a y j ha (hp _ _ hpu)
    by_cases ei : i' = i
    · subst ei
      obtain rfl := Option.some.inj (hi.symm.trans he)
      rw [Contract.isOpen_iff, hst] at ho
      simp at ho
    · exact ⟨i', e, (ht.rewrote.other i' ei).trans he, hex, hst, hek⟩
  · rw [hm.loc j] at hj
    split at hj
    · obtain ⟨_, -, e⟩ := Option.map_eq_some_iff.mp hj
      exact absurd e (hl y)
    · next hjk =>
      obtain ⟨i', e, he, hex, heo, hek⟩ := h.rented.out j y hj
      by_cases ei : i' = i
      · subst ei
        obtain rfl := Option.some.inj (hi.symm.trans he)
        exact absurd (Option.some.inj (hek.symm.trans hkey)) hjk
      · exact ⟨i', e, (ht.rewrote.other i' ei).trans he, hex, heo, hek⟩
  · by_cases ei : i' = i
    · subst ei
      obtain rfl := Option.some.inj (ht.rewrote.self.symm.trans he)
      rw [Contract.isOpen_iff, hd] at heo
      simp at heo
    · rw [ht.rewrote.other i' ei] at he
      obtain ⟨j, hj, hjl⟩ := h.rented.handed i' e he heo
      refine ⟨j, hj, ?_⟩
      rw [hm.loc j]
      split
      · next hjk =>
        subst hjk
        obtain hxe := Location.out.inj (Option.some.inj (hs.symm.trans hjl))
        exact absurd (h.index.1 i' i e c he hi (hxe.symm.trans hx.symm)) ei
      · exact hjl

/-- A handout's contract is OUT with its key, which leaves for it (R74). -/
theorem State.Booked.of_handout {P : CompId → Prop} {s t : State} {x : Nat} {k : KeyId} {sl : Slot} {c d : Contract}
    (h : s.Booked P) (hsl : s.slot sl = some c) (hx : c.number = x) (hc : c.state = .picking)
    (hkey : c.key = some k) (hr : Rewrote s t sl (some d)) (hn : d.number = x) (hd : d.state = .out)
    (hdk : d.key = some k) (hcodes : t.contracts.codes = s.contracts.codes.filter fun p => p.2 != sl)
    (hm : Moved s t k (.out x)) (hk : s.key k ≠ none) (hs : ∀ x, s.loc k ≠ some (.out x))
    (hp : FewerPickups s t) (hno : s.Unsought P x) : t.Booked P := by
  refine ⟨h.index.drop hsl hr (hn.trans hx.symm) (by rw [hd]; rfl) hcodes, fun a y j ha hpu => ?_,
    fun a b y j j' ha h1 h2 => h.rented.alone a b y j j' ha (hp _ _ h1) (hp _ _ h2), fun j y hj => ?_,
    fun i e he heo => ?_⟩
  · obtain ⟨i, e, he, hex, hst, hek⟩ := h.rented.pickups a y j ha (hp _ _ hpu)
    by_cases ei : i = sl
    · subst ei
      obtain rfl := Option.some.inj (hsl.symm.trans he)
      exact absurd (hp _ _ hpu) (hex ▸ hx ▸ hno a j ha)
    · exact ⟨i, e, (hr.other i ei).trans he, hex, hst, hek⟩
  · rw [hm.loc j] at hj
    split at hj
    · next e =>
      subst e
      obtain ⟨_, -, e⟩ := Option.map_eq_some_iff.mp hj
      exact ⟨sl, d, hr.self, hn.trans (Location.out.inj e), Contract.isOpen_iff.mpr (.inl hd), hdk⟩
    · obtain ⟨i, e, he, hex, heo, hek⟩ := h.rented.out j y hj
      by_cases ei : i = sl
      · subst ei
        obtain rfl := Option.some.inj (hsl.symm.trans he)
        rw [Contract.isOpen_iff, hc] at heo
        simp at heo
      · exact ⟨i, e, (hr.other i ei).trans he, hex, heo, hek⟩
  · by_cases ei : i = sl
    · subst ei
      obtain rfl := Option.some.inj (hr.self.symm.trans he)
      refine ⟨k, hdk, ?_⟩
      obtain ⟨r, hr⟩ := Option.ne_none_iff_exists'.mp hk
      rw [hm.loc k, if_pos rfl, hr, hn]; rfl
    · rw [hr.other i ei] at he
      obtain ⟨j, hj, hjl⟩ := h.rented.handed i e he heo
      refine ⟨j, hj, ?_⟩
      rw [hm.loc j]
      split
      · next hjk => exact absurd (hjk ▸ hjl) (hs _)
      · exact hjl

end Sys2Proof.Machine
end

section
/-! SUPPORT. The laws of the contract table and the transitions of R59 through a read's reconciliation (R46-R53, R74). -/

namespace Sys2Proof.Machine

/-! ### Releases that only end -/

/-- No compartment has a release in `t` that it has not in `s`. -/
def FewerReleases (s t : State) : Prop := ∀ n r, (t.comp n).release = some r → (s.comp n).release = some r

theorem FewerReleases.of_eq {s t : State} (h : t.compartments = s.compartments) : FewerReleases s t :=
  fun n r hr => by rwa [State.comp, h] at hr

theorem FewerReleases.trans {s t u : State} (h : FewerReleases s t) (g : FewerReleases t u) : FewerReleases s u :=
  fun n r hr => h n r (g n r hr)

theorem FewerReleases.pickups {s t : State} (h : FewerReleases s t) : FewerPickups s t := fun n ⟨x, k⟩ hp => by
  obtain ⟨o, ho⟩ := Compartment.pickup?_eq_some.mp hp
  exact Compartment.pickup?_eq_some.mpr ⟨o, h n _ ho⟩

theorem FewerReleases.modifyComp {s : State} {n : CompId} {f : Compartment → Compartment}
    (hf : ∀ c r, (f c).release = some r → c.release = some r) : FewerReleases s (s.modifyComp n f) := fun m r hr => by
  by_cases e : n = m
  · subst e
    rw [State.modifyComp_comp_self] at hr
    exact hf _ r hr
  · rwa [State.modifyComp_comp_ne _ _ e] at hr

theorem State.moveKey_releases (s : State) (k : KeyId) (l : Location) : FewerReleases s (s.moveKey k l) :=
  fun n r h => by
    rw [s.moveKey_comp] at h
    split at h <;> exact h

theorem State.endRelease_releases (s : State) (n : CompId) (o : ReleaseOutcome) (named : CompId) :
    FewerReleases s (s.endRelease n o named) :=
  FewerReleases.trans (t := s.modifyComp n Compartment.withoutRelease) (.modifyComp fun _ _ h => by cases h)
    (.of_eq (s.endRelease_compartments n o named).1)

theorem State.modifyDoor_release (s : State) (n m : CompId) (d : DoorState) :
    ((s.modifyComp n fun c => { c with door := d }).comp m).release = (s.comp m).release := by
  by_cases e : n = m
  · subst e; rw [State.modifyComp_comp_self]
  · rw [State.modifyComp_comp_ne _ _ e]

theorem State.freeChannel_release (s : State) (n m : CompId) :
    ((s.freeChannel n).comp m).release = (s.comp m).release := by
  by_cases e : m = n
  · rw [e, (s.freeChannel_spec n).1]
  · rw [(s.freeChannel_spec n).2.1 m e]

theorem State.cancelRelease_releases {s t : State} {n named : CompId} (h : s.cancelRelease n named = some t) :
    FewerReleases s t := by
  have ended : ∀ u : State, (∀ m, (u.comp m).release = (s.comp m).release) →
      FewerReleases s (u.endRelease n .cancelled named) := fun u hu =>
    FewerReleases.trans (fun m r hr => hu m ▸ hr) (u.endRelease_releases n _ named)
  obtain ⟨hno, hw, hu⟩ := s.cancelRelease_cases n named
  by_cases h1 : (s.comp n).door = .waiting
  · obtain rfl := Option.some.inj ((hw h1).symm.trans h)
    exact ended _ fun m => State.modifyDoor_release _ n m _
  · by_cases h2 : (s.comp n).door = .unlatched
    · obtain rfl := Option.some.inj ((hu h2).symm.trans h)
      refine ended _ fun m => ?_
      rw [State.arbitrate_release, State.modifyDoor_release, State.freeChannel_release]
    · rw [hno h1 h2] at h; cases h

theorem State.cancelReturn_releases (s : State) (x : Nat) : FewerReleases s (s.cancelReturn x) := by
  unfold State.cancelReturn
  split
  · exact .of_eq rfl
  · split
    · next h => exact State.cancelRelease_releases h
    · exact .modifyComp fun _ _ h => h

theorem State.withdrawPromise_releases (s : State) (k : KeyId) (scanned : Option CompId) :
    FewerReleases s (s.withdrawPromise k scanned) := by
  unfold State.withdrawPromise
  split
  · exact .of_eq rfl
  dsimp only
  split
  · exact .of_eq rfl
  · next m _ =>
    cases hc : State.cancelRelease _ m (scanned.getD m) with
    | none => exact .of_eq rfl
    | some t => exact FewerReleases.trans (t := s.clearPromise k) (.of_eq rfl) (State.cancelRelease_releases hc)

theorem State.requestSweep_releases (s : State) (n : CompId) : FewerReleases s (s.requestSweep n) := by
  unfold State.requestSweep
  split
  · exact .of_eq rfl
  dsimp only
  split
  · exact fun m r hr => by rwa [State.modifyDoor_release] at hr
  · exact .of_eq rfl

/-! ### Step 1: keys that are gone (R47, R74) -/

theorem State.keyGone_releases (s : State) (i : ScanInput) (k : KeyId) : FewerReleases s (s.keyGone i k) := by
  have moved : ∀ (u : State) l b, u.compartments = s.compartments → FewerReleases s ((u.moveKey k l).enter b) :=
    fun u l b hu => (FewerReleases.of_eq hu).trans ((u.moveKey_releases k l).trans (.of_eq rfl))
  obtain ⟨x, -, hp, he⟩ | ⟨l, b, -, he⟩ := s.keyGone_cases i k <;> rw [he]
  · obtain ⟨sl, c, hsl, hc, -⟩ := State.contractState_slotOf hp
    obtain ⟨h, -⟩ | ⟨e, -, -, h⟩ := State.handoutDone_cases (i := i) (k := k) hsl hc <;> rw [h]
    · exact moved _ _ _ rfl
    · refine FewerReleases.trans (t := s.handedOut i x k sl) (moved _ _ _ rfl) (.of_eq ?_)
      rw [State.reexamine_frame]
  · exact moved s l b rfl

theorem State.keyGone_fewer (s : State) (i : ScanInput) (k : KeyId) : FewerPickups s (s.keyGone i k) :=
  (s.keyGone_releases i k).pickups

theorem State.keysGone_releases (i : ScanInput) (G : List KeyId) (s : State) :
    FewerReleases s (G.foldl (fun s k => s.keyGone i k) s) := by
  induction G generalizing s with
  | nil => exact .of_eq rfl
  | cons k G ih => exact (s.keyGone_releases i k).trans (ih _)

theorem State.keysGone_fewer (i : ScanInput) (G : List KeyId) (s : State) :
    FewerPickups s (G.foldl (fun s k => s.keyGone i k) s) := (State.keysGone_releases i G s).pickups

/-- Keys that are gone, none of them the one of a pickup, are missing or with staff, and no contract changes. -/
theorem State.keysGone_plain {P : CompId → Prop} {i : ScanInput} {G : List KeyId} {s : State}
    (hG : ∀ k ∈ G, ∀ x, i.purpose ≠ .pickup x k) (hloc : ∀ k ∈ G, ∀ x, s.loc k ≠ some (.out x))
    (hs : s.Booked P) : (G.foldl (fun s k => s.keyGone i k) s).Booked P
      ∧ (G.foldl (fun s k => s.keyGone i k) s).contracts = s.contracts := by
  induction G generalizing s with
  | nil => exact ⟨hs, rfl⟩
  | cons k G ih =>
    obtain ⟨x, hp, -⟩ | ⟨l, b, hl, he⟩ := s.keyGone_cases i k
    · exact absurd hp (hG k List.mem_cons_self x)
    have hm : Moved s (s.keyGone i k) k l := he ▸ (s.moveKey_moved k l).before (State.enter_still _ _)
    have hc : (s.keyGone i k).contracts = s.contracts := by rw [he]; exact (s.moveKey_frame k l).1
    have hlo : ∀ x, l ≠ .out x := fun x => by obtain rfl | rfl := hl <;> simp
    have hb := hs.of_moved hm (hloc k List.mem_cons_self) hlo hc (s.keyGone_fewer i k)
    obtain ⟨h1, h2⟩ := ih (s := s.keyGone i k) (fun j hj => hG j (List.mem_cons_of_mem _ hj)) (fun j hj x => by
      rw [hm.loc j]
      split
      · intro e
        obtain ⟨_, -, e⟩ := Option.map_eq_some_iff.mp e
        exact hlo x e
      · exact hloc j (List.mem_cons_of_mem _ hj) x) hb
    exact ⟨h1, h2.trans hc⟩

/-- The contracts of a handout: PICKING turns OUT, its code leaves the index (R74). -/
theorem State.handoutDone_contracts {s : State} {i : ScanInput} {x : Nat} {k : KeyId} {sl : Slot} {c : Contract}
    (h : s.slotOf x = some sl) (hc : s.slot sl = some c) : (s.handoutDone i x k).contracts
      = ((s.modifySlot sl fun c => { c with state := .out, handoutMinute := i.minute }).dropCode sl).contracts := by
  have hh : ∀ k, (s.handedOut i x k sl).contracts
      = ((s.modifySlot sl fun c => { c with state := .out, handoutMinute := i.minute }).dropCode sl).contracts :=
    fun k => (State.moveKey_frame _ k _).1
  obtain ⟨he, -⟩ | ⟨e, -, -, he⟩ := State.handoutDone_cases (i := i) (k := k) h hc <;> rw [he]
  · exact hh k
  · rw [State.reexamine_frame]; exact hh k

/-- A handout in slot `sl`: its contract goes from PICKING to OUT with key `k` (R74). -/
def HandedOut (s t : State) (k : KeyId) : Prop :=
  ∃ sl c d, s.slot sl = some c ∧ c.state = .picking ∧ Rewrote s t sl (some d) ∧ d.state = .out ∧ d.key = some k

theorem State.keyGone_handout {s : State} {i : ScanInput} {x : Nat} {k : KeyId} (hp : i.purpose = .pickup x k)
    (hpick : s.contractState x = some .picking → s.Picks x k) (hno : s.Unsought (· ≠ i.comp) x)
    (hloc : s.loc k = some (.compartment i.comp)) (hs : s.Booked (· ≠ i.comp)) :
    (s.keyGone i k).Booked (· ≠ i.comp)
      ∧ ((s.keyGone i k).contracts = s.contracts ∨ HandedOut s (s.keyGone i k) k) := by
  have hlo : ∀ x, s.loc k ≠ some (.out x) := fun x => by simp [hloc]
  obtain ⟨y, hy, hst, he⟩ | ⟨l, b, hl, he⟩ := s.keyGone_cases i k
  · obtain ⟨rfl, -⟩ := ScanPurpose.pickup.inj (hp.symm.trans hy)
    obtain ⟨sl, c, hc, hx, hcs, hkey⟩ := hpick hst
    have hsl : s.slotOf x = some sl := (State.slotOf_iff hs.index.numbered).mpr ⟨c, hc, hx⟩
    have hcon := State.handoutDone_contracts (i := i) (k := k) hsl hc
    have hr : Rewrote s (s.handoutDone i x k) sl (some { c with state := .out, handoutMinute := i.minute }) :=
      .modify (f := fun c => { c with state := .out, handoutMinute := i.minute }) hc
        (by rw [hcon]; rfl)
    rw [he]
    refine ⟨hs.of_handout hc hx hcs hkey hr hx rfl hkey ?_ (State.handoutDone_moved hsl hc) (fun hk => ?_) hlo
      (he ▸ s.keyGone_fewer i k) hno, .inr ⟨sl, c, _, hc, hcs, hr, rfl, hkey⟩⟩
    · rw [hcon]; rfl
    · rw [State.loc, hk] at hloc; cases hloc
  · have hm : Moved s (s.keyGone i k) k l := he ▸ (s.moveKey_moved k l).before (State.enter_still _ _)
    have hc : (s.keyGone i k).contracts = s.contracts := by rw [he]; exact (s.moveKey_frame k l).1
    exact ⟨hs.of_moved hm hlo (fun x => by obtain rfl | rfl := hl <;> simp) hc (s.keyGone_fewer i k), .inl hc⟩

theorem HandedOut.of_eq {s t u v : State} {k : KeyId} (h : HandedOut t u k) (hs : t.contracts = s.contracts)
    (hv : v.contracts = u.contracts) : HandedOut s v k := by
  obtain ⟨sl, c, d, hc, hp, hr, hd, hk⟩ := h
  refine ⟨sl, c, d, (State.slot_of_eq hs sl).symm.trans hc, hp, ⟨?_, fun j hj => ?_⟩, hd, hk⟩
  · rw [State.slot_of_eq hv]; exact hr.self
  · rw [State.slot_of_eq hv, hr.other j hj, State.slot_of_eq hs]

theorem State.Picks.of_eq {s t : State} {x : Nat} {k : KeyId} (h : s.Picks x k) (hc : t.contracts = s.contracts) :
    t.Picks x k := by
  obtain ⟨sl, d, hd, hx⟩ := h
  exact ⟨sl, d, (State.slot_of_eq hc sl).trans hd, hx⟩

/-- The pickup that a read carries is the compartment's (R46). -/
def State.Carries (s : State) (i : ScanInput) : Prop :=
  ∀ x k, i.purpose = .pickup x k → (s.comp i.comp).pickup? = some (x, k)

theorem State.Carries.unsought {s : State} {i : ScanInput} {x : Nat} {k : KeyId} (h : s.Carries i)
    (hp : i.purpose = .pickup x k) (hs : s.Booked fun _ => True) : s.Unsought (· ≠ i.comp) x :=
  fun n k' hn hk => hn (hs.rented.alone n i.comp x k' k trivial hk (h x k hp)).symm

/-- Step 1 keeps the laws but for the compartment's own pickup, and hands out the pickup's key at most (R47, R74). -/
theorem State.step1_booked {s : State} {i : ScanInput} (h : s.LocationOk) (hb : i.before = (s.comp i.comp).contents)
    (hc : s.Carries i) (hs : s.Booked fun _ => True) : (s.step1 i).Booked (· ≠ i.comp)
      ∧ ((s.step1 i).contracts = s.contracts ∨ ∃ x k, i.purpose = .pickup x k ∧ s.found i k = false
        ∧ HandedOut s (s.step1 i) k) := by
  have hs' : s.Booked (· ≠ i.comp) := ⟨hs.index, hs.rented.mono fun _ _ => trivial⟩
  unfold State.step1
  generalize hG : (keysOf i.before).filter (fun k => (s.key k).isSome && !s.found i k) = G
  have hmem : ∀ k ∈ G, s.loc k = some (.compartment i.comp) ∧ s.found i k = false := fun k hk => by
    obtain ⟨h1, h2⟩ := List.mem_filter.mp (hG ▸ hk)
    rw [mem_keysOf, hb] at h1
    exact ⟨(h.2.1 k i.comp).mp h1, by simp at h2; exact h2.2⟩
  have hnd : G.Nodup := by
    rw [← hG]
    refine List.Nodup.filter _ (List.Nodup.filterMap ?_ (hb ▸ h.2.2 i.comp))
    intro a b c ha hb
    cases a <;> cases b <;> simp_all
  have hout : ∀ k ∈ G, ∀ x, s.loc k ≠ some (.out x) := fun k hk x => by simp [(hmem k hk).1]
  by_cases hp : ∃ k ∈ G, ∃ x, i.purpose = .pickup x k
  · obtain ⟨k, hk, x, hx⟩ := hp
    obtain ⟨G1, G2, rfl⟩ := List.append_of_mem hk
    have hne : ∀ j ∈ G1 ++ G2, ∀ y, i.purpose ≠ .pickup y j := fun j hj y hy => by
      obtain ⟨-, rfl⟩ := ScanPurpose.pickup.inj (hx.symm.trans hy)
      exact (List.nodup_cons.mp ((List.perm_middle.nodup_iff).mp hnd)).1 hj
    have hk1 : k ∉ G1 := fun hj => hne k (List.mem_append_left _ hj) x hx
    obtain ⟨b1, c1⟩ := State.keysGone_plain (P := (· ≠ i.comp)) (s := s) (fun j hj => hne j (List.mem_append_left _ hj))
      (fun j hj => hout j (List.mem_append_left _ hj)) hs'
    obtain ⟨-, l1, -, -⟩ := State.keysGone_moved i G1 s
    have f1 := State.keysGone_fewer i G1 s
    rw [List.foldl_append, List.foldl_cons]
    generalize G1.foldl (fun s k => s.keyGone i k) s = u at b1 c1 l1 f1 ⊢
    have hpick : s.Picks x k := hs.rented.pickups _ x k trivial (hc x k hx)
    obtain ⟨b2, c2⟩ := State.keyGone_handout hx (fun _ => hpick.of_eq c1) ((hc.unsought hx hs).fewer f1)
      ((l1 k hk1).trans (hmem k hk).1) b1
    have l2 : ∀ j ∈ G2, ∀ y, (u.keyGone i k).loc j ≠ some (.out y) := fun j hj y => by
      have hjk : j ≠ k := fun e => hne j (List.mem_append_right _ hj) x (e ▸ hx)
      have hj1 : j ∉ G1 := fun hj1 => by
        have := (List.nodup_append.mp hnd).2.2 j hj1 j (List.mem_cons_of_mem _ hj)
        exact this rfl
      obtain ⟨l, -, hm⟩ := u.keyGone_moved i k
      rw [hm.loc j, if_neg hjk, l1 j hj1]
      exact hout j (List.mem_append_right _ (List.mem_cons_of_mem _ hj)) y
    obtain ⟨b3, c3⟩ := State.keysGone_plain (fun j hj => hne j (List.mem_append_right _ hj)) l2 b2
    refine ⟨b3, c2.imp (fun c2 => c3.trans (c2.trans c1)) fun c2 => ⟨x, k, hx, (hmem k hk).2, c2.of_eq c1 c3⟩⟩
  · obtain ⟨b1, c1⟩ := State.keysGone_plain (P := (· ≠ i.comp)) (s := s)
      (fun j hj y hy => hp ⟨j, hj, y, hy⟩) hout hs'
    exact ⟨b1, .inl c1⟩

/-! ### Step 2: keys that are found (R48, R49) -/

theorem State.closeContract_compartments (s : State) (x : Nat) (r : Route) (m : Option Nat) (n : Option CompId) :
    (s.closeContract x r m n).compartments = s.compartments := by rw [s.closeContract_frame]

theorem State.keyFound_releases (s : State) (i : ScanInput) (log : FoundLog) (k : KeyId) :
    FewerReleases s (s.keyFound i log k).1 := by
  have closed : ∀ x r m n, FewerReleases s (s.closeContract x r m n) := fun x r m n =>
    .of_eq (s.closeContract_compartments x r m n)
  unfold State.keyFound
  split
  · exact .of_eq rfl
  · split
    · exact (closed _ _ _ _).trans (State.moveKey_releases _ _ _)
    · exact (closed _ _ _ _).trans ((State.cancelReturn_releases _ _).trans (State.moveKey_releases _ _ _))
  · split
    · exact .of_eq rfl
    · exact (s.moveKey_releases _ _).trans ((State.requestSweep_releases _ _).trans
        (State.withdrawPromise_releases _ _ _))
  all_goals exact s.moveKey_releases _ _

theorem State.keyFound_fewer (s : State) (i : ScanInput) (log : FoundLog) (k : KeyId) :
    FewerPickups s (s.keyFound i log k).1 := (s.keyFound_releases i log k).pickups

theorem State.keysFound_releases (i : ScanInput) (F : List KeyId) (p : State × FoundLog) :
    FewerReleases p.1 (F.foldl (fun p k => p.1.keyFound i p.2 k) p).1 := by
  induction F generalizing p with
  | nil => exact .of_eq rfl
  | cons k F ih => exact (p.1.keyFound_releases i p.2 k).trans (ih _)

theorem State.keyFound_settling {K : KeyId → Prop} {P : CompId → Prop} (s : State) (i : ScanInput) (log : FoundLog)
    {k : KeyId} (hk : K k) : Settling K P s (s.keyFound i log k).1 := by
  have hm := s.keyFound_moved i log k
  have hp := s.keyFound_fewer i log k
  have arrives : ∀ l, s.loc k = some l → (∀ x, l ≠ .out x) →
      Settling K P s (s.moveKey k (.compartment i.comp)) := fun l hl hx =>
    .of_moved (s.moveKey_moved _ _) (fun x e => hx x (Option.some.inj (hl.symm.trans e))) (fun x => by simp)
      (s.moveKey_frame _ _).1 (s.moveKey_fewer _ _)
  revert hm hp
  unfold State.keyFound
  split
  · exact fun _ _ => .of_eq rfl rfl rfl
  · next c hl =>
    split <;> intro hm hp
    · exact .of_closed hk hl (fun x => by simp) (State.moveKey_frame _ _ _).1 hm hp
    · exact .of_closed hk hl (fun x => by simp) ((State.moveKey_frame _ _ _).1.trans
        (State.cancelReturn_contracts (s.closeContract_notReturning _ _ _ _))) hm hp
  · next m hl =>
    split <;> intro hm hp
    · exact .of_eq rfl rfl rfl
    · refine (arrives _ hl fun x => by simp).trans (Settling.trans (.of_calm (State.requestSweep_contracts _ _)
        (.of_eq (State.requestSweep_keys _ _)) (State.requestSweep_calm _ _).pickup)
        (State.withdrawPromise_settling _ _ _))
  case h_4 hl | h_5 hl | h_6 hl => exact fun _ _ => arrives _ hl fun x => by simp

theorem State.keysFound_settling {K : KeyId → Prop} {P : CompId → Prop} (i : ScanInput) (F : List KeyId)
    (p : State × FoundLog) (hF : ∀ k ∈ F, K k) :
    Settling K P p.1 (F.foldl (fun p k => p.1.keyFound i p.2 k) p).1 := by
  induction F generalizing p with
  | nil => exact .of_eq rfl rfl rfl
  | cons k F ih =>
    exact Settling.trans (p.1.keyFound_settling i p.2 (hF k List.mem_cons_self))
      (ih (p.1.keyFound i p.2 k) fun j hj => hF j (List.mem_cons_of_mem _ hj))

/-! ### Steps 3 to 9 -/

theorem Settling.of_same {K : KeyId → Prop} {P : CompId → Prop} {s t : State} (h : SameRecords s t) :
    Settling K P s t := .of_eq h.contracts h.keys h.compartments

theorem State.step4_releases (s : State) (i : ScanInput) : FewerReleases s (s.step4 i) :=
  .modifyComp fun _ _ h => h

theorem State.step4_settling {K : KeyId → Prop} {P : CompId → Prop} (s : State) (i : ScanInput) :
    Settling K P s (s.step4 i) := .of_calm rfl (.of_eq rfl) (s.step4_releases i).pickups

theorem State.step5_settling {K : KeyId → Prop} {P : CompId → Prop} {s : State} {i : ScanInput}
    (h : ∀ x k, i.purpose = .pickup x k → s.Unsought P x) : Settling K P s (s.step5 i) := by
  unfold State.step5
  split
  · next x k hp => exact State.fallBack_settling k _ _ (h x k hp)
  · exact .of_eq rfl rfl rfl

theorem State.step6_settling {K : KeyId → Prop} {P : CompId → Prop} {s : State} {i : ScanInput}
    (h : ∀ x k, i.purpose = .ret x k → ∀ k, K k) : Settling K P s (s.step6 i) := by
  unfold State.step6
  split
  · next x k hp => exact State.returnFailed_settling k _ _ fun _ => h x k hp
  · exact .of_eq rfl rfl rfl

/-- Step 7 takes the read compartment's release away, and the laws hold for every compartment again (R52). -/
theorem State.step7_booked {s : State} {n : CompId} (h : s.Booked (· ≠ n)) :
    (s.step7 n).Booked (fun _ => True) ∧ (s.step7 n).contracts = s.contracts := by
  have hpl := (s.step7_still n).places
  have h7 : ∃ u : State, u.contracts = s.contracts ∧ u.compartments = s.compartments
      ∧ s.step7 n = u.modifyComp n fun c => { c with release := none, reservation := none, door := .locked } := by
    unfold State.step7
    dsimp only
    split
    · next k _ => exact ⟨s.clearPromise k, rfl, rfl, rfl⟩
    · exact ⟨s, rfl, rfl, rfl⟩
  obtain ⟨u, huc, hup, he⟩ := h7
  have hself : ((s.step7 n).comp n).pickup? = none := by
    rw [he, State.modifyComp_comp_self]; rfl
  have hp : FewerPickups s (s.step7 n) := by
    rw [he]
    exact (FewerPickups.of_eq hup).trans (State.modifyComp_released fun _ => rfl).1
  have hc : (s.step7 n).contracts = s.contracts := by rw [he]; exact huc
  have hb := h.of_calm hc hpl hp
  have hn : ∀ m p, ((s.step7 n).comp m).pickup? = some p → m ≠ n := fun m p hm e => by
    rw [e, hself] at hm; cases hm
  exact ⟨⟨hb.index, fun m x k _ hm => hb.rented.pickups m x k (hn m _ hm) hm,
    fun m m' x k k' _ h1 h2 => hb.rented.alone m m' x k k' (hn m _ h1) h1 h2, hb.rented.out, hb.rented.handed⟩, hc⟩

theorem State.step8_frame (s : State) (log : FoundLog) : ∃ x, s.step8 log = s.withKeys x := by
  have mark : ∀ (u : State) k r, ∃ x, u.markReturned k r = u.withKeys x := fun u k r => by
    unfold State.markReturned
    split
    · exact ⟨u.keys, rfl⟩
    · split
      · exact ⟨_, rfl⟩
      · exact ⟨u.keys, rfl⟩
  unfold State.step8
  generalize log.closed = l
  induction l generalizing s with
  | nil => exact ⟨s.keys, rfl⟩
  | cons p l ih =>
    obtain ⟨y, hy⟩ := mark s p.1 p.2
    obtain ⟨x, hx⟩ := ih (s.markReturned p.1 p.2)
    exact ⟨x, hx.trans (by rw [hy]; rfl)⟩

theorem State.step9_frame (s : State) (i : ScanInput) (log : FoundLog) (k : Option KeyId) :
    ∃ x, s.step9 i log k = s.withKeys x := s.reexamineAll_frame _ _

/-- From the keys that are gone to the new contents, the records settle (R48-R50). -/
theorem State.sorted_settling {K : KeyId → Prop} {s : State} {i : ScanInput}
    (hF : ∀ k ∈ (s.step1 i).foundKeys i.found, K k) : Settling K (· ≠ i.comp) (s.step1 i) (s.sorted i) :=
  (State.keysFound_settling (K := K) (P := (· ≠ i.comp)) i _ (s.step1 i, ⟨[], []⟩) hF).trans
    ((Settling.of_same (((s.step1 i).step2 i).1.step3_same i).toSameRecords).trans (State.step4_settling _ i))

theorem State.sorted_releases (s : State) (i : ScanInput) : FewerReleases (s.step1 i) (s.sorted i) :=
  (State.keysFound_releases i _ (s.step1 i, ⟨[], []⟩)).trans
    ((FewerReleases.of_eq (((s.step1 i).step2 i).1.step3_same i).compartments).trans (State.step4_releases _ i))

/-- From the keys that are gone to the clean-up, the records settle (R48-R51). -/
theorem State.swept_settling {K : KeyId → Prop} {s : State} {i : ScanInput}
    (hno : ∀ x k, i.purpose = .pickup x k → (s.step1 i).Unsought (· ≠ i.comp) x)
    (hF : ∀ k ∈ (s.step1 i).foundKeys i.found, K k) (hret : ∀ x k, i.purpose = .ret x k → ∀ k, K k) :
    Settling K (· ≠ i.comp) (s.step1 i) (((s.sorted i).step5 i).step6 i) :=
  (State.sorted_settling hF).trans ((State.step5_settling fun x k hp =>
    (hno x k hp).fewer (s.sorted_releases i).pickups).trans (State.step6_settling hret))

/-- A reconciliation keeps the laws of the contract table and moves contracts by R59. -/
theorem State.reconcile_booked {s : State} {i : ScanInput} (h : s.LocationOk)
    (hb : i.before = (s.comp i.comp).contents) (hc : s.Carries i) (hs : s.Booked fun _ => True) :
    (s.reconcile i).Booked (fun _ => True) ∧ ∀ sl, Advances (s.slot sl) ((s.reconcile i).slot sl) := by
  obtain ⟨b1, c1⟩ := State.step1_booked h hb hc hs
  have p1 : FewerPickups s (s.step1 i) := State.keysGone_fewer i _ s
  have hno : ∀ x k, i.purpose = .pickup x k → (s.step1 i).Unsought (· ≠ i.comp) x := fun x k hp =>
    (hc.unsought hp hs).fewer p1
  have finish : ∀ {K}, Settling K (· ≠ i.comp) (s.step1 i) (((s.sorted i).step5 i).step6 i) →
      (s.reconcile i).Booked (fun _ => True)
        ∧ ∀ sl, Settles K ((s.step1 i).slot sl) ((s.reconcile i).slot sl) := by
    intro K hset
    obtain ⟨b6, t6⟩ := hset b1
    obtain ⟨b7, c7⟩ := State.step7_booked b6
    obtain ⟨x, hx⟩ := State.step8_frame ((((s.sorted i).step5 i).step6 i).step7 i.comp) ((s.step1 i).step2 i).2
    have k9 := (State.step8_still ((((s.sorted i).step5 i).step6 i).step7 i.comp) ((s.step1 i).step2 i).2).places.trans
      (State.step9_still _ i ((s.step1 i).step2 i).2 (s.releaseKey i.comp)).places
    obtain ⟨y, hy⟩ := State.step9_frame ((((((s.sorted i).step5 i).step6 i).step7 i.comp)).step8
      ((s.step1 i).step2 i).2) i ((s.step1 i).step2 i).2 (s.releaseKey i.comp)
    rw [hx] at hy k9
    rw [State.reconcile_eq, hx]
    rw [hy] at k9 ⊢
    refine ⟨b7.of_calm rfl k9 (.of_eq rfl), fun sl => ?_⟩
    have e := State.slot_of_eq c7 sl
    exact e ▸ t6 sl
  obtain c1 | ⟨x, k, hp, hk, sl, c, d, hc, hcp, hr, hd, hdk⟩ := c1
  · obtain ⟨b9, t9⟩ := finish (K := fun _ => True)
      (State.swept_settling hno (fun _ _ => trivial) fun _ _ _ _ => trivial)
    refine ⟨b9, fun sl => ?_⟩
    rw [← State.slot_of_eq c1]
    exact (t9 sl).advances
  · obtain ⟨b9, t9⟩ := finish (K := fun j => j ∈ (s.step1 i).foundKeys i.found)
      (State.swept_settling hno (fun _ hj => hj) fun _ _ hr => by rw [hp] at hr; cases hr)
    refine ⟨b9, fun j => ?_⟩
    have ht := t9 j
    by_cases e : j = sl
    · subst e
      rw [hr.self] at ht
      have hnk : k ∉ (s.step1 i).foundKeys i.found := fun hj => by
        obtain ⟨y, hy, hky⟩ := List.mem_filterMap.mp hj
        have ht1 := (State.keysGone_moved i ((keysOf i.before).filter fun k => (s.key k).isSome && !s.found i k)
          s).1 k
        change ((s.step1 i).key k).map KeyRecord.tag = (s.key k).map KeyRecord.tag at ht1
        obtain ⟨r, hr', hry⟩ := Option.any_eq_true _ _ |>.mp (Table.get_of_find hky)
        rw [show (s.step1 i).key k = some r from hr'] at ht1
        obtain ⟨r', hr1, hrt⟩ := Option.map_eq_some_iff.mp ht1.symm
        rw [State.found, hr1, Option.any_some, hrt, beq_iff_eq.mp hry] at hk
        simp [hy] at hk
      rw [hc]
      generalize (s.reconcile i).slot j = b at ht
      cases ht with
      | same => simp [Advances, transitionAllowed, hcp, hd]
      | back h => rw [hd] at h; cases h
      | failed h => rw [hd] at h; cases h
      | closed _ hk' hK => exact absurd (Option.some.inj (hdk.symm.trans hk') ▸ hK) hnk
    · rw [hr.other j e] at ht
      exact ht.advances

/-- A read's purpose is a pickup only when the compartment's release is that PICKUP (R46). -/
theorem State.scanPurpose_pickup {s : State} {n : CompId} {c : Carried} {x : Nat} {k : KeyId}
    (h : s.scanPurpose n c = .pickup x k) : (s.comp n).pickup? = some (x, k) := by
  unfold State.scanPurpose at h
  split at h
  · cases h
  · cases h
  · split at h
    case h_2 hr =>
      cases h
      obtain ⟨⟨p, o⟩, hr, hpr⟩ := Option.map_eq_some_iff.mp hr
      obtain rfl : p = _ := hpr
      exact Compartment.pickup?_eq_some.mpr ⟨o, hr⟩
    case h_3 => split at h <;> cases h
    all_goals cases h

theorem State.completeRead_booked {s : State} (h : s.LocationOk) (hs : s.Booked fun _ => True) (n : CompId)
    (tags : List Nat) : (s.completeRead n tags).Booked (fun _ => True)
      ∧ ∀ sl, Advances (s.slot sl) ((s.completeRead n tags).slot sl) := by
  rcases s.completeRead_cases n tags with he | ⟨e, -, -, -, he⟩ <;> rw [he]
  · exact ⟨hs, fun _ => .refl _⟩
  · have hw := s.withdrawEntry_same n
    exact State.reconcile_booked (s := s.withdrawEntry n) (h.of_same hw) rfl (fun _ _ => State.scanPurpose_pickup)
      (hs.of_calm hw.contracts (.of_eq hw.keys) (.of_eq hw.compartments))

end Sys2Proof.Machine
end

section
/-! SUPPORT. The laws of the contract table and the transitions of R59 through the operations of requests, of the cabinet,
of the drop box and of the overdue scan. -/

namespace Sys2Proof.Machine

/-! ### Pickup codes (R58) -/

/-- A fresh code enters the index for its slot. -/
theorem State.addCode_codes {s : State} {sl : Slot} {o : Option Nat}
    (hs : s.contracts.codes.Pairwise fun a b => a.1 < b.1)
    (hn : ∀ x, o = some x → ∀ i, (x, i) ∉ s.contracts.codes) :
    (s.addCode sl o).contracts.codes.Pairwise (fun a b => a.1 < b.1)
      ∧ ∀ x i, (x, i) ∈ (s.addCode sl o).contracts.codes ↔ (x, i) ∈ s.contracts.codes ∨ i = sl ∧ o = some x := by
  cases o with
  | none => exact ⟨hs, fun x i => by simp [State.addCode]⟩
  | some y =>
    refine ⟨insertCode_sorted hs fun p hp e => hn y rfl p.2 (e ▸ hp), fun x i => ?_⟩
    refine mem_insertCode.trans ?_
    rw [Prod.mk.injEq, Option.some.injEq, or_comm, and_comm, eq_comm (a := x)]

theorem State.addCode_slots (s : State) (sl : Slot) (o : Option Nat) :
    (s.addCode sl o).contracts.slots = s.contracts.slots := by
  cases o <;> rfl

theorem State.IndexOk.no_code {s : State} (h : s.IndexOk) {x : Nat} (hx : s.contracts.codeSlot x = none) (i : Slot) :
    (x, i) ∉ s.contracts.codes := fun hi => by
  rw [(ContractTable.codeSlot_iff h.2.1).mpr hi] at hx
  cases hx

/-! ### Slots written by requests and by the overdue scan -/

/-- A slot of the contract table gets a contract that neither rents a key nor stands in PICKING, its old one neither. -/
theorem State.Rented.idle {s t : State} {P : CompId → Prop} {sl : Slot} {c : Option Contract} (h : s.Rented P)
    (hr : Rewrote s t sl c) (hk : SamePlaces s t) (hp : FewerPickups s t)
    (hold : ∀ d, s.slot sl = some d → d.state ≠ .picking ∧ d.isOpen = false)
    (hnew : ∀ d, c = some d → d.isOpen = false) : t.Rented P := by
  refine h.rewrite hr hk hp (fun d hd hst => absurd hst (hold d hd).1) ?_
  have rents : ∀ o : Option Contract, (∀ d, o = some d → d.isOpen = false) → o.bind Contract.rents = none := by
    intro o ho
    cases o with
    | none => rfl
    | some d => simp [Contract.rents, ho d rfl]
  rw [rents c hnew, rents _ fun d hd => (hold d hd).2]

/-- Notes on a contract that change neither its number, state, key nor code. -/
structure Quiet (s t : State) : Prop where
  booked : ∀ P, s.Booked P → t.Booked P
  states : ∀ sl, (t.slot sl).map Contract.state = (s.slot sl).map Contract.state

theorem Quiet.refl (s : State) : Quiet s s := ⟨fun _ h => h, fun _ => rfl⟩

theorem Quiet.trans {s t u : State} (h : Quiet s t) (g : Quiet t u) : Quiet s u :=
  ⟨fun P hs => g.booked P (h.booked P hs), fun sl => (g.states sl).trans (h.states sl)⟩

theorem Quiet.advances {s t : State} (h : Quiet s t) (sl : Slot) : Advances (s.slot sl) (t.slot sl) := by
  unfold Advances
  rw [h.states]
  exact Advances.refl _

/-- Notes on a contract after an operation that keeps the laws. -/
theorem Quiet.after {P : CompId → Prop} {s t u : State} (g : Quiet t u)
    (h : t.Booked P ∧ ∀ i, Advances (s.slot i) (t.slot i)) :
    u.Booked P ∧ ∀ i, Advances (s.slot i) (u.slot i) := by
  refine ⟨g.booked P h.1, fun i => ?_⟩
  have := h.2 i
  unfold Advances at this ⊢
  rwa [g.states]

theorem Quiet.of_calm {s t : State} (hc : t.contracts = s.contracts) (hk : SamePlaces s t) (hp : FewerPickups s t) :
    Quiet s t := ⟨fun _ h => h.of_calm hc hk hp, fun sl => by rw [State.slot_of_eq hc]⟩

theorem Quiet.modifySlot (s : State) (sl : Slot) {f : Contract → Contract}
    (hf : ∀ c, (f c).number = c.number ∧ (f c).state = c.state ∧ (f c).key = c.key ∧ (f c).code = c.code) :
    Quiet s (s.modifySlot sl f) := by
  cases hc : s.slot sl with
  | none =>
    have hs : ∀ i, (s.modifySlot sl f).slot i = s.slot i := fun i => by
      by_cases e : sl = i
      · subst e; rw [State.modifySlot_slot_self, hc]; rfl
      · exact s.modifySlot_slot_ne f e
    refine .of_calm ?_ (.of_eq rfl) (.of_eq rfl)
    exact congrArg (ContractTable.mk · s.contracts.codes) (Table.ext_get fun i => hs i)
  | some c =>
    obtain ⟨hn, hst, hkey, hcode⟩ := hf c
    have hr : Rewrote s (s.modifySlot sl f) sl (some (f c)) := .modify hc rfl
    have hopen : (f c).isOpen = c.isOpen := by rw [Contract.isOpen, hst]; rfl
    refine ⟨fun P hs => ⟨hs.index.keep hc hr hn (by rw [Contract.entry, hst, hcode]; rfl) rfl,
      hs.rented.rewrite hr (.of_eq rfl) (.of_eq rfl) (fun d hd hp => .inl ?_) ?_⟩, fun i => ?_⟩
    · obtain rfl := Option.some.inj (hc.symm.trans hd)
      exact ⟨f c, rfl, hn, hst.trans hp, hkey⟩
    · rw [hc]
      simp [Contract.rents, hopen, hn, hkey]
    · by_cases e : i = sl
      · rw [e, hr.self, hc]
        exact congrArg some hst
      · rw [hr.other i e]

theorem Quiet.enter (s : State) (b : NoticeBody) : Quiet s (s.enter b) := .of_calm rfl (.of_eq rfl) (.of_eq rfl)

theorem State.tierStep_quiet (s : State) (sl : Slot) (m : Nat) : Quiet s (s.tierStep sl m) := by
  unfold State.tierStep
  split
  · exact .refl s
  · next c _ =>
    dsimp only
    split
    · refine Quiet.trans (t := s.modifySlot sl fun c' =>
        { c' with tier := computedTier (s.policyOf c) c m, reminderBase := m }) ?_ (.enter _ _)
      exact .modifySlot s sl fun _ => ⟨rfl, rfl, rfl, rfl⟩
    · exact .refl s

theorem State.reminderStep_quiet (s : State) (sl : Slot) (m : Nat) : Quiet s (s.reminderStep sl m) := by
  have h : Quiet s (s.modifySlot sl fun c => { c with reminderBase := m }) :=
    .modifySlot s sl fun _ => ⟨rfl, rfl, rfl, rfl⟩
  unfold State.reminderStep
  split
  · exact .refl s
  · dsimp only
    split
    · exact .refl s
    split
    · exact h
    split
    · exact h.trans (.enter _ _)
    · exact .refl s

theorem State.resetTier_quiet (s : State) (sl : Slot) (m : Nat) : Quiet s (s.resetTier sl m) := by
  unfold State.resetTier
  split
  · exact .refl s
  · next c _ =>
    have h : Quiet s (s.modifySlot sl fun c' =>
        { c' with tier := computedTier (s.policyOf c) c m, reminderBase := m }) :=
      .modifySlot s sl fun _ => ⟨rfl, rfl, rfl, rfl⟩
    dsimp only
    split
    · exact h.trans (.enter _ _)
    · exact h

theorem State.reexamine_quiet (s : State) (m : Nat) (k : KeyId) : Quiet s (s.reexamine m k) := by
  refine .of_calm ?_ (s.reexamine_places m k) (.of_eq ?_) <;> rw [s.reexamine_frame]

theorem State.reexamineClaim_quiet (s : State) (e : Entitlement) : Quiet s (s.reexamineClaim e) := by
  unfold State.reexamineClaim
  split
  · exact s.reexamine_quiet _ _
  · exact .refl s

/-- A contract in TICKET or SUSPENDED. -/
def ContractState.waits (st : ContractState) : Prop := st = .ticket ∨ st = .suspended

theorem ContractState.waits.idle {c : Contract} (h : c.state.waits) : c.state ≠ .picking ∧ c.isOpen = false := by
  obtain h | h := h <;> simp [Contract.isOpen, h]

/-- A waiting ticket that ends leaves the index and its slot finished (R64, R125). -/
theorem State.endTicket_booked {P : CompId → Prop} {s : State} {sl : Slot} {c : Contract} {st : ContractState}
    (h : s.Booked P) (hc : s.slot sl = some c) (hw : c.state.waits) (hf : st = .void ∨ st = .lapsed) :
    ((s.modifySlot sl fun c => { c with state := st }).dropCode sl).Booked P
      ∧ ∀ i, Advances (s.slot i) (((s.modifySlot sl fun c => { c with state := st }).dropCode sl).slot i) := by
  have hr : Rewrote s ((s.modifySlot sl fun c => { c with state := st }).dropCode sl) sl
      (some { c with state := st }) := .modify (f := fun c => { c with state := st }) hc rfl
  refine ⟨⟨h.index.drop hc hr rfl ?_ rfl, h.rented.idle hr (.of_eq rfl) (.of_eq rfl) (fun d hd => ?_) fun d hd => ?_⟩,
    hr.slots .refl ?_⟩
  · obtain rfl | rfl := hf <;> rfl
  · obtain rfl := Option.some.inj (hc.symm.trans hd)
    exact hw.idle
  · obtain rfl := Option.some.inj hd
    obtain rfl | rfl := hf <;> rfl
  · rw [hc]
    obtain hw | hw := hw <;> obtain rfl | rfl := hf <;> simp [Advances, transitionAllowed, hw]

theorem State.lapse_booked {P : CompId → Prop} {s : State} {sl : Slot} {c : Contract} (h : s.Booked P)
    (hc : s.slot sl = some c) (hw : c.state.waits) (m : Nat) :
    (s.lapse sl m).Booked P ∧ ∀ i, Advances (s.slot i) ((s.lapse sl m).slot i) := by
  have hq : Quiet ((s.modifySlot sl fun c => { c with state := .lapsed }).dropCode sl) (s.lapse sl m) := by
    unfold State.lapse
    rw [hc]
    dsimp only
    refine Quiet.trans ?_ (.enter _ _)
    split
    · exact State.reexamine_quiet _ _ _
    · exact .refl _
  exact hq.after (State.endTicket_booked h hc hw (.inr rfl))

theorem State.visitSlot_booked {P : CompId → Prop} {s : State} (h : s.Booked P) (sl : Slot) (m : Nat) :
    (s.visitSlot sl m).Booked P ∧ ∀ i, Advances (s.slot i) ((s.visitSlot sl m).slot i) := by
  have quiet : ∀ {t}, Quiet s t → t.Booked P ∧ ∀ i, Advances (s.slot i) (t.slot i) :=
    fun hq => ⟨hq.booked P h, hq.advances⟩
  unfold State.visitSlot
  split
  · exact quiet (.refl s)
  · next c hc =>
    split
    case h_1 | h_2 => exact quiet ((s.tierStep_quiet sl m).trans (State.reminderStep_quiet _ _ _))
    case h_3 hst | h_4 hst =>
      split
      · exact State.lapse_booked h hc (by simp [ContractState.waits, hst]) m
      · exact quiet (.refl s)
    all_goals exact quiet (.refl s)

theorem State.issue_booked {P : CompId → Prop} {s : State} {sl : Slot} {c : Contract} (h : s.Booked P)
    (hsl : s.slot sl = none) (hst : c.state = .ticket) (hnum : s.slotOf c.number = none)
    (hcode : ∀ x, c.code = some x → s.contracts.codeSlot x = none) :
    (s.issue sl c).Booked P ∧ ∀ i, Advances (s.slot i) ((s.issue sl c).slot i) := by
  have hq := State.reexamineClaim_quiet
    ((s.withContracts { s.contracts with slots := s.contracts.slots.set sl (some c) }).addCode sl c.code) c.entitlement
  generalize hu : s.withContracts { s.contracts with slots := s.contracts.slots.set sl (some c) } = u at hq
  have hus : u.contracts.slots = s.contracts.slots.set sl (some c) := by rw [← hu]; rfl
  have huc : u.contracts.codes = s.contracts.codes := by rw [← hu]; rfl
  obtain ⟨hsort, hmem⟩ := State.addCode_codes (s := u) (sl := sl) (o := c.code) (huc ▸ h.index.2.1)
    (fun x hx i => huc ▸ h.index.no_code (hcode x hx) i)
  have hsu : Still s u := by rw [← hu]; exact .of_eq rfl rfl
  have hstill := hsu.trans (State.addCode_still u sl c.code)
  have hp : FewerPickups s (u.addCode sl c.code) := by
    rw [← hu]
    cases c.code <;> exact .of_eq rfl
  have hr : Rewrote s (u.addCode sl c.code) sl (some c) := .set ((u.addCode_slots sl c.code).trans hus)
  have hb : (u.addCode sl c.code).Booked P := by
    refine ⟨h.index.rewrite hr (fun d hd i e he hne => ?_) hsort fun x i => ?_,
      h.rented.idle hr hstill.places hp (fun d hd => ?_) fun d hd => ?_⟩
    · obtain rfl := Option.some.inj hd
      exact absurd hne (State.slotOf_none hnum he)
    · rw [hmem, huc, Option.bind_some, Contract.entry, hst]
      refine or_congr ⟨fun hx => ⟨fun e => ?_, hx⟩, And.right⟩ Iff.rfl
      rw [e, h.index.mem_codes, hsl] at hx
      cases hx
    · rw [hsl] at hd; cases hd
    · obtain rfl := Option.some.inj hd
      rw [Contract.isOpen, hst]; rfl
  have ha := hr.slots .refl (R := Advances) (by rw [hsl]; simp [Advances, transitionAllowed, hst])
  subst hu
  exact hq.after ⟨hb, ha⟩

theorem State.amend_booked {P : CompId → Prop} {s : State} {sl : Slot} {c : Contract} {a : Amendment} (h : s.Booked P)
    (hsl : s.slot sl = some c) (hst : a.wrongState c.state = false) (hcode : s.codeTaken sl a.code = false) :
    (s.amend sl c a).Booked P ∧ ∀ i, Advances (s.slot i) ((s.amend sl c a).slot i) := by
  have hstate : c.state.waits ∨ c.isOpen = true ∧ a.code = none := by
    unfold ContractState.waits Contract.isOpen
    cases hs : c.state <;> simp_all [Amendment.wrongState]
  have hnp : c.state ≠ .picking := by
    intro e; rw [e] at hst; cases hst
  generalize hu : (s.modifySlot sl a.applyTo).changeCode sl a.code = u
  have hq : Quiet u (s.amend sl c a) := by
    unfold State.amend
    dsimp only
    rw [hu]
    split
    · exact State.resetTier_quiet _ _ _
    · exact .refl _
  have hslots : u.contracts.slots = (s.modifySlot sl a.applyTo).contracts.slots := by
    rw [← hu]
    cases a.code with
    | none => rfl
    | some o => exact State.addCode_slots _ _ _
  have hr : Rewrote s u sl (some (a.applyTo c)) := .modify hsl hslots
  have hstill : Still s u := hu ▸ (s.modifySlot_still sl a.applyTo).trans (State.changeCode_still _ sl a.code)
  have hp : FewerPickups s u := by
    refine .of_eq ?_
    rw [← hu]
    cases a.code with
    | none => rfl
    | some o => cases o <;> rfl
  have hindex : u.IndexOk := by
    cases ha : a.code with
    | none =>
      refine h.index.keep hsl hr rfl ?_ (by rw [← hu, ha]; rfl)
      rw [Contract.entry, Amendment.applyTo, ha]; rfl
    | some o =>
      obtain hw | ⟨-, hno⟩ := hstate
      · have hdrop : ∀ x i, (x, i) ∈ ((s.modifySlot sl a.applyTo).dropCode sl).contracts.codes
            ↔ i ≠ sl ∧ (x, i) ∈ s.contracts.codes := fun x i => by
          change (x, i) ∈ s.contracts.codes.filter _ ↔ _
          rw [List.mem_filter]
          simp [and_comm]
        obtain ⟨hsort, hmem⟩ := State.addCode_codes (s := (s.modifySlot sl a.applyTo).dropCode sl) (sl := sl) (o := o)
          (h.index.2.1.filter _) fun x hx i hi => by
            obtain ⟨hne, hi⟩ := (hdrop x i).mp hi
            rw [ha, hx, State.codeTaken] at hcode
            simp [(ContractTable.codeSlot_iff h.index.2.1).mpr hi, hne] at hcode
        rw [ha] at hu
        refine h.index.rewrite hr (fun d hd i e he hne => ?_) (hu ▸ hsort) fun x i => ?_
        · obtain rfl := Option.some.inj hd
          exact h.index.1 i sl e c he hsl hne
        · rw [← hu]
          refine (hmem x i).trans (or_congr (hdrop x i) (and_congr_right fun _ => ?_))
          have : (a.applyTo c).entry = o := by
            rw [Contract.entry, Amendment.applyTo, ha]
            obtain hw | hw := hw <;> simp [hw, ContractState.indexed]
          rw [Option.bind_some, this]
      · rw [hno] at ha; cases ha
  have hb : u.Booked P := by
    refine ⟨hindex, h.rented.rewrite hr hstill.places hp (fun d hd hps => ?_) ?_⟩
    · obtain rfl := Option.some.inj (hsl.symm.trans hd)
      exact absurd hps hnp
    · rw [hsl]; rfl
  exact hq.after ⟨hb, hr.slots .refl (by rw [hsl]; exact Advances.refl (some c))⟩

theorem State.resumeTicket_booked {P : CompId → Prop} {s : State} {sl : Slot} {c : Contract} (h : s.Booked P)
    (hc : s.slot sl = some c) (hst : c.state = .suspended) :
    (s.resumeTicket sl).Booked P ∧ ∀ i, Advances (s.slot i) ((s.resumeTicket sl).slot i) := by
  have hr : Rewrote s (s.resumeTicket sl) sl (some { c with state := .ticket, attempts := 0 }) :=
    .modify (f := fun c => { c with state := .ticket, attempts := 0 }) hc rfl
  refine ⟨⟨h.index.keep hc hr rfl ?_ rfl, h.rented.idle hr (.of_eq rfl) (.of_eq rfl) (fun d hd => ?_) fun d hd => ?_⟩,
    hr.slots .refl (by rw [hc]; simp [Advances, transitionAllowed, hst])⟩
  · rw [Contract.entry, Contract.entry, hst]; rfl
  · obtain rfl := Option.some.inj (hc.symm.trans hd)
    exact ContractState.waits.idle (.inr hst)
  · obtain rfl := Option.some.inj hd
    rfl

theorem State.retire_booked {P : CompId → Prop} {s : State} {sl : Slot} {c : Contract} (h : s.Booked P)
    (hc : s.slot sl = some c) (hst : c.state.finished = true) :
    (s.retire sl).Booked P ∧ ∀ i, Advances (s.slot i) ((s.retire sl).slot i) := by
  have hr : Rewrote s (s.retire sl) sl none := .set rfl
  have hno : c.entry = none ∧ c.state ≠ .picking ∧ c.isOpen = false := by
    unfold Contract.entry Contract.isOpen
    cases hs : c.state <;> simp_all [ContractState.finished, ContractState.indexed]
  obtain ⟨hent, hidle⟩ := hno
  refine ⟨⟨h.index.rewrite hr (fun d hd => by cases hd) h.index.2.1 fun x i => ?_,
    h.rented.idle hr (.of_eq rfl) (.of_eq rfl) (fun d hd => ?_) fun d hd => by cases hd⟩, hr.slots .refl ?_⟩
  · change (x, i) ∈ s.contracts.codes ↔ _
    by_cases e : i = sl
    · subst e
      rw [h.index.mem_codes, hc]
      simp [hent]
    · simp [e]
  · obtain rfl := Option.some.inj (hc.symm.trans hd)
    exact hidle
  · rw [hc]
    cases hs : c.state <;> simp_all [ContractState.finished, Advances, transitionAllowed]

/-! ### Pickups and returns (R68, R76) -/

/-- A PICKUP release is placed for a contract that picks its key and has no other (R18, R68). -/
theorem State.Booked.place {s t : State} {n : CompId} {x : Nat} {k : KeyId} (h : s.Booked fun _ => True)
    (hpick : s.Picks x k) (hno : s.Unsought (fun _ => True) x) (hc : t.contracts = s.contracts)
    (hk : t.keys = s.keys) (hp : ∀ m p, (t.comp m).pickup? = some p →
      m = n ∧ p = (x, k) ∨ m ≠ n ∧ (s.comp m).pickup? = some p) : t.Booked fun _ => True := by
  have hb : t.Booked (· ≠ n) := by
    have hl := (SamePlaces.of_eq hk).loc
    refine ⟨h.index.of_eq hc, fun m y j hm hpu => ?_, fun m m' y j j' hm h1 h2 => ?_, fun j y hj => ?_,
      fun sl d hd ho => ?_⟩
    · obtain ⟨e, -⟩ | ⟨-, hpu⟩ := hp m _ hpu
      · exact absurd e hm
      · exact (h.rented.pickups m y j trivial hpu).of_eq hc
    · obtain ⟨e, -⟩ | ⟨-, h1⟩ := hp m _ h1
      · exact absurd e hm
      obtain ⟨rfl, e⟩ | ⟨-, h2⟩ := hp m' _ h2
      · obtain ⟨rfl, rfl⟩ := Prod.mk.inj e
        exact absurd h1 (hno m j trivial)
      · exact h.rented.alone m m' y j j' trivial h1 h2
    · obtain ⟨sl, d, hd, hx⟩ := h.rented.out j y ((hl j).symm.trans hj)
      exact ⟨sl, d, (State.slot_of_eq hc sl).trans hd, hx⟩
    · obtain ⟨j, hj, hjl⟩ := h.rented.handed sl d ((State.slot_of_eq hc sl).symm.trans hd) ho
      exact ⟨j, hj, (hl j).trans hjl⟩
  refine ⟨hb.index, fun m y j _ hpu => ?_, fun m m' y j j' _ h1 h2 => ?_, hb.rented.out, hb.rented.handed⟩
  · obtain ⟨-, e⟩ | ⟨hm, -⟩ := hp m _ hpu
    · obtain ⟨rfl, rfl⟩ := Prod.mk.inj e
      exact hpick.of_eq hc
    · exact hb.rented.pickups m y j hm hpu
  · obtain ⟨rfl, e⟩ | ⟨hm, -⟩ := hp m _ h1
    · obtain ⟨rfl, rfl⟩ := Prod.mk.inj e
      obtain ⟨rfl, -⟩ | ⟨-, h2⟩ := hp m' _ h2
      · rfl
      · exact absurd h2 (hno m' j' trivial)
    · exact hb.rented.alone m m' y j j' hm h1 h2

theorem State.modifyContract_eq {s : State} {x : Nat} {sl : Slot} (h : s.slotOf x = some sl)
    (f : Contract → Contract) : s.modifyContract x f = s.modifySlot sl f := by
  unfold State.modifyContract
  rw [h]

/-- A started pickup keeps the laws and moves its contract from TICKET to PICKING; an undone one leaves it TICKET (R68). -/
theorem State.startPickup_booked {s t : State} {sl : Slot} {c : Contract} {k : KeyId} {o : Origin}
    (h : s.Booked fun _ => True) (hsl : s.slot sl = some c) (hst : c.state = .ticket)
    (ht : (∃ n, s.startPickup c.number k o = .started n t) ∨ s.startPickup c.number k o = .undone t) :
    t.Booked (fun _ => True) ∧ ∀ i, Advances (s.slot i) (t.slot i) := by
  have hof : s.slotOf c.number = some sl := (State.slotOf_iff h.index.numbered).mpr ⟨c, hsl, rfl⟩
  obtain e | ⟨r, n, -, -, -, hcase⟩ := s.startPickup_cases c.number k o
  · rw [e] at ht
    obtain ⟨_, h⟩ | h := ht <;> cases h
  have hofp : (s.promised c.number k r.group).slotOf c.number = some sl := hof
  have hstill := s.promised_still c.number k r.group
  have hpp : FewerPickups s (s.promised c.number k r.group) := .of_eq rfl
  have hpslots : (s.promised c.number k r.group).contracts = s.contracts := rfl
  have hpsl : (s.promised c.number k r.group).slot sl = some c := (State.slot_of_eq hpslots sl).trans hsl
  have hb0 := h.of_calm hpslots hstill.places hpp
  generalize s.promised c.number k r.group = u at hcase hofp hpslots hpsl hb0
  have hidle : ∀ d, u.slot sl = some d → d.state ≠ .picking ∧ d.isOpen = false := fun d hd => by
    obtain rfl := Option.some.inj (hpsl.symm.trans hd)
    exact ContractState.waits.idle (.inl hst)
  obtain ⟨v, hv, e⟩ | e := hcase <;> rw [e] at ht
  · obtain ⟨_, ht⟩ | ht := ht <;> cases ht
    rw [State.modifyContract_eq hofp] at hv
    have hr : Rewrote u (u.modifySlot sl (Contract.toPicking k r.group)) sl (some (c.toPicking k r.group)) :=
      .modify hpsl rfl
    have hb1 : (u.modifySlot sl (Contract.toPicking k r.group)).Booked fun _ => True := by
      refine ⟨hb0.index.keep hpsl hr rfl ?_ rfl, hb0.rented.idle hr (.of_eq rfl) (.of_eq rfl) hidle fun d hd => ?_⟩
      · rw [Contract.entry, Contract.entry, hst]; rfl
      · obtain rfl := Option.some.inj hd
        rfl
    have hno : u.Unsought (fun _ => True) c.number := fun m j _ hm => by
      obtain ⟨i, d, hd, hx, hp, -⟩ := hb0.rented.pickups m _ j trivial hm
      obtain rfl := hb0.index.1 i sl d c hd hpsl hx
      exact (hidle d hd).1 hp
    obtain ⟨hkeys, hcon⟩ := State.requestRelease_frame hv
    refine ⟨hb1.place (n := n) ⟨sl, _, hr.self, rfl, rfl, rfl⟩ (hno.fewer (.of_eq rfl)) hcon hkeys fun m p hp => ?_,
      fun i => ?_⟩
    · have hp := (State.requestRelease_calm hv).pickup m p hp
      by_cases e : n = m
      · subst e
        rw [State.modifyComp_comp_self] at hp
        exact .inl ⟨rfl, (Option.some.inj hp).symm⟩
      · rw [State.modifyComp_comp_ne _ _ e] at hp
        exact .inr ⟨Ne.symm e, hp⟩
    · rw [State.slot_of_eq hcon, ← State.slot_of_eq hpslots]
      exact hr.slots .refl (R := Advances) (by rw [hpsl]; simp [Advances, transitionAllowed, hst, Contract.toPicking]) i
  · obtain ⟨_, ht⟩ | ht := ht <;> cases ht
    have hof1 : (u.modifySlot sl (Contract.toPicking k r.group)).slotOf c.number = some sl := by
      rw [← State.modifyContract_eq hofp, u.modifyContract_slotOf c.number (f := Contract.toPicking k r.group) fun _ => rfl,
        hofp]
    rw [State.modifyContract_eq hofp, State.modifyContract_eq hof1]
    have hr : Rewrote u ((u.modifySlot sl (Contract.toPicking k r.group)).modifySlot sl Contract.toTicket) sl
        (some (c.toPicking k r.group).toTicket) :=
      Rewrote.trans (.modify hpsl rfl) (.modify (by rw [State.modifySlot_slot_self, hpsl]; rfl) rfl)
    have hq : Quiet ((u.modifySlot sl (Contract.toPicking k r.group)).modifySlot sl Contract.toTicket)
        ((((u.modifySlot sl (Contract.toPicking k r.group)).modifySlot sl Contract.toTicket).clearPromise k).reexamine
          s.joinMinute k) :=
      Quiet.trans (t := State.clearPromise _ k) (.of_calm rfl (State.clearPromise_places _ _) (.of_eq rfl))
        (State.reexamine_quiet _ _ _)
    refine hq.after ⟨⟨hb0.index.keep hpsl hr rfl ?_ rfl,
      hb0.rented.idle hr (.of_eq rfl) (.of_eq rfl) hidle fun d hd => ?_⟩, fun i => ?_⟩
    · rw [Contract.entry, Contract.entry, hst]; rfl
    · obtain rfl := Option.some.inj hd
      rfl
    · rw [← State.slot_of_eq hpslots]
      exact hr.slots .refl (R := Advances)
        (by rw [hpsl]; simp [Advances, transitionAllowed, hst, Contract.toTicket]) i

/-- A recognised return is that of a contract in OUT (R75). -/
theorem State.recognised_out {s u : State} {tag x : Nat} {k : KeyId} (h : s.recognised tag = some (x, k))
    (hc : u.contracts = s.contracts) : u.contractState x = some .out := by
  rw [State.contractState_of_eq hc]
  unfold State.recognised at h
  split at h
  · cases h
  split at h
  · split at h
    · next hx => cases h; exact hx
    · cases h
  · cases h

/-- A taken return opens no door for a contract but its own, which goes from OUT to RETURNING (R76). -/
theorem State.answerTag_booked {s t : State} {tag : Nat} {n : CompId} (h : s.Booked fun _ => True)
    (ht : s.answerTag tag = (.taken n, t)) :
    t.Booked (fun _ => True) ∧ ∀ i, Advances (s.slot i) (t.slot i) := by
  obtain ⟨x, k, u, hrec, hu, rfl⟩ := State.answerTag_taken ht
  obtain ⟨hkeys, hcon⟩ := State.requestRelease_frame hu
  have hcalm := (State.placed_calm (State.requestRelease_ok hu).1 fun _ _ => Purpose.noConfusion).trans
    (State.requestRelease_calm hu)
  have hb := h.of_calm hcon (.of_eq hkeys) hcalm.pickup
  obtain ⟨c, hc, hco⟩ := Option.map_eq_some_iff.mp (State.recognised_out hrec hcon)
  obtain ⟨sl, -, hturn⟩ := State.modifyContract_turned (f := fun c => { c with state := .returning }) hc rfl rfl
  refine ⟨hturn.open_booked (Contract.isOpen_iff.mpr (.inl hco)) (Contract.isOpen_iff.mpr (.inr rfl)) rfl
    (State.modifyContract_still _ _ _).places (.of_eq (State.modifyContract_keys _ _ _).2) hb, fun i => ?_⟩
  rw [← State.slot_of_eq hcon]
  exact hturn.rewrote.slots .refl (R := Advances) (by rw [hturn.held]; simp [Advances, transitionAllowed, hco]) i

/-! ### Closings by message and by the chute (R80, R103-R105) -/

theorem State.forceClose_settling {s : State} {sl : Slot} {c : Contract} (hsl : s.slot sl = some c)
    (ho : c.isOpen = true) : Settling (fun _ => True) (fun _ => True) s (s.forceClose c) := fun h => by
  obtain ⟨k, hk, hloc⟩ := h.rented.handed sl c hsl ho
  have hset : Settling (fun _ => True) (fun _ => True) s
      (((s.closeContract c.number .forceClosed s.present none).cancelReturn c.number).moveKey k .missing) :=
    .of_closed trivial hloc (fun x => by simp)
      ((State.moveKey_frame _ _ _).1.trans (State.cancelReturn_contracts (s.closeContract_notReturning _ _ _ _)))
      (.after ((s.closeContract_still _ _ _ _).trans (State.cancelReturn_still _ _)) (State.moveKey_moved _ _ _))
      ((FewerPickups.of_eq (s.closeContract_compartments _ _ _ _)).trans
        (FewerPickups.trans (State.cancelReturn_calm _ _).pickup (State.moveKey_fewer _ _ _)))
  unfold State.forceClose
  dsimp only
  rw [hk]
  exact hset.trans (State.reexamine_settling _ _ _) h

theorem State.keyDropped_frame (s : State) (k : KeyId) : (s.keyDropped k).contracts = s.contracts
    ∧ FewerPickups s (s.keyDropped k) :=
  ⟨(s.moveKey_frame k .drop).1, (s.moveKey_fewer k .drop).trans (.of_eq rfl)⟩

theorem State.dropReturn_settling {s : State} {k : KeyId} {x : Nat} (hloc : s.loc k = some (.out x)) (m : Option Nat) :
    Settling (fun _ => True) (fun _ => True) s (s.dropReturn k x m) := by
  refine Settling.trans (t := ((s.closeContract x .drop m none).cancelReturn x).keyDropped k) ?_
    (State.reexamine_settling _ _ _)
  refine .of_closed (n := none) (l := .drop) trivial hloc (fun x => by simp) ((State.keyDropped_frame _ _).1.trans
    (State.cancelReturn_contracts (s.closeContract_notReturning _ _ _ _))) ?_ ?_
  · exact .after ((s.closeContract_still _ _ _ _).trans (State.cancelReturn_still _ _)) (State.keyDropped_moved _ _)
  · exact (FewerPickups.of_eq (s.closeContract_compartments _ _ _ _)).trans
      (FewerPickups.trans (State.cancelReturn_calm _ _).pickup (State.keyDropped_frame _ _).2)

theorem State.dropOther_settling {s : State} {k : KeyId} {l : Location} (hl : s.loc k = some l)
    (hx : ∀ x, l ≠ .out x) : Settling (fun _ => True) (fun _ => True) s (s.dropOther k l) := by
  have h1 : Settling (fun _ => True) (fun _ => True) s (s.keyDropped k) :=
    .of_moved (s.keyDropped_moved k) (fun x e => hx x (Option.some.inj (hl.symm.trans e))) (fun x => by simp)
      (s.keyDropped_frame k).1 (s.keyDropped_frame k).2
  unfold State.dropOther
  dsimp only
  split
  · exact h1.trans (Settling.trans (.of_calm (State.requestSweep_contracts _ _)
      (.of_eq (State.requestSweep_keys _ _)) (State.requestSweep_calm _ _).pickup)
      ((State.withdrawPromise_settling _ _ _).trans (State.reexamineAll_settling _ _ _)))
  all_goals exact h1

theorem State.dropKey_settling (s : State) (x : Nat) (k : KeyId) (m : Option Nat) :
    Settling (fun _ => True) (fun _ => True) s (s.dropKey x k m) := by
  have ha : ∀ e, Settling (fun _ => True) (fun _ => True) s (s.appendDrop e) := fun e => .of_eq rfl rfl rfl
  unfold State.dropKey
  split
  · exact .of_eq rfl rfl rfl
  · next y hl =>
    exact (ha _).trans (State.dropReturn_settling (s := s.appendDrop { tag := some x, key := some k, minute := m
                                                                       contract := some y }) hl m)
  · next l hno hl =>
    exact (ha _).trans (State.dropOther_settling (s := s.appendDrop { tag := some x, key := some k, minute := m
                                                                      contract := none }) hl hno)

theorem State.chute_settling (s : State) (tag : Option Nat) :
    Settling (fun _ => True) (fun _ => True) s (s.chute tag) := by
  obtain h | ⟨x, k, -, h⟩ := s.chute_cases tag
  · exact .of_same h
  · exact (s.dropKey_settling x k _).trans (.of_same h)

theorem State.takeAllFromDrop_settling {K : KeyId → Prop} {P : CompId → Prop} (s : State) (ks : List KeyId) :
    Settling K P s (ks.foldl State.takeFromDrop s) := by
  induction ks generalizing s with
  | nil => exact .of_eq rfl rfl rfl
  | cons k ks ih =>
    refine Settling.trans ?_ (ih _)
    obtain hs | ⟨hl, hm⟩ := s.takeFromDrop_moved k
    · exact .of_calm rfl hs.places (.of_eq rfl)
    · exact .of_moved hm (fun x => by simp [hl]) (fun x => by simp) rfl (.of_eq rfl)

/-! ### Every operation -/

theorem State.modifyComp_fewer {s : State} {n : CompId} {f : Compartment → Compartment}
    (hf : ∀ c, (f c).release = c.release) : FewerPickups s (s.modifyComp n f) := fun m p hp => by
  by_cases e : n = m
  · subst e
    rwa [State.modifyComp_comp_self, Compartment.pickup?, hf] at hp
  · rwa [State.modifyComp_comp_ne _ _ e] at hp

theorem State.forceOpen_settling (s : State) (n : CompId) :
    Settling (fun _ => True) (fun _ => True) s (s.forceOpen n) := by
  have hm : ∀ b, Settling (fun _ => True) (fun _ => True) s
      ((s.modifyComp n fun c => { c with door := .forcedOpen, forced := true }).enter b) := fun b =>
    .of_calm rfl (.of_eq rfl) ((State.modifyComp_fewer (f := fun c => { c with door := .forcedOpen, forced := true })
      fun _ => rfl).trans (.of_eq rfl))
  have hq : ∀ u : State, Settling (fun _ => True) (fun _ => True) u (u.withCompartments
      { u.compartments with queue := u.compartments.queue.filter (· != n) }) := fun u =>
    .of_calm rfl (.of_eq rfl) (u.unqueue_calm n).pickup
  unfold State.forceOpen
  dsimp only
  split
  · exact ((hm _).trans (hq _)).trans (State.endRelease_settling _ _ fun _ _ _ _ _ _ => trivial)
  case h_2 | h_3 => exact (hm _).trans (.of_same (State.withdrawEntry_same _ _))
  all_goals exact hm _

theorem State.outOfService_settling (s : State) (n : CompId) :
    Settling (fun _ => True) (fun _ => True) s (s.outOfService n) := by
  have hm : Settling (fun _ => True) (fun _ => True) s (s.modifyComp n fun c => { c with service := .outOfService }) :=
    .of_calm rfl (.of_eq rfl) (State.modifyComp_fewer fun _ => rfl)
  unfold State.outOfService
  split
  · exact .of_eq rfl rfl rfl
  · exact hm.trans (State.reexamineAll_settling _ _ _)

theorem State.backInService_settling (s : State) (n : CompId) :
    Settling (fun _ => True) (fun _ => True) s (s.backInService n) := by
  have hm : Settling (fun _ => True) (fun _ => True) s (s.modifyComp n fun c => { c with service := .inService }) :=
    .of_calm rfl (.of_eq rfl) (State.modifyComp_fewer fun _ => rfl)
  unfold State.backInService
  split
  · exact .of_eq rfl rfl rfl
  · exact hm.trans (.of_calm (State.requestSweep_contracts _ _) (.of_eq (State.requestSweep_keys _ _))
      (State.requestSweep_calm _ _).pickup)

/-- A new key is not OUT, and neither is a key whose place becomes free. -/
theorem State.Booked.of_key {s t : State} {P : CompId → Prop} {k : KeyId} (h : s.Booked P)
    (hc : t.contracts = s.contracts) (hk : ∀ j, j ≠ k → t.key j = s.key j) (hs : ∀ x, s.loc k ≠ some (.out x))
    (ht : ∀ x, t.loc k ≠ some (.out x)) (hp : FewerPickups s t) : t.Booked P :=
  h.of_outs hc (fun j x => by
    by_cases e : j = k
    · subst e; exact iff_of_false (ht x) (hs x)
    · rw [State.loc, hk j e]; rfl) hp

theorem State.enrol_booked {P : CompId → Prop} {s : State} {k : KeyId} {tag : Nat} {f : KeyFields}
    (h : s.Booked P) (hfree : s.key k = none) :
    (s.enrol k tag f).Booked P ∧ (s.enrol k tag f).contracts = s.contracts := by
  unfold State.enrol
  dsimp only
  generalize hr : (⟨tag, _, _, _, _, _, _, _, _, _, _⟩ : KeyRecord) = record
  have hloc : record.location = .staffHand := by rw [← hr]
  generalize hu : s.withKeys { s.keys with places := s.keys.places.set k (some record) } = u
  generalize s.holdersOf tag = ns
  have hcon : u.contracts = s.contracts := by rw [← hu]; rfl
  have hkey : u.key k = some record := by rw [← hu]; exact Table.get_set_self _ _ _
  have hb : u.Booked P := by
    refine h.of_key (k := k) hcon (fun j hj => ?_) (fun x => ?_) (fun x => ?_) (.of_eq ?_)
    · rw [← hu]; exact Table.get_set_ne _ _ (Ne.symm hj)
    · simp [State.loc, hfree]
    · simp [State.loc, hkey, hloc]
    · rw [← hu]; rfl
  obtain ⟨hk, hc⟩ := State.requestSweeps_same u ns
  exact ⟨hb.of_calm hc (.of_eq hk) (State.requestSweeps_calm u ns).pickup, hc.trans hcon⟩

theorem State.removeKey_booked {P : CompId → Prop} {s : State} {k : KeyId} {r : KeyRecord} (h : s.Booked P)
    (hk : s.key k = some r) (hl : r.location.fixed = false) : (s.removeKey k).Booked P := by
  have hself : (s.removeKey k).key k = none := Table.get_set_self _ _ _
  refine h.of_key (k := k) rfl (fun j hj => Table.get_set_ne _ _ (Ne.symm hj)) (fun x e => ?_) (fun x => ?_)
    (.of_eq rfl)
  · rw [State.loc, hk, Option.map_some] at e
    rw [Option.some.inj e] at hl
    cases hl
  · simp [State.loc, hself]

theorem State.rewriteKey_settling {K : KeyId → Prop} {P : CompId → Prop} (s : State) (k : KeyId)
    {f : KeyRecord → KeyRecord} (hf : ∀ r, (f r).place = r.place) (m : Nat) :
    Settling K P s ((s.modifyKey k f).reexamine m k) :=
  Settling.trans (t := s.modifyKey k f) (.of_calm rfl (.modifyKey hf) (.of_eq rfl)) (State.reexamine_settling _ _ _)

theorem State.editKey_frame (s : State) (k : KeyId) (r : KeyRecord) (f : KeyFields) :
    ∃ x, s.editKey k r f = s.withKeys x := by
  unfold State.editKey
  dsimp only
  split
  · exact ⟨_, rfl⟩
  · exact ⟨_, rfl⟩

/-- Every operation keeps the laws of the contract table and moves each slot's contract by a transition of R59. -/
theorem Op.booked {s t : State} (h : Op s t) (hl : s.LocationOk) (hs : s.Booked fun _ => True) :
    t.Booked (fun _ => True) ∧ ∀ sl, Advances (s.slot sl) (t.slot sl) := by
  have settle : ∀ {t : State}, Settling (fun _ => True) (fun _ => True) s t →
      t.Booked (fun _ => True) ∧ ∀ sl, Advances (s.slot sl) (t.slot sl) := fun h =>
    ⟨(h hs).1, fun sl => ((h hs).2 sl).advances⟩
  have calm : ∀ {t : State}, Calm s t → t.keys = s.keys → t.contracts = s.contracts →
      t.Booked (fun _ => True) ∧ ∀ sl, Advances (s.slot sl) (t.slot sl) := fun h hk hc =>
    settle (.of_calm hc (.of_eq hk) h.pickup)
  have same : ∀ {t : State}, t.contracts = s.contracts → t.Booked (fun _ => True) →
      t.Booked (fun _ => True) ∧ ∀ sl, Advances (s.slot sl) (t.slot sl) := fun hc hb =>
    ⟨hb, fun sl => by rw [State.slot_of_eq hc]; exact .refl _⟩
  cases h with
  | nothing => exact settle (.of_eq rfl rfl rfl)
  | enrol hfree hnew =>
    obtain ⟨h1, h2⟩ := State.enrol_booked hs hfree
    exact same h2 h1
  | editKey hk =>
    obtain ⟨x, hx⟩ := s.editKey_frame _ _ _
    exact settle (.of_calm (by rw [hx]; rfl) (s.editKey_still _ _ _).places (.of_eq (by rw [hx]; rfl)))
  | removeKey hk hn hl => exact same rfl (State.removeKey_booked hs hk hl)
  | holdKey hk =>
    unfold State.holdKey
    split
    · exact settle (.of_eq rfl rfl rfl)
    · refine settle (State.rewriteKey_settling _ _ (fun _ => ?_) _)
      rfl
  | checkKey hk =>
    unfold State.checkKey
    split
    · exact settle (.of_eq rfl rfl rfl)
    · refine settle (State.rewriteKey_settling _ _ (fun _ => ?_) _)
      rfl
  | issue hsl hst hnum hcode => exact State.issue_booked hs hsl hst hnum hcode
  | amend hsl hst hcode => exact State.amend_booked hs hsl hst hcode
  | voidTicket hsl hst =>
    exact (State.reexamineClaim_quiet _ _).after (State.endTicket_booked hs hsl hst (.inl rfl))
  | resumeTicket hsl hst => exact State.resumeTicket_booked hs hsl hst
  | retire hsl hst => exact State.retire_booked hs hsl hst
  | pickup hsl hst ht => exact State.startPickup_booked hs hsl hst (.inl ⟨_, ht⟩)
  | pickupUndone hsl hst ht => exact State.startPickup_booked hs hsl hst (.inr ht)
  | returnStarted ht => exact State.answerTag_booked hs ht
  | release hr ht =>
    refine calm ((State.placed_calm (State.requestRelease_ok ht).1 fun x k e => ?_).trans
      (State.requestRelease_calm ht)) (State.requestRelease_frame ht).1 (State.requestRelease_frame ht).2
    obtain ⟨b, hb⟩ | hb := hr <;> rw [hb] at e <;> cases e
  | cancel ht => exact settle (State.cancelRelease_settling ht fun _ _ _ _ _ _ => trivial)
  | forceClose hsl hst => exact settle (State.forceClose_settling hsl hst)
  | outOfService => exact settle (s.outOfService_settling _)
  | backInService => exact settle (s.backInService_settling _)
  | requestSweep =>
    exact calm (s.requestSweep_calm _) (State.requestSweep_keys _ _) (State.requestSweep_contracts _ _)
  | sweepAll => exact calm s.sweepAll_calm (State.requestSweeps_same s _).1 (State.requestSweeps_same s _).2
  | openUnder => exact calm (s.openUnder_calm _) (s.openUnder_keys _).1 (s.openUnder_keys _).2
  | forceOpen => exact settle (s.forceOpen_settling _)
  | closeDoor => exact calm (s.closeDoor_calm _) rfl rfl
  | windowEnd hd => exact settle (State.unlatched_settling hd _ _ fun _ _ _ _ _ _ => trivial)
  | holdEnd => exact calm (s.holdEnd_calm _) rfl rfl
  | scan => exact State.completeRead_booked hl hs _ _
  | chute => exact settle (s.chute_settling _)
  | clearDrop =>
    exact settle ((State.takeAllFromDrop_settling s _).trans (.of_same s.clearDrop_same.toSameRecords))
  | visitSlot => exact State.visitSlot_booked hs _ _
  | clearForced => exact calm s.clearForced_calm rfl rfl
  | count => exact calm s.countAll_calm rfl rfl

end Sys2Proof.Machine
end

section
/-! SUPPORT. The laws of the contract table through a start (R83, R186), and O57: a step either is an operation, or makes
a start. -/

namespace Sys2Proof.Machine

/-! ### Starts -/

theorem State.takeAllFromDrop_frame (s : State) (ks : List KeyId) :
    ∃ x, ks.foldl State.takeFromDrop s = s.withKeys x := by
  induction ks generalizing s with
  | nil => exact ⟨s.keys, rfl⟩
  | cons k ks ih =>
    obtain ⟨x, hx⟩ := ih (s.takeFromDrop k)
    exact ⟨x, hx⟩

/-- The staff door's reading keeps compartments and contracts, and the laws of the contract table (R112). -/
theorem State.readStaffDoor_booked {P : CompId → Prop} {s : State} (h : s.Booked P) (cold : Bool) :
    (s.readStaffDoor cold).Booked P ∧ (s.readStaffDoor cold).contracts = s.contracts := by
  obtain ⟨-, hs⟩ | ⟨-, hs⟩ := State.readStaffDoor_cases cold s
  · exact ⟨h.of_calm hs.contracts (.of_eq hs.keys) (.of_eq hs.compartments), hs.contracts⟩
  · obtain ⟨x, hx⟩ := State.takeAllFromDrop_frame (s.withDrop { s.drop with staffDoor := .closed })
      (s.drop.entries.filterMap DropEntry.key)
    have h0 : (s.withDrop { s.drop with staffDoor := .closed }).Booked P := h.of_calm rfl (.of_eq rfl) (.of_eq rfl)
    have h1 := (State.takeAllFromDrop_settling (K := fun _ => True) (s.withDrop { s.drop with staffDoor := .closed })
      (s.drop.entries.filterMap DropEntry.key) h0).1
    refine ⟨h1.of_calm hs.contracts (.of_eq hs.keys) (.of_eq hs.compartments), hs.contracts.trans ?_⟩
    rw [hx]; rfl

theorem Contract.rollBack_spec (c : Contract) : c.rollBack.number = c.number ∧ c.rollBack.entry = c.entry
    ∧ c.rollBack.rents = c.rents ∧ c.rollBack.state ≠ .picking ∧ Advances (some c) (some c.rollBack) := by
  unfold Contract.rollBack Contract.entry Contract.rents Contract.isOpen Advances
  cases hs : c.state <;> simp [hs, ContractState.indexed, transitionAllowed]

/-- No compartment has a release after a start has ended what was in flight (R39). -/
theorem State.startTables_pickups (s : State) (cold : Bool) (n : CompId) :
    ((s.startTables cold).readField.comp n).pickup? = none := by
  have pin : ∀ (h : Nat) (c : Compartment) (b : Bool), c.release = none → (c.fromPin h b).pickup? = none := by
    intro h c b hc
    rw [Compartment.fromPin]
    split <;> rw [Compartment.pickup?, hc]
  cases cold with
  | false =>
    change ((((s.compartments.table.map Compartment.atRest).map fun c => { c with known := false }).zipWith
      (Compartment.fromPin _) s.doorPins).get n).pickup? = none
    rw [Table.get_zipWith, Table.get_map, Table.get_map]
    exact pin _ _ _ rfl
  | true =>
    change (((Table.replicate 192 Compartment.cold).zipWith (Compartment.fromPin _) s.doorPins).get n).pickup? = none
    rw [Table.get_zipWith, Table.get_replicate]
    exact pin _ _ _ rfl

theorem State.startTables_slot (s : State) (sl : Slot) :
    (s.startTables false).readField.slot sl = (s.slot sl).map Contract.rollBack
      ∧ (s.startTables true).readField.slot sl = none :=
  ⟨Table.get_map _ _ _, Table.get_replicate _ _⟩

/-- A warm start's tables keep the laws: PICKING is TICKET again and RETURNING is OUT, with no release in flight (R83). -/
theorem State.startTables_booked {s : State} (h : s.Booked fun _ => True) (cold : Bool) :
    (s.startTables cold).readField.Booked fun _ => True := by
  have hno := s.startTables_pickups cold
  cases cold with
  | false =>
    have hslot : ∀ sl, (s.startTables false).readField.slot sl = (s.slot sl).map Contract.rollBack :=
      fun sl => (s.startTables_slot sl).1
    have hcodes : (s.startTables false).readField.contracts.codes = s.contracts.codes := rfl
    have hl := s.startTables_warm.places.loc
    generalize (s.startTables false).readField = t at hno hslot hcodes hl
    refine ⟨⟨fun i j c d hc hd hcd => ?_, hcodes ▸ h.index.2.1, fun x sl => ?_⟩, fun n x k _ hp => ?_,
      fun n m x k k' _ hp => ?_, fun k x hk => ?_, fun sl d hd ho => ?_⟩
    · rw [hslot] at hc hd
      obtain ⟨a, ha, rfl⟩ := Option.map_eq_some_iff.mp hc
      obtain ⟨b, hb, rfl⟩ := Option.map_eq_some_iff.mp hd
      exact h.index.1 i j a b ha hb (by rwa [a.rollBack_spec.1, b.rollBack_spec.1] at hcd)
    · rw [hcodes, h.index.mem_codes, hslot]
      cases s.slot sl with
      | none => simp
      | some c => simp [← Contract.entry_eq_some, c.rollBack_spec.2.1]
    · rw [hno] at hp; cases hp
    · rw [hno] at hp; cases hp
    · obtain ⟨sl, c, hc, hx, ho, hkey⟩ := h.rented.out k x ((hl k).symm.trans hk)
      have hr := c.rollBack_spec.2.2.1.trans (Contract.rents_eq_some.mpr ⟨ho, hx, hkey⟩)
      obtain ⟨ho', hx', hkey'⟩ := Contract.rents_eq_some.mp hr
      exact ⟨sl, c.rollBack, by rw [hslot, hc]; rfl, hx', ho', hkey'⟩
    · rw [hslot] at hd
      obtain ⟨c, hc, rfl⟩ := Option.map_eq_some_iff.mp hd
      have hr := c.rollBack_spec.2.2.1.symm.trans (Contract.rents_eq_some.mpr ⟨ho, rfl, rfl⟩)
      obtain ⟨ho', hx', hkey'⟩ := Contract.rents_eq_some.mp hr
      obtain ⟨k, hk, hkl⟩ := h.rented.handed sl c hc ho'
      exact ⟨k, hkey'.symm.trans hk, by rw [hl, ← hx']; exact hkl⟩
  | true =>
    have hslot : ∀ sl, (s.startTables true).readField.slot sl = none := fun sl => (s.startTables_slot sl).2
    have hcodes : (s.startTables true).readField.contracts.codes = [] := rfl
    have hl := s.startTables_cold.1
    generalize (s.startTables true).readField = t at hno hslot hcodes hl
    refine ⟨⟨fun i j c d hc => ?_, hcodes ▸ List.Pairwise.nil, fun x sl => ?_⟩, fun n x k _ hp => ?_,
      fun n m x k k' _ hp => ?_, fun k x hk => ?_, fun sl d hd => ?_⟩
    · rw [hslot] at hc; cases hc
    · rw [hcodes, hslot]; simp
    · rw [hno] at hp; cases hp
    · rw [hno] at hp; cases hp
    · rw [State.loc, hl] at hk; cases hk
    · rw [hslot] at hd; cases hd

/-- A start keeps the laws of the contract table; a warm one moves contracts by R59, a cold one empties every slot. -/
theorem State.start_booked {s : State} (h : s.Booked fun _ => True) (cold m : Bool) :
    (s.start cold m).Booked (fun _ => True)
      ∧ (cold = false → ∀ sl, Advances (s.slot sl) ((s.start cold m).slot sl))
      ∧ (cold = true → ∀ sl, (s.start cold m).slot sl = none) := by
  have hs := State.start_same cold m s
  obtain ⟨h1, h2⟩ := State.readStaffDoor_booked (State.startTables_booked h cold) cold
  have hslot : ∀ sl, (s.start cold m).slot sl = (s.startTables cold).readField.slot sl := fun sl =>
    State.slot_of_eq (hs.contracts.trans h2) sl
  refine ⟨h1.of_calm hs.contracts (.of_eq hs.keys) (.of_eq hs.compartments), ?_, ?_⟩
  · rintro rfl sl
    rw [hslot, (s.startTables_slot sl).1]
    cases s.slot sl with
    | none => exact .refl _
    | some c => exact c.rollBack_spec.2.2.2.2
  · rintro rfl sl
    rw [hslot, (s.startTables_slot sl).2]

/-! ### O57 -/

/-- Settles O57: a step's records are those of one operation (`Op.located`, `Op.booked`) or of a start
(`State.start_located`, `State.start_booked`). -/
theorem locationsAndContractsAreKept : Obligations.LocationsAndContractsAreKept := by
  intro s t hstep hl
  have carry : ∀ {u v : State}, SameRecords u v → u.Booked (fun _ => True) → v.Booked fun _ => True :=
    fun h hb => hb.of_calm h.contracts (.of_eq h.keys) (.of_eq h.compartments)
  obtain ⟨a, ha, b, hop, hb⟩ | ⟨c, rest, cold, hp, a, m, ha, rfl, hc⟩ := step_cases hstep
  · have hla := hl.of_same ha.toSameRecords
    refine ⟨(hop.located hla).of_same hb, fun _ hx => ?_⟩
    obtain ⟨h1, h2⟩ := hop.booked hla (carry ha.toSameRecords (State.booked_iff.mp hx))
    refine ⟨State.booked_iff.mpr (carry hb h1), .inl fun sl => ?_⟩
    rw [hb.slot sl, ← ha.slot sl]
    exact h2 sl
  · refine ⟨State.start_located (hl.of_same ha.toSameRecords) cold m, fun _ hx => ?_⟩
    obtain ⟨h1, hwarm, hcold⟩ :=
      State.start_booked (carry ha.toSameRecords (State.booked_iff.mp hx)) cold m
    refine ⟨State.booked_iff.mpr h1, ?_⟩
    cases cold with
    | false =>
      refine .inl fun sl => ?_
      rw [← ha.slot sl]
      exact hwarm rfl sl
    | true => exact .inr ⟨⟨c, rest, hp, hc.imp id fun h => ⟨m, h⟩⟩, hcold rfl⟩

end Sys2Proof.Machine
end

section
/-! SUPPORT. The availability lists: their order, what R5 allows, and what an operation does to a key's standing in
them (R4, R5, R6). -/

namespace Sys2Proof.Machine

/-! ### The order of the lists (R5) -/

/-- Every list is in its order and holds enrolled keys of its group. -/
def State.Ordered (s : State) : Prop :=
  ∀ g, (s.keys.lists.get g).Pairwise (fun a b => s.keys.before a b = true)
    ∧ ∀ k ∈ s.keys.lists.get g, ∃ r, s.key k = some r ∧ r.group = g

theorem KeyTable.before_iff {t : KeyTable} {a b : KeyId} :
    t.before a b = true ↔ t.idle a < t.idle b ∨ t.idle a = t.idle b ∧ a.val < b.val := by
  simp [KeyTable.before]

theorem KeyTable.before_trans {t : KeyTable} {a b c : KeyId} (h : t.before a b = true) (g : t.before b c = true) :
    t.before a c = true := by
  simp only [KeyTable.before_iff] at *
  omega

theorem KeyTable.before_total {t : KeyTable} {a b : KeyId} (h : a ≠ b) (g : ¬ t.before a b = true) :
    t.before b a = true := by
  simp only [KeyTable.before_iff] at *
  have : a.val ≠ b.val := fun e => h (Fin.ext e)
  omega

/-- A key placed in a sorted list keeps it sorted (R6). -/
theorem KeyTable.place_sorted {t : KeyTable} {k : KeyId} {l : List KeyId} (hk : k ∉ l)
    (h : l.Pairwise fun a b => t.before a b = true) : (t.place k l).Pairwise fun a b => t.before a b = true := by
  induction l with
  | nil => exact List.pairwise_singleton _ _
  | cons x xs ih =>
    obtain ⟨hx, hxs⟩ := List.pairwise_cons.mp h
    obtain ⟨hkx, hkxs⟩ := not_or.mp (List.mem_cons.not.mp hk)
    unfold KeyTable.place
    split
    · next hb =>
      refine List.pairwise_cons.mpr ⟨fun y hy => ?_, ih hkxs hxs⟩
      obtain rfl | hy := (KeyTable.mem_place _ _ _ _).mp hy
      · exact hb
      · exact hx y hy
    · next hb =>
      have hkx' := KeyTable.before_total (Ne.symm hkx) hb
      refine List.pairwise_cons.mpr ⟨fun y hy => ?_, h⟩
      obtain rfl | hy := List.mem_cons.mp hy
      · exact hkx'
      · exact KeyTable.before_trans hkx' (hx y hy)

/-- A key's group and its idle-since, by which it stands in a list. -/
def KeyRecord.rank (r : KeyRecord) : Group × Nat := (r.group, r.idleSince)

/-- Lists and ranks are those of `s`. -/
structure SameRanks (s t : State) : Prop where
  lists : t.keys.lists = s.keys.lists
  rank : ∀ k, (t.key k).map KeyRecord.rank = (s.key k).map KeyRecord.rank

theorem SameRanks.of_eq {s t : State} (h : t.keys = s.keys) : SameRanks s t :=
  ⟨by rw [h], fun k => by rw [State.key, h]; rfl⟩

theorem SameRanks.trans {s t u : State} (h : SameRanks s t) (g : SameRanks t u) : SameRanks s u :=
  ⟨g.lists.trans h.lists, fun k => (g.rank k).trans (h.rank k)⟩

theorem SameRanks.modifyKey (s : State) (k : KeyId) {f : KeyRecord → KeyRecord} (hf : ∀ r, (f r).rank = r.rank) :
    SameRanks s (s.modifyKey k f) := by
  refine ⟨rfl, fun j => ?_⟩
  by_cases e : k = j
  · subst e
    rw [State.modifyKey_key_self, Option.map_map]
    exact congrArg (fun g => Option.map g (s.key k)) (funext hf)
  · rw [State.modifyKey_key_ne _ _ e]

theorem KeyTable.idle_of_rank {s t : State} {k : KeyId}
    (h : (t.key k).map KeyRecord.rank = (s.key k).map KeyRecord.rank) : t.keys.idle k = s.keys.idle k := by
  have := congrArg (fun o => (o.map Prod.snd).getD 0) h
  rwa [Option.map_map, Option.map_map] at this

/-- With the lists as they were, only the ranks of the listed keys count. -/
theorem State.Ordered.of_listed {s t : State} (h : s.Ordered) (hl : t.keys.lists = s.keys.lists)
    (hr : ∀ g, ∀ k ∈ s.keys.lists.get g, (t.key k).map KeyRecord.rank = (s.key k).map KeyRecord.rank) :
    t.Ordered := by
  intro i
  obtain ⟨h1, h2⟩ := h i
  rw [hl]
  refine ⟨h1.imp_of_mem fun {a b} ha hb hab => ?_, fun k hk => ?_⟩
  · rw [KeyTable.before_iff] at hab ⊢
    rwa [KeyTable.idle_of_rank (hr i a ha), KeyTable.idle_of_rank (hr i b hb)]
  · obtain ⟨r, hrk, hg⟩ := h2 k hk
    have := hr i k hk
    rw [hrk] at this
    obtain ⟨r', hr', e⟩ := Option.map_eq_some_iff.mp this
    exact ⟨r', hr', (congrArg Prod.fst e).trans hg⟩

theorem State.Ordered.of_ranks {s t : State} (h : s.Ordered) (g : SameRanks s t) : t.Ordered :=
  h.of_listed g.lists fun _ k _ => g.rank k

/-! ### R5 and the lists, key by key -/

/-- Key `k` is in a compartment whose door is shut, or whose release waits for a channel. -/
def State.resting (s : State) (k : KeyId) : Prop := ∃ n, s.loc k = some (.compartment n) ∧ s.guarded n

theorem State.inList_iff {s : State} {k : KeyId} {r : KeyRecord} (h : s.key k = some r) :
    s.inList k = true ↔ k ∈ s.keys.lists.get r.group := by simp [State.inList, h]

theorem State.inList_of_none {s : State} {k : KeyId} (h : s.key k = none) : s.inList k = false := by
  simp [State.inList, h]

theorem State.available_of_none {s : State} {k : KeyId} (h : s.key k = none) : s.available k = false := by
  simp [State.available, State.dispensable, h]

/-- A key that is in no compartment is not available (R5). -/
theorem State.available_located {s : State} {k : KeyId} (h : s.available k = true) :
    ∃ n, s.loc k = some (.compartment n) ∧ (s.comp n).service = .inService ∧ (s.comp n).known = true
      ∧ (s.comp n).contents = [.key k] := by
  cases hk : s.key k with
  | none => rw [State.available_of_none hk] at h; cases h
  | some r =>
    obtain ⟨⟨n, hl, hn⟩, -⟩ := (State.available_iff hk).mp h
    exact ⟨n, by rw [State.loc, hk, Option.map_some, hl], hn⟩

theorem State.availOk_iff {s : State} :
    s.AvailOk ↔ s.Ordered ∧ ∀ k, s.inList k = true → s.available k = true := by
  have idle : ∀ {k x}, s.key k = some x → s.keys.idle k = x.idleSince := fun {k x} h => by
    rw [KeyTable.idle, show s.keys.places.get k = some x from h]; rfl
  have before : ∀ {a b x y}, s.key a = some x → s.key b = some y → (s.keys.before a b = true
      ↔ x.idleSince < y.idleSince ∨ (x.idleSince = y.idleSince ∧ a < b)) := fun ha hb => by
    rw [KeyTable.before_iff, idle ha, idle hb, Fin.lt_def]
  constructor
  · refine fun h => ⟨fun g => ?_, fun k hk => ?_⟩
    · obtain ⟨h1, h2⟩ := h g
      have hen : ∀ k ∈ s.keys.lists.get g, ∃ r, s.key k = some r ∧ r.group = g := fun k hk =>
        let ⟨r, hr, hg, _⟩ := h2 k hk
        ⟨r, hr, hg⟩
      refine ⟨h1.imp_of_mem fun {a b} ha hb hab => ?_, hen⟩
      obtain ⟨x, hx, -⟩ := hen a ha
      obtain ⟨y, hy, -⟩ := hen b hb
      exact (before hx hy).mpr (hab x y hx hy)
    · cases hr : s.key k with
      | none => rw [State.inList_of_none hr] at hk; cases hk
      | some r =>
        obtain ⟨r', hr', -, hm⟩ := (h r.group).2 k ((State.inList_iff hr).mp hk)
        exact (State.available_iff hr').mpr hm
  · rintro ⟨h1, h2⟩ g
    refine ⟨(h1 g).1.imp fun {a b} hab x y hx hy => (before hx hy).mp hab, fun k hk => ?_⟩
    obtain ⟨r, hr, rfl⟩ := (h1 g).2 k hk
    exact ⟨r, hr, rfl, (State.available_iff hr).mp (h2 k ((State.inList_iff hr).mpr hk))⟩

theorem State.availExact_iff {s : State} : s.AvailExact ↔ ∀ k, s.available k = true → s.inList k = true := by
  constructor
  · intro h k hk
    cases hr : s.key k with
    | none => rw [State.available_of_none hr] at hk; cases hk
    | some r => exact (State.inList_iff hr).mpr (h k r hr ((State.available_iff hr).mp hk))
  · exact fun h k r hr hm => (State.inList_iff hr).mp (h k ((State.available_iff hr).mpr hm))

theorem State.availBehindDoors_iff {s : State} : s.AvailBehindDoors ↔ ∀ k n, s.available k = true →
    s.loc k = some (.compartment n) → (s.comp n).door.shut = true → s.inList k = true := by
  constructor
  · intro h k n ha hl hd
    cases hk : s.key k with
    | none => rw [State.available_of_none hk] at ha; cases ha
    | some r =>
      rw [State.loc, hk] at hl
      exact (State.inList_iff hk).mpr (h k r n hk ((State.available_iff hk).mp ha) (Option.some.inj hl)
        (DoorState.shut_iff.mp hd))
  · exact fun h k r n hr hm hl hd => (State.inList_iff hr).mp (h k n ((State.available_iff hr).mpr hm)
      (by rw [State.loc, hr, Option.map_some, hl]) (DoorState.shut_iff.mpr hd))

theorem State.AvailBehindDoors.inList {s : State} (h : s.AvailBehindDoors) (hlat : s.LatchOk) {k : KeyId}
    (ha : s.available k = true) (hr : s.resting k) : s.inList k = true := by
  obtain ⟨n, hl, hg⟩ := hr
  exact State.availBehindDoors_iff.mp h k n ha hl ((State.guarded_iff hlat).mp hg)

theorem State.claimed_iff {s : State} {k : KeyId} :
    s.claimed k = true ↔ ∃ sl c, s.slot sl = some c ∧ c.claims k = true := by
  unfold State.claimed
  rw [List.any_eq_true]
  constructor
  · rintro ⟨x, hx, hp⟩
    obtain ⟨i, hi, rfl⟩ := List.mem_iff_getElem.mp hx
    obtain ⟨c, hs, hcl⟩ := Option.any_eq_true _ _ |>.mp hp
    exact ⟨⟨i, s.contracts.slots.size ▸ hi⟩, c, hs, hcl⟩
  · rintro ⟨sl, c, hc, hcl⟩
    exact ⟨some c, hc ▸ List.getElem_mem _, hcl⟩

theorem State.claimed_congr {s t : State} {k : KeyId}
    (h : ∀ sl, (t.slot sl).any (Contract.claims · k) = (s.slot sl).any (Contract.claims · k)) :
    t.claimed k = s.claimed k := by
  have one : ∀ u : State, u.claimed k = true ↔ ∃ sl, (u.slot sl).any (Contract.claims · k) = true := fun u => by
    simp only [State.claimed_iff, Option.any_eq_true]
  rw [Bool.eq_iff_iff, one, one]
  simp only [h]

theorem State.claimed_of_eq {s t : State} (h : t.contracts = s.contracts) (k : KeyId) : t.claimed k = s.claimed k :=
  State.claimed_congr fun sl => by rw [State.slot_of_eq h]

theorem Rewrote.claimed {s t : State} {sl : Slot} {c : Option Contract} {k : KeyId} (h : Rewrote s t sl c)
    (hc : c.any (Contract.claims · k) = (s.slot sl).any (Contract.claims · k)) : t.claimed k = s.claimed k :=
  State.claimed_congr fun i => by
    by_cases e : i = sl
    · rw [e, h.self, hc]
    · rw [h.other i e]

/-- What R5 reads of a key's record. -/
def KeyRecord.fit (r : KeyRecord) : Location × Bool × CheckMark × Option Nat :=
  (r.location, r.hold, r.mark, r.promisedTo)

theorem State.loc_of_fit {s t : State} {k : KeyId}
    (h : (t.key k).map KeyRecord.fit = (s.key k).map KeyRecord.fit) : t.loc k = s.loc k := by
  have := congrArg (Option.map Prod.fst) h
  rwa [Option.map_map, Option.map_map] at this

theorem State.available_congr {s t : State} {k : KeyId}
    (hk : (t.key k).map KeyRecord.fit = (s.key k).map KeyRecord.fit)
    (hc : ∀ n, s.loc k = some (.compartment n) → (t.comp n).service = (s.comp n).service
      ∧ (t.comp n).known = (s.comp n).known ∧ (t.comp n).contents = (s.comp n).contents)
    (hcl : t.claimed k = s.claimed k) : t.available k = s.available k := by
  unfold State.available State.dispensable
  rw [hcl]
  cases hs : s.key k with
  | none => rw [hs] at hk; rw [Option.map_eq_none_iff.mp hk]; rfl
  | some r =>
    rw [hs] at hk
    obtain ⟨r', hr', e⟩ := Option.map_eq_some_iff.mp hk
    simp only [KeyRecord.fit, Prod.mk.injEq] at e
    obtain ⟨hl, hh, hm, hp⟩ := e
    have ha : t.aloneInService k r.location = s.aloneInService k r.location := by
      unfold State.aloneInService
      split
      · next n hn =>
        obtain ⟨h1, h2, h3⟩ := hc n (by rw [State.loc, hs, Option.map_some, hn])
        rw [h1, h2, h3]
      · rfl
    rw [hr']
    simp only [Option.any_some, hl, hh, hm, hp, ha]

theorem State.inList_congr {s t : State} {k : KeyId}
    (hr : (t.key k).map KeyRecord.rank = (s.key k).map KeyRecord.rank) (hl : t.keys.lists = s.keys.lists) :
    t.inList k = s.inList k := by
  unfold State.inList
  rw [hl]
  cases hs : s.key k with
  | none => rw [hs] at hr; rw [Option.map_eq_none_iff.mp hr]
  | some r =>
    rw [hs] at hr
    obtain ⟨r', hr', e⟩ := Option.map_eq_some_iff.mp hr
    rw [hr', Option.any_some, Option.any_some, show r'.group = r.group from congrArg Prod.fst e]

/-! ### What an operation does to a key's standing -/

/-- Key `k` stands in `t` as it did in `s`, to R5 and to the lists, and rests in no compartment it did not. -/
structure Unmoved (s t : State) (k : KeyId) : Prop where
  available : t.available k = s.available k
  inList : t.inList k = s.inList k
  resting : t.resting k → s.resting k

theorem Unmoved.trans {s t u : State} {k : KeyId} (h : Unmoved s t k) (g : Unmoved t u k) : Unmoved s u k :=
  ⟨g.available.trans h.available, g.inList.trans h.inList, fun hu => h.resting (g.resting hu)⟩

theorem Unmoved.of_local {s t : State} {k : KeyId} (hk : (t.key k).map KeyRecord.fit = (s.key k).map KeyRecord.fit)
    (hr : (t.key k).map KeyRecord.rank = (s.key k).map KeyRecord.rank) (hl : t.keys.lists = s.keys.lists)
    (hc : ∀ n, s.loc k = some (.compartment n) → (t.comp n).service = (s.comp n).service
      ∧ (t.comp n).known = (s.comp n).known ∧ (t.comp n).contents = (s.comp n).contents)
    (hg : ∀ n, s.loc k = some (.compartment n) → t.guarded n → s.guarded n)
    (hcl : t.claimed k = s.claimed k) : Unmoved s t k := by
  refine ⟨State.available_congr hk hc hcl, State.inList_congr hr hl, fun ⟨n, hn, hgn⟩ => ?_⟩
  rw [State.loc_of_fit hk] at hn
  exact ⟨n, hn, hg n hn hgn⟩

/-- A key in no compartment, before and after, is available in neither. -/
theorem Unmoved.of_elsewhere {s t : State} {k : KeyId} (hs : ∀ n, s.loc k ≠ some (.compartment n))
    (ht : ∀ n, t.loc k ≠ some (.compartment n)) (hl : t.inList k = s.inList k) : Unmoved s t k := by
  have out : ∀ u : State, (∀ n, u.loc k ≠ some (.compartment n)) → u.available k = false := fun u hu => by
    by_contra h
    obtain ⟨n, hn, -⟩ := State.available_located (by simpa using h)
    exact hu n hn
  exact ⟨(out t ht).trans (out s hs).symm, hl, fun ⟨n, hn, _⟩ => absurd hn (ht n)⟩

/-- From `s` to `t` the lists keep their order, and every key but those of `X` stands as it did or exactly as R5 says. -/
structure Reviewed (X : KeyId → Prop) (s t : State) : Prop where
  ordered : s.Ordered → t.Ordered
  keys : s.Ordered → ∀ k, X k ∨ t.inList k = t.available k ∨ Unmoved s t k

theorem Reviewed.mono {X Y : KeyId → Prop} {s t : State} (h : Reviewed X s t) (hxy : ∀ k, X k → Y k) :
    Reviewed Y s t := ⟨h.ordered, fun ho k => (h.keys ho k).imp (hxy k) id⟩

theorem Reviewed.trans {X : KeyId → Prop} {s t u : State} (h : Reviewed X s t) (g : Reviewed X t u) :
    Reviewed X s u := by
  refine ⟨fun ho => g.ordered (h.ordered ho), fun ho k => ?_⟩
  obtain hx | he | hu := g.keys (h.ordered ho) k
  · exact .inl hx
  · exact .inr (.inl he)
  · obtain hx | he | hu' := h.keys ho k
    · exact .inl hx
    · exact .inr (.inl (hu.inList.trans (he.trans hu.available.symm)))
    · exact .inr (.inr (hu'.trans hu))

theorem Reviewed.of_local {X : KeyId → Prop} {s t : State} (hr : SameRanks s t)
    (hk : ∀ k, ¬ X k → (t.key k).map KeyRecord.fit = (s.key k).map KeyRecord.fit)
    (hc : ∀ k n, ¬ X k → s.loc k = some (.compartment n) → (t.comp n).service = (s.comp n).service
      ∧ (t.comp n).known = (s.comp n).known ∧ (t.comp n).contents = (s.comp n).contents
      ∧ (t.guarded n → s.guarded n))
    (hcl : ∀ k, ¬ X k → t.claimed k = s.claimed k) : Reviewed X s t := by
  refine ⟨fun ho => ho.of_ranks hr, fun _ k => or_iff_not_imp_left.mpr fun hx => .inr ?_⟩
  refine .of_local (hk k hx) (hr.rank k) hr.lists (fun n hn => ?_) (fun n hn => (hc k n hx hn).2.2.2) (hcl k hx)
  obtain ⟨h1, h2, h3, -⟩ := hc k n hx hn
  exact ⟨h1, h2, h3⟩

/-- With every key's record as it was, a calm operation leaves the standing of the keys whose claims it leaves. -/
theorem Reviewed.of_calm {X : KeyId → Prop} {s t : State} (hk : t.keys = s.keys) (hc : Calm s t)
    (hcl : ∀ k, ¬ X k → t.claimed k = s.claimed k) : Reviewed X s t :=
  .of_local (.of_eq hk) (fun k _ => by rw [State.key, hk]; rfl)
    (fun _ n _ _ => ⟨hc.service n, hc.known n, hc.contents n, hc.guarded n⟩) hcl

theorem Reviewed.of_frame {X : KeyId → Prop} {s t : State} (hk : t.keys = s.keys) (hc : Calm s t)
    (hcon : t.contracts = s.contracts) : Reviewed X s t := .of_calm hk hc fun k _ => State.claimed_of_eq hcon k

theorem Reviewed.of_same {X : KeyId → Prop} {s t : State} (h : SameRecords s t) : Reviewed X s t :=
  .of_frame h.keys (.of_eq h.compartments) h.contracts

theorem Reviewed.refl {X : KeyId → Prop} (s : State) : Reviewed X s s := .of_same (.refl s)

theorem Reviewed.modifyKey {X : KeyId → Prop} (s : State) {k : KeyId} {f : KeyRecord → KeyRecord}
    (hf : ∀ r, (f r).rank = r.rank) (hx : X k) : Reviewed X s (s.modifyKey k f) :=
  .of_local (.modifyKey s k hf) (fun j hj => by rw [State.modifyKey_key_ne _ _ fun e : k = j => hj (e ▸ hx)])
    (fun _ _ _ _ => ⟨rfl, rfl, rfl, id⟩) fun j _ => State.claimed_of_eq rfl j

theorem Reviewed.modifyContract {X : KeyId → Prop} {s t : State} {sl : Slot} {c : Option Contract}
    (hk : t.keys = s.keys) (hp : t.compartments = s.compartments) (hr : Rewrote s t sl c)
    (hc : ∀ k, ¬ X k → c.any (Contract.claims · k) = (s.slot sl).any (Contract.claims · k)) : Reviewed X s t :=
  .of_calm hk (.of_eq hp) fun k hx => hr.claimed (hc k hx)

/-! ### Re-examining (R5, R6) -/

theorem State.reexamine_fit (s : State) (m : Nat) (k j : KeyId) :
    ((s.reexamine m k).key j).map KeyRecord.fit = (s.key j).map KeyRecord.fit := by
  rcases s.reexamine_keys m k with h | h <;> rw [State.key, h]
  · rfl
  · change ((s.modifyKey k fun r => { r with idleSince := m }).key j).map _ = _
    by_cases e : k = j
    · subst e
      rw [State.modifyKey_key_self, Option.map_map]
      rfl
    · rw [State.modifyKey_key_ne _ _ e]

theorem State.reexamine_available (s : State) (m : Nat) (k j : KeyId) :
    (s.reexamine m k).available j = s.available j := by
  refine State.available_congr (s.reexamine_fit m k j) (fun n _ => ?_) (State.claimed_of_eq ?_ j)
  · rw [s.reexamine_frame]; exact ⟨rfl, rfl, rfl⟩
  · rw [s.reexamine_frame]

/-- What re-examining key `k` with record `r` does to the key table. -/
theorem State.reexamine_cases {s : State} {k : KeyId} {r : KeyRecord} (h : s.key k = some r) (m : Nat) :
    s.inList k = s.available k ∧ s.reexamine m k = s
      ∨ s.available k = false ∧ s.inList k = true ∧ s.reexamine m k = s.withKeys (s.keys.leave r.group k)
      ∨ s.available k = true ∧ s.inList k = false ∧ s.reexamine m k
        = (s.modifyKey k fun r => { r with idleSince := m }).withKeys
          ((s.modifyKey k fun r => { r with idleSince := m }).keys.join r.group k) := by
  unfold State.reexamine
  rw [h]
  dsimp only
  cases s.available k <;> cases s.inList k
  · exact .inl ⟨rfl, rfl⟩
  · exact .inr (.inl ⟨rfl, rfl, rfl⟩)
  · exact .inr (.inr ⟨rfl, rfl, rfl⟩)
  · exact .inl ⟨rfl, rfl⟩

theorem KeyTable.get_leave (t : KeyTable) (g h : Group) (k : KeyId) : (t.leave g k).lists.get h
    = if h = g then (t.lists.get h).filter (· != k) else t.lists.get h := by
  split
  · next e => subst e; exact Table.get_modify_self _ _ _
  · next e => exact Table.get_modify_ne _ _ (Ne.symm e)

theorem KeyTable.get_join (t : KeyTable) (g h : Group) (k : KeyId) : (t.join g k).lists.get h
    = if h = g then t.place k (t.lists.get h) else t.lists.get h := by
  split
  · next e => subst e; exact Table.get_modify_self _ _ _
  · next e => exact Table.get_modify_ne _ _ (Ne.symm e)

theorem KeyTable.mem_leave {t : KeyTable} {g h : Group} {k j : KeyId} (e : j ≠ k) :
    j ∈ (t.leave g k).lists.get h ↔ j ∈ t.lists.get h := by
  rw [KeyTable.get_leave]
  split
  · simp [e]
  · rfl

theorem KeyTable.mem_join {t : KeyTable} {g h : Group} {k j : KeyId} (e : j ≠ k) :
    j ∈ (t.join g k).lists.get h ↔ j ∈ t.lists.get h := by
  rw [KeyTable.get_join]
  split
  · rw [KeyTable.mem_place]; simp [e]
  · rfl

theorem KeyTable.mem_join_self (t : KeyTable) (g : Group) (k : KeyId) : k ∈ (t.join g k).lists.get g := by
  rw [KeyTable.get_join, if_pos rfl]
  exact (KeyTable.mem_place _ _ _ _).mpr (.inl rfl)

theorem List.contains_congr {α : Type} [BEq α] [LawfulBEq α] {l m : List α} {a : α} (h : a ∈ l ↔ a ∈ m) :
    l.contains a = m.contains a := by
  rw [Bool.eq_iff_iff, List.contains_iff_mem, List.contains_iff_mem]
  exact h

/-- A key that leaves a list leaves the others in their order (R4). -/
theorem State.Ordered.leave {s : State} (h : s.Ordered) (g : Group) (k : KeyId) :
    (s.withKeys (s.keys.leave g k)).Ordered := by
  intro i
  obtain ⟨h1, h2⟩ := h i
  have hsub : (((s.withKeys (s.keys.leave g k)).keys.lists.get i)).Sublist (s.keys.lists.get i) := by
    change ((s.keys.leave g k).lists.get i).Sublist _
    rw [KeyTable.get_leave]
    split
    · exact List.filter_sublist
    · exact List.Sublist.refl _
  exact ⟨h1.sublist hsub, fun j hj => h2 j (hsub.subset hj)⟩

/-- A key of group `g` that stands in no list joins its own in its order, whatever idle-since it has (R6). -/
theorem State.Ordered.join {s u : State} {k : KeyId} {g : Group} (h : s.Ordered)
    (hno : ∀ i, k ∉ s.keys.lists.get i) (hl : u.keys.lists = s.keys.lists)
    (hk : ∃ r, u.key k = some r ∧ r.group = g) (hj : ∀ j, j ≠ k → u.key j = s.key j) :
    (u.withKeys (u.keys.join g k)).Ordered := by
  have hidle : ∀ j, j ≠ k → u.keys.idle j = s.keys.idle j := fun j e => KeyTable.idle_of_rank (by rw [hj j e])
  intro i
  obtain ⟨h1, h2⟩ := h i
  have h1' : (s.keys.lists.get i).Pairwise fun a b => u.keys.before a b = true := by
    refine h1.imp_of_mem fun {a b} ha hb hab => ?_
    rw [KeyTable.before_iff] at hab ⊢
    rwa [hidle a fun e => hno i (e ▸ ha), hidle b fun e => hno i (e ▸ hb)]
  have h2' : ∀ j ∈ s.keys.lists.get i, ∃ r, u.key j = some r ∧ r.group = i := fun j hjm => by
    rw [hj j fun e => hno i (e ▸ hjm)]
    exact h2 j hjm
  change ((u.keys.join g k).lists.get i).Pairwise (fun a b => u.keys.before a b = true)
    ∧ ∀ j ∈ (u.keys.join g k).lists.get i, ∃ r, u.key j = some r ∧ r.group = i
  rw [KeyTable.get_join, hl]
  split
  · next e =>
    refine ⟨KeyTable.place_sorted (hno i) h1', fun j hjm => ?_⟩
    obtain rfl | hjm := (KeyTable.mem_place _ _ _ _).mp hjm
    · exact e ▸ hk
    · exact h2' j hjm
  · exact ⟨h1', h2'⟩

/-- A key that is in no list of its own is in none. -/
theorem State.Ordered.notMem {s : State} (h : s.Ordered) {k : KeyId} (hk : s.inList k = false) (g : Group) :
    k ∉ s.keys.lists.get g := fun hm => by
  obtain ⟨r, hr, rfl⟩ := (h g).2 k hm
  rw [(State.inList_iff hr).mpr hm] at hk
  cases hk

theorem State.reexamine_ordered {s : State} (h : s.Ordered) (m : Nat) (k : KeyId) : (s.reexamine m k).Ordered := by
  cases hk : s.key k with
  | none => rw [State.reexamine_none hk]; exact h
  | some r =>
    obtain ⟨-, e⟩ | ⟨-, -, e⟩ | ⟨-, hl, e⟩ := State.reexamine_cases hk m <;> rw [e]
    · exact h
    · exact h.leave _ _
    · refine h.join (h.notMem hl) rfl ⟨{ r with idleSince := m }, ?_, rfl⟩ fun j hj =>
        State.modifyKey_key_ne _ _ (Ne.symm hj)
      rw [State.modifyKey_key_self, hk]; rfl

/-- A re-examined key is in its list exactly when R5 says so; every other key's place is as it was (R6). -/
theorem State.reexamine_inList (s : State) (m : Nat) (k : KeyId) :
    (s.reexamine m k).inList k = (s.reexamine m k).available k
      ∧ ∀ j, j ≠ k → (s.reexamine m k).inList j = s.inList j := by
  rw [s.reexamine_available]
  cases hk : s.key k with
  | none =>
    rw [State.reexamine_none hk, State.inList_of_none hk, State.available_of_none hk]
    exact ⟨rfl, fun _ _ => rfl⟩
  | some r =>
    obtain ⟨h1, e⟩ | ⟨h1, -, e⟩ | ⟨h1, -, e⟩ := State.reexamine_cases hk m <;> rw [e]
    · exact ⟨h1, fun _ _ => rfl⟩
    · rw [h1]
      refine ⟨?_, fun j hj => ?_⟩
      · change (s.key k).any (fun r' => ((s.keys.leave r.group k).lists.get r'.group).contains k) = false
        rw [hk, Option.any_some, KeyTable.get_leave, if_pos rfl]
        simp
      · change (s.key j).any (fun r' => ((s.keys.leave r.group k).lists.get r'.group).contains j) = s.inList j
        unfold State.inList
        exact congrArg (fun f => Option.any f (s.key j)) (funext fun r' => List.contains_congr (KeyTable.mem_leave hj))
    · rw [h1]
      generalize hu : (s.modifyKey k fun r => { r with idleSince := m }) = u
      have huk : u.key k = some { r with idleSince := m } := by
        rw [← hu, State.modifyKey_key_self, hk]; rfl
      have hul : u.keys.lists = s.keys.lists := by rw [← hu]; rfl
      refine ⟨?_, fun j hj => ?_⟩
      · change (u.key k).any (fun r' => ((u.keys.join r.group k).lists.get r'.group).contains k) = true
        rw [huk, Option.any_some]
        simpa using KeyTable.mem_join_self _ _ _
      · change (u.key j).any (fun r' => ((u.keys.join r.group k).lists.get r'.group).contains j) = s.inList j
        unfold State.inList
        rw [show u.key j = s.key j by rw [← hu]; exact State.modifyKey_key_ne _ _ (Ne.symm hj)]
        exact congrArg (fun f => Option.any f (s.key j)) (funext fun r' =>
          List.contains_congr (by rw [KeyTable.mem_join hj, hul]))

theorem State.reexamine_unmoved (s : State) (m : Nat) {k j : KeyId} (h : j ≠ k) :
    Unmoved s (s.reexamine m k) j := by
  refine ⟨s.reexamine_available m k j, (s.reexamine_inList m k).2 j h, fun ⟨n, hn, hg⟩ => ⟨n, ?_, ?_⟩⟩
  · rw [← State.loc_of_fit (s.reexamine_fit m k j)]; exact hn
  · rw [s.reexamine_frame] at hg; exact hg

/-- A key that is re-examined is done with. -/
theorem Reviewed.reexamine {X : KeyId → Prop} {s t : State} (h : Reviewed X s t) (m : Nat) (k : KeyId) :
    Reviewed (fun j => X j ∧ j ≠ k) s (t.reexamine m k) := by
  refine ⟨fun ho => State.reexamine_ordered (h.ordered ho) m k, fun ho j => ?_⟩
  by_cases e : j = k
  · subst e
    exact .inr (.inl (t.reexamine_inList m j).1)
  · have hu := t.reexamine_unmoved m e
    obtain hx | he | hu' := h.keys ho j
    · exact .inl ⟨hx, e⟩
    · exact .inr (.inl (hu.inList.trans (he.trans hu.available.symm)))
    · exact .inr (.inr (hu'.trans hu))

theorem Reviewed.reexamineAll {X : KeyId → Prop} {s t : State} (h : Reviewed X s t) (m : Nat) (ks : List KeyId) :
    Reviewed (fun j => X j ∧ j ∉ ks) s (t.reexamineAll m ks) := by
  induction ks generalizing X t with
  | nil => exact h.mono fun j hj => ⟨hj, by simp⟩
  | cons k ks ih =>
    refine (ih (h.reexamine m k)).mono fun j hj => ⟨hj.1.1, ?_⟩
    simpa using ⟨hj.1.2, hj.2⟩

theorem State.reexamine_reviewed {X : KeyId → Prop} (s : State) (m : Nat) (k : KeyId) :
    Reviewed X s (s.reexamine m k) := ((Reviewed.refl s).reexamine m k).mono fun _ h => h.1

theorem State.reexamineAll_reviewed {X : KeyId → Prop} (s : State) (m : Nat) (ks : List KeyId) :
    Reviewed X s (s.reexamineAll m ks) := ((Reviewed.refl s).reexamineAll m ks).mono fun _ h => h.1

end Sys2Proof.Machine
end

section
/-! SUPPORT. The standing of the keys through the ends of releases, the closings of contracts and the moves of keys
(R4, R5, R30, R57, R72, R77). -/

namespace Sys2Proof.Machine

theorem Reviewed.resolve {X : KeyId → Prop} {s t : State} {k : KeyId} (h : Reviewed (fun j => X j ∨ j = k) s t)
    (hk : s.Ordered → t.inList k = t.available k ∨ Unmoved s t k) : Reviewed X s t := by
  refine ⟨h.ordered, fun ho j => ?_⟩
  obtain (hx | rfl) | he := h.keys ho j
  · exact .inl hx
  · exact .inr (hk ho)
  · exact .inr he

/-! ### Claims (R57) -/

theorem Contract.claims_iff {c : Contract} {k : KeyId} : c.claims k = true ↔ c.entitlement = .specific k
    ∧ (c.state = .ticket ∨ c.state = .suspended ∨ c.state = .picking ∧ c.key ≠ some k) := by
  unfold Contract.claims
  cases c.entitlement with
  | cls => simp
  | specific e =>
    simp only [Bool.and_eq_true, beq_iff_eq, Entitlement.specific.injEq]
    refine and_congr_right fun _ => ?_
    cases c.state <;> simp

theorem Contract.claims_eq_false {c : Contract} {k : KeyId}
    (h : c.state ≠ .ticket ∧ c.state ≠ .suspended ∧ c.state ≠ .picking) : c.claims k = false := by
  by_contra hc
  obtain ⟨-, hst⟩ := Contract.claims_iff.mp (by simpa using hc)
  obtain ⟨h1, h2, h3⟩ := h
  tauto

theorem Contract.claims_of_open {c : Contract} (h : c.isOpen = true) (k : KeyId) : c.claims k = false :=
  Contract.claims_eq_false (by obtain h | h := Contract.isOpen_iff.mp h <;> simp [h])

theorem Turned.reviewed {X : KeyId → Prop} {s t : State} {sl : Slot} {c d : Contract} (h : Turned s t sl c d)
    (hk : t.keys = s.keys) (hp : t.compartments = s.compartments) (hc : ∀ k, ¬ X k → d.claims k = c.claims k) :
    Reviewed X s t := by
  refine .modifyContract hk hp h.rewrote fun k hx => ?_
  rw [h.held]
  exact hc k hx

theorem Reviewed.modifySlot {X : KeyId → Prop} (s : State) (sl : Slot) {f : Contract → Contract}
    (hf : ∀ c, s.slot sl = some c → ∀ k, ¬ X k → (f c).claims k = c.claims k) : Reviewed X s (s.modifySlot sl f) := by
  refine .of_calm rfl (.of_eq rfl) fun k hx => State.claimed_congr fun i => ?_
  by_cases e : sl = i
  · subst e
    rw [State.modifySlot_slot_self]
    cases h : s.slot sl with
    | none => rfl
    | some c => exact hf c h k hx
  · rw [State.modifySlot_slot_ne _ _ e]

/-- The index of pickup codes is no part of a claim. -/
theorem Reviewed.of_slots {X : KeyId → Prop} {s t : State} (hk : t.keys = s.keys)
    (hp : t.compartments = s.compartments) (hs : t.contracts.slots = s.contracts.slots) : Reviewed X s t :=
  .of_calm hk (.of_eq hp) fun k _ => State.claimed_congr fun i => by rw [State.slot, hs]; rfl

/-! ### The end of a release (R18, R72, R77) -/

/-- The contract of number `x`, when it is in PICKING, holds key `k`. -/
def State.Keyed (s : State) (x : Nat) (k : KeyId) : Prop :=
  ∀ sl c, s.slot sl = some c → c.number = x → c.state = .picking → c.key = some k

theorem State.Keyed.of_eq {s t : State} {x : Nat} {k : KeyId} (h : s.Keyed x k) (hc : t.contracts = s.contracts) :
    t.Keyed x k := fun sl c hs => h sl c ((State.slot_of_eq hc sl).symm.trans hs)

theorem State.Picks.keyed {s : State} {x : Nat} {k : KeyId} (h : s.Picks x k) (hn : s.Numbered) : s.Keyed x k := by
  obtain ⟨i, d, hd, hx, -, hkey⟩ := h
  intro sl c hc hcx _
  obtain rfl := hn sl i c d hc hd (hcx.trans hx.symm)
  rw [Option.some.inj (hc.symm.trans hd)]
  exact hkey

theorem State.Booked.keyed {s : State} {P : CompId → Prop} {n : CompId} {x : Nat} {k : KeyId} (h : s.Booked P)
    (hn : P n) (hp : (s.comp n).pickup? = some (x, k)) : s.Keyed x k :=
  (h.rented.pickups n x k hn hp).keyed h.index.numbered

/-- A contract that falls back takes up its claim on the key it held (R57, R72). -/
theorem State.fallBack_reviewed {X : KeyId → Prop} {s : State} {x : Nat} {k : KeyId} (hk : s.Keyed x k) (hx : X k)
    (n : CompId) (y : FailReason) : Reviewed X s (s.fallBack x k n y) := by
  have hf := s.fallBack_frame x k n y
  have hkeys : (s.fallBack x k n y).keys = s.keys := by rw [hf]
  have hcomp : (s.fallBack x k n y).compartments = s.compartments := by rw [hf]
  obtain ⟨h, -⟩ | ⟨sl, c, d, h, hcx, hc, hd, -⟩ := s.fallBack_turned x k n y
  · exact .of_frame hkeys (.of_eq hcomp) h
  · refine h.reviewed hkeys hcomp fun j hj => ?_
    have hne : c.key ≠ some j := fun e => hj (Option.some.inj ((hk sl c h.held hcx hc).symm.trans e) ▸ hx)
    rw [Bool.eq_iff_iff, Contract.claims_iff, Contract.claims_iff, h.entitlement]
    refine and_congr_right fun _ => iff_of_true (hd.imp id .inl) (.inr (.inr ⟨hc, hne⟩))

theorem State.clearPromise_reviewed {X : KeyId → Prop} (s : State) {k : KeyId} (hx : X k) :
    Reviewed X s (s.clearPromise k) := .modifyKey (f := fun r => { r with promisedTo := none }) s (fun _ => rfl) hx

theorem State.pickupFailed_reviewed {X : KeyId → Prop} {s : State} {x : Nat} {k : KeyId} (hk : s.Keyed x k)
    (n : CompId) (y : FailReason) : Reviewed X s (s.pickupFailed x k n y) := by
  unfold State.pickupFailed
  split
  · have h1 : Reviewed (fun j => X j ∨ j = k) s (s.fallBack x k n y) := State.fallBack_reviewed hk (.inr rfl) n y
    exact ((h1.trans (State.clearPromise_reviewed _ (.inr rfl))).reexamine _ _).mono fun j ⟨h, hj⟩ =>
      h.resolve_right hj
  · exact .refl s

theorem State.returnFailed_reviewed {X : KeyId → Prop} (s : State) (x : Nat) (k : KeyId) (n : CompId)
    (y : FailReason) : Reviewed X s (s.returnFailed x k n y) := by
  have hf := s.returnFailed_frame x k n y
  have hkeys : (s.returnFailed x k n y).keys = s.keys := by rw [hf]
  have hcomp : (s.returnFailed x k n y).compartments = s.compartments := by rw [hf]
  obtain h | ⟨-, sl, c, h, -, hc⟩ := s.returnFailed_turned x k n y
  · exact .of_frame hkeys (.of_eq hcomp) h
  · refine h.reviewed hkeys hcomp fun j _ => ?_
    rw [Contract.claims_of_open (Contract.isOpen_iff.mpr (.inr hc)),
      Contract.claims_of_open (Contract.isOpen_iff.mpr (.inl rfl))]

theorem State.closeContract_reviewed {X : KeyId → Prop} (s : State) (x : Nat) (r : Route) (m : Option Nat)
    (n : Option CompId) : Reviewed X s (s.closeContract x r m n) := by
  have hf := s.closeContract_frame x r m n
  have hkeys : (s.closeContract x r m n).keys = s.keys := by rw [hf]
  have hcomp : (s.closeContract x r m n).compartments = s.compartments := by rw [hf]
  by_cases h : ∃ c, s.contract x = some c ∧ c.isOpen = true
  · obtain ⟨c, hc, ho⟩ := h
    obtain ⟨sl, d, ht, -, hd⟩ := State.closeContract_turned hc ho r m n
    refine ht.reviewed hkeys hcomp fun j _ => ?_
    rw [Contract.claims_of_open ho, Contract.claims_eq_false (by simp [hd])]
  · refine .of_frame hkeys (.of_eq hcomp) ?_
    unfold State.closeContract
    split
    · rfl
    · next c hc => rw [if_neg fun ho => h ⟨c, hc, ho⟩]

theorem State.endRelease_reviewed {X : KeyId → Prop} {s : State} {n : CompId} (o : ReleaseOutcome) (named : CompId)
    (hk : ∀ x k, (s.comp n).pickup? = some (x, k) → s.Keyed x k) : Reviewed X s (s.endRelease n o named) := by
  have h1 : Reviewed X s (s.modifyComp n Compartment.withoutRelease) :=
    .of_frame rfl (.modifyComp rfl rfl rfl .inl fun p hp => by
      simp [Compartment.withoutRelease, Compartment.pickup?] at hp) rfl
  refine h1.trans ?_
  unfold State.endRelease
  dsimp only
  split
  · next r hr =>
    obtain ⟨p, g⟩ := r
    unfold State.tellEnded
    cases p with
    | pickup x k =>
      have hkey : (s.modifyComp n Compartment.withoutRelease).Keyed x k :=
        (hk x k (Compartment.pickup?_eq_some.mpr ⟨g, hr⟩)).of_eq rfl
      exact (State.pickupFailed_reviewed hkey named o.reason).trans (.of_frame rfl (.of_eq rfl) rfl)
    | ret x k => exact (State.returnFailed_reviewed _ x k named o.reason).trans (.of_frame rfl (.of_eq rfl) rfl)
    | staff => exact .of_frame rfl (.of_eq rfl) rfl
    | link => exact .refl _
  · exact .refl _

theorem State.relocked_reviewed {X : KeyId → Prop} {s t : State} {n : CompId} (hc : Calm s t)
    (hk : t.keys = s.keys) (hx : t.contracts = s.contracts) (o : ReleaseOutcome) (named : CompId)
    (hkey : ∀ x k, (s.comp n).pickup? = some (x, k) → s.Keyed x k) :
    Reviewed X s (t.endRelease n o named) :=
  (Reviewed.of_frame hk hc hx).trans (State.endRelease_reviewed o named fun x k hp =>
    (hkey x k (hc.pickup n _ hp)).of_eq hx)

theorem State.unlatched_reviewed {X : KeyId → Prop} {s : State} {n : CompId} {d : DoorState}
    (h : (s.comp n).door = .unlatched) (o : ReleaseOutcome) (named : CompId)
    (hkey : ∀ x k, (s.comp n).pickup? = some (x, k) → s.Keyed x k) :
    Reviewed X s
      (((s.freeChannel n).modifyComp n fun c => { c with door := d }).arbitrate.endRelease n o named) := by
  obtain ⟨x, hx⟩ := ((s.freeChannel n).modifyComp n fun c => { c with door := d }).arbitrate_frame
  refine State.relocked_reviewed ((s.freeChannel_calm n).trans ((State.relock_calm _ n _ (.inl ?_)).trans
    (State.arbitrate_calm _))) (by rw [hx]; rfl) (by rw [hx]; rfl) o named hkey
  rw [(s.freeChannel_spec n).1]
  change (s.comp n).door.shut = true
  rw [h]; rfl

theorem State.cancelRelease_reviewed {X : KeyId → Prop} {s t : State} {n named : CompId}
    (h : s.cancelRelease n named = some t)
    (hkey : s.guarded n → ∀ x k, (s.comp n).pickup? = some (x, k) → s.Keyed x k) : Reviewed X s t := by
  obtain ⟨hno, hw, hu⟩ := s.cancelRelease_cases n named
  have shut : ∀ d, (s.comp n).door = d → d.shut = true → s.guarded n := fun d hd hs => .inl (hd ▸ hs)
  by_cases h1 : (s.comp n).door = .waiting
  · obtain rfl := Option.some.inj ((hw h1).symm.trans h)
    have hg := shut _ h1 rfl
    exact State.relocked_reviewed ((s.unqueue_calm n).trans (State.relock_calm _ n _ (.inl (h1 ▸ rfl)))) rfl rfl _ _
      (hkey hg)
  · by_cases h2 : (s.comp n).door = .unlatched
    · obtain rfl := Option.some.inj ((hu h2).symm.trans h)
      exact State.unlatched_reviewed h2 _ _ (hkey (shut _ h2 rfl))
    · rw [hno h1 h2] at h; cases h

/-- A RETURN release that is cancelled touches no key (R79). -/
theorem State.cancelReturn_reviewed {X : KeyId → Prop} (s : State) (x : Nat) : Reviewed X s (s.cancelReturn x) := by
  unfold State.cancelReturn
  split
  · exact .refl s
  next m hm =>
  split
  · next h =>
    refine State.cancelRelease_reviewed h fun _ y k hp => ?_
    have hf := Table.get_of_find hm
    rw [show s.compartments.table.get m = s.comp m from rfl] at hf
    obtain ⟨o, ho⟩ := Compartment.pickup?_eq_some.mp hp
    rw [ho] at hf
    simp at hf
  · exact .of_frame rfl (.modifyComp rfl rfl rfl .inl fun _ h => h) rfl

theorem State.withdrawPromise_reviewed {X : KeyId → Prop} (s : State) {k : KeyId} (hx : X k) (scanned : Option CompId)
    (hkey : ∀ m, s.guarded m → ∀ x k', (s.comp m).pickup? = some (x, k') → s.Keyed x k') :
    Reviewed X s (s.withdrawPromise k scanned) := by
  have h0 : Reviewed X s (s.clearPromise k) := s.clearPromise_reviewed hx
  unfold State.withdrawPromise
  split
  · exact .refl s
  dsimp only
  split
  · exact h0
  · next m _ =>
    cases hc : State.cancelRelease _ m (scanned.getD m) with
    | none => exact h0
    | some t => exact h0.trans (State.cancelRelease_reviewed hc fun hg x k' hp =>
        State.Keyed.of_eq (hkey m hg x k' hp) rfl)

/-! ### Keys that move (R2) -/

theorem State.moveKey_guarded (s : State) (k : KeyId) (l : Location) (n : CompId) :
    (s.moveKey k l).guarded n ↔ s.guarded n := by
  unfold State.guarded
  rw [(s.moveKey_frame k l).2.1, s.moveKey_comp]
  split <;> rfl

theorem State.moveKey_ranks (s : State) (k : KeyId) (l : Location) : SameRanks s (s.moveKey k l) := by
  refine ⟨(s.moveKey_frame k l).2.2.2, fun j => ?_⟩
  cases h : s.key k with
  | none => rw [State.moveKey_none h]
  | some r =>
    obtain ⟨h1, h2⟩ := State.moveKey_key h l
    by_cases e : j = k
    · subst e; rw [h1, h]; rfl
    · rw [h2 j e]

/-- A key that moves changes its own standing and that of the keys in the compartment it leaves. -/
theorem State.moveKey_reviewed {X : KeyId → Prop} (s : State) {k : KeyId} {l : Location} (hk : X k)
    (hx : ∀ j n, s.loc k = some (.compartment n) → l ≠ .compartment n → s.loc j = some (.compartment n) → X j) :
    Reviewed X s (s.moveKey k l) := by
  refine .of_local (s.moveKey_ranks k l) (fun j hj => ?_) (fun j n hj hn => ?_)
    fun j _ => State.claimed_of_eq (s.moveKey_frame k l).1 j
  · cases h : s.key k with
    | none => rw [State.moveKey_none h]
    | some r => rw [(State.moveKey_key h l).2 j fun e => hj (e ▸ hk)]
  · rw [s.moveKey_comp k l n, if_neg fun h => hj (hx j n h.1 h.2 hn)]
    exact ⟨rfl, rfl, rfl, (s.moveKey_guarded k l n).mp⟩

/-- A key that is in no compartment moves alone. -/
theorem State.moveKey_alone {X : KeyId → Prop} (s : State) {k : KeyId} {l : Location} (hk : X k)
    (hs : ∀ n, s.loc k ≠ some (.compartment n)) : Reviewed X s (s.moveKey k l) :=
  s.moveKey_reviewed hk fun _ n h => absurd h (hs n)

/-! ### Requests (R61-R69, R8-R13) -/

theorem Reviewed.reexamineClaim {X : KeyId → Prop} {s t : State} (h : Reviewed X s t) (e : Entitlement)
    (hx : ∀ k, X k → e = .specific k) : Reviewed (fun _ => False) s (t.reexamineClaim e) := by
  unfold State.reexamineClaim
  cases e with
  | cls => exact h.mono fun k hk => by cases hx k hk
  | specific j =>
    refine (h.reexamine _ _).mono fun k ⟨hk, hne⟩ => hne ?_
    exact (Entitlement.specific.inj (hx k hk)).symm

theorem State.issue_reviewed {s : State} {sl : Slot} {c : Contract} (hsl : s.slot sl = none) :
    Reviewed (fun _ => False) s (s.issue sl c) := by
  have hr : Rewrote s (s.withContracts { s.contracts with slots := s.contracts.slots.set sl (some c) }) sl (some c) :=
    .set rfl
  have h1 : Reviewed (fun k => c.entitlement = .specific k) s
      (s.withContracts { s.contracts with slots := s.contracts.slots.set sl (some c) }) := by
    refine .modifyContract rfl rfl hr fun k hk => ?_
    rw [hsl]
    change c.claims k = false
    by_contra hc
    exact hk (Contract.claims_iff.mp (by simpa using hc)).1
  have h2 := h1.trans (u := (s.withContracts { s.contracts with
      slots := s.contracts.slots.set sl (some c) }).addCode sl c.code) <| by
    cases c.code with
    | none => exact .refl _
    | some x => exact .of_slots rfl rfl rfl
  exact h2.reexamineClaim _ fun k hk => hk

theorem Reviewed.enter {X : KeyId → Prop} (s : State) (b : NoticeBody) : Reviewed X s (s.enter b) :=
  .of_same (s.enter_same b).toSameRecords

theorem State.tierStep_reviewed {X : KeyId → Prop} (s : State) (sl : Slot) (m : Nat) :
    Reviewed X s (s.tierStep sl m) := by
  unfold State.tierStep
  split
  · exact .refl s
  · next c _ =>
    dsimp only
    split
    · refine Reviewed.trans (t := s.modifySlot sl fun c' =>
        { c' with tier := computedTier (s.policyOf c) c m, reminderBase := m }) ?_ (.enter _ _)
      exact .modifySlot s sl fun _ _ _ _ => rfl
    · exact .refl s

theorem State.reminderStep_reviewed {X : KeyId → Prop} (s : State) (sl : Slot) (m : Nat) :
    Reviewed X s (s.reminderStep sl m) := by
  have h : Reviewed X s (s.modifySlot sl fun c => { c with reminderBase := m }) :=
    .modifySlot s sl fun _ _ _ _ => rfl
  unfold State.reminderStep
  split
  · exact .refl s
  · dsimp only
    split
    · exact .refl s
    split
    · exact h
    split
    · exact h.trans (.enter _ _)
    · exact .refl s

theorem State.resetTier_reviewed {X : KeyId → Prop} (s : State) (sl : Slot) (m : Nat) :
    Reviewed X s (s.resetTier sl m) := by
  unfold State.resetTier
  split
  · exact .refl s
  · next c _ =>
    have h : Reviewed X s (s.modifySlot sl fun c' =>
        { c' with tier := computedTier (s.policyOf c) c m, reminderBase := m }) :=
      .modifySlot s sl fun _ _ _ _ => rfl
    dsimp only
    split
    · exact h.trans (.enter _ _)
    · exact h

theorem State.amend_reviewed {X : KeyId → Prop} (s : State) (sl : Slot) (c : Contract) (a : Amendment) :
    Reviewed X s (s.amend sl c a) := by
  have h1 : Reviewed X s (s.modifySlot sl a.applyTo) := .modifySlot s sl fun _ _ _ _ => rfl
  have h2 : Reviewed X s ((s.modifySlot sl a.applyTo).changeCode sl a.code) := by
    refine h1.trans ?_
    cases a.code with
    | none => exact .refl _
    | some o => cases o <;> exact .of_slots rfl rfl rfl
  unfold State.amend
  dsimp only
  split
  · exact h2.trans (State.resetTier_reviewed _ _ _)
  · exact h2

/-- A waiting ticket that ends gives up its claim (R57, R64, R125). -/
theorem State.endTicket_reviewed {s : State} {sl : Slot} {c : Contract} {st : ContractState}
    (hc : s.slot sl = some c) (hf : st = .void ∨ st = .lapsed) : Reviewed (fun k => c.entitlement = .specific k) s
      ((s.modifySlot sl fun c => { c with state := st }).dropCode sl) := by
  refine Reviewed.trans (t := s.modifySlot sl fun c => { c with state := st }) (.modifySlot s sl fun d hd k hk => ?_)
    (.of_slots rfl rfl rfl)
  obtain rfl := Option.some.inj (hc.symm.trans hd)
  rw [Contract.claims_eq_false (by obtain rfl | rfl := hf <;> simp)]
  by_contra h
  exact hk (Contract.claims_iff.mp (by simpa using Ne.symm h)).1

theorem State.lapse_reviewed (s : State) (sl : Slot) (m : Nat) : Reviewed (fun _ => False) s (s.lapse sl m) := by
  unfold State.lapse
  split
  · exact .refl s
  · next c hc =>
    dsimp only
    have h := State.endTicket_reviewed hc (.inr rfl)
    refine Reviewed.trans ?_ (.enter _ _)
    cases he : c.entitlement with
    | cls => exact h.mono fun k hk => by rw [he] at hk; cases hk
    | specific j =>
      refine (h.reexamine _ j).mono fun k ⟨hk, hne⟩ => hne ?_
      rw [he] at hk
      exact (Entitlement.specific.inj hk).symm

theorem State.visitSlot_reviewed (s : State) (sl : Slot) (m : Nat) :
    Reviewed (fun _ => False) s (s.visitSlot sl m) := by
  unfold State.visitSlot
  split
  · exact .refl s
  · split
    case h_1 | h_2 => exact (s.tierStep_reviewed sl m).trans (State.reminderStep_reviewed _ _ _)
    case h_3 | h_4 =>
      split
      · exact s.lapse_reviewed sl m
      · exact .refl s
    all_goals exact .refl s

theorem State.resumeTicket_reviewed {X : KeyId → Prop} {s : State} {sl : Slot} {c : Contract}
    (hc : s.slot sl = some c) (hst : c.state = .suspended) : Reviewed X s (s.resumeTicket sl) := by
  refine .modifySlot s sl fun d hd k _ => ?_
  obtain rfl := Option.some.inj (hc.symm.trans hd)
  rw [Bool.eq_iff_iff, Contract.claims_iff, Contract.claims_iff]
  simp [hst]

theorem State.retire_reviewed {X : KeyId → Prop} {s : State} {sl : Slot} {c : Contract} (hc : s.slot sl = some c)
    (hst : c.state.finished = true) : Reviewed X s (s.retire sl) := by
  refine .modifyContract (c := none) rfl rfl (.set rfl) fun k _ => ?_
  rw [hc]
  refine (Contract.claims_eq_false (c := c) ?_).symm
  cases hs : c.state <;> simp_all [ContractState.finished]

/-- A promised key is out of its list and not available; its contract claims no other (R4, R57, R68). -/
theorem State.promised_reviewed (s : State) (x : Nat) (k : KeyId) (g : Group) :
    Reviewed (fun j => False ∨ j = k) s (s.promised x k g) := by
  have h1 : SameRanks s (s.modifyKey k fun r => { r with promisedTo := some x }) := .modifyKey s k fun _ => rfl
  generalize hu : (s.modifyKey k fun r => { r with promisedTo := some x }) = u at h1
  have hkey : ∀ j, j ≠ k → u.key j = s.key j := fun j hj => by
    rw [← hu]; exact State.modifyKey_key_ne _ _ (Ne.symm hj)
  have ht : s.promised x k g = u.withKeys (u.keys.leave g k) := by rw [← hu]; rfl
  have hcomp : ∀ n, u.comp n = s.comp n := fun n => by rw [← hu]; rfl
  have hgd : ∀ n, u.guarded n → s.guarded n := fun n h => by rw [← hu] at h; exact h
  have hcl : ∀ j, u.claimed j = s.claimed j := fun j => State.claimed_of_eq (by rw [← hu]; rfl) j
  rw [ht]
  refine ⟨fun ho => (ho.of_ranks h1).leave _ _, fun ho j => or_iff_not_imp_left.mpr fun hj => .inr ?_⟩
  have hjk : j ≠ k := fun e => hj (.inr e)
  refine ⟨?_, ?_, fun ⟨n, hn, hgn⟩ => ⟨n, ?_, hgd n hgn⟩⟩
  · refine State.available_congr (congrArg _ (hkey j hjk)) (fun n _ => ?_) (hcl j)
    change (u.comp n).service = _ ∧ (u.comp n).known = _ ∧ (u.comp n).contents = _
    rw [hcomp]
    exact ⟨rfl, rfl, rfl⟩
  · change (u.key j).any (fun r' => ((u.keys.leave g k).lists.get r'.group).contains j) = s.inList j
    unfold State.inList
    rw [hkey j hjk]
    exact congrArg (fun f => Option.any f (s.key j)) (funext fun r' =>
      List.contains_congr (by rw [KeyTable.mem_leave hjk, h1.lists]))
  · change (u.key j).map KeyRecord.location = _ at hn
    rwa [hkey j hjk] at hn

theorem State.startPickup_reviewed {s t : State} {sl : Slot} {c : Contract} {k : KeyId} {o : Origin}
    (h : s.IndexOk) (hsl : s.slot sl = some c) (hst : c.state = .ticket)
    (ht : (∃ n, s.startPickup c.number k o = .started n t) ∨ s.startPickup c.number k o = .undone t) :
    Reviewed (fun _ => False) s t := by
  have hof : s.slotOf c.number = some sl := (State.slotOf_iff h.numbered).mpr ⟨c, hsl, rfl⟩
  obtain e | ⟨r, n, hr, -, -, hcase⟩ := s.startPickup_cases c.number k o
  · rw [e] at ht
    obtain ⟨_, h⟩ | h := ht <;> cases h
  have hofp : (s.promised c.number k r.group).slotOf c.number = some sl := hof
  have hpsl : (s.promised c.number k r.group).slot sl = some c := hsl
  have h1 := s.promised_reviewed c.number k r.group
  have hpk : (s.promised c.number k r.group).key k = some { r with promisedTo := some c.number } := by
    change (s.modifyKey k fun r => { r with promisedTo := some c.number }).key k = _
    rw [State.modifyKey_key_self, hr]; rfl
  have hpl : k ∉ (s.promised c.number k r.group).keys.lists.get r.group := by
    change k ∉ ((s.modifyKey k fun r => { r with promisedTo := some c.number }).keys.leave r.group k).lists.get r.group
    rw [KeyTable.get_leave, if_pos rfl]
    simp
  generalize s.promised c.number k r.group = u at hcase hofp hpsl h1 hpk hpl
  rw [State.modifyContract_eq hofp] at hcase
  have h2 : Reviewed (fun j => False ∨ j = k) s (u.modifySlot sl (Contract.toPicking k r.group)) := by
    refine h1.trans (.modifySlot u sl fun d hd j hj => ?_)
    obtain rfl := Option.some.inj (hpsl.symm.trans hd)
    have hjk : k ≠ j := fun e => hj (.inr e.symm)
    rw [Bool.eq_iff_iff, Contract.claims_iff, Contract.claims_iff]
    simp [Contract.toPicking, hst, hjk]
  obtain ⟨v, hv, e⟩ | e := hcase <;> rw [e] at ht
  · obtain ⟨_, ht⟩ | ht := ht <;> cases ht
    obtain ⟨hkeys, hcon⟩ := State.requestRelease_frame hv
    refine ((h2.trans ?_).resolve fun _ => .inl ?_)
    · refine .trans (t := (u.modifySlot sl (Contract.toPicking k r.group)).modifyComp n (Compartment.placed _)) ?_
        (.of_frame hkeys (State.requestRelease_calm hv) hcon)
      refine .of_local (.of_eq rfl) (fun _ _ => rfl) (fun j m _ _ => ?_) fun _ _ => State.claimed_of_eq rfl _
      by_cases e : n = m
      · subst e
        rw [State.modifyComp_comp_self]
        refine ⟨rfl, rfl, rfl, fun _ => .inl ?_⟩
        rw [(State.requestRelease_ok hv).1]; rfl
      · rw [State.guarded, State.modifyComp_comp_ne _ _ e]
        exact ⟨rfl, rfl, rfl, id⟩
    · have hkt : t.key k = some { r with promisedTo := some c.number } := by
        rw [State.key, hkeys]; exact hpk
      have ha : t.available k = false := by
        by_contra ha
        have := ((State.available_iff hkt).mp (by simpa using ha)).2.2.2.1
        cases this
      have hl : t.inList k = false := by
        by_contra hl
        have hin := (State.inList_iff hkt).mp (by simpa using hl)
        rw [hkeys] at hin
        exact hpl hin
      rw [ha, hl]
  · obtain ⟨_, ht⟩ | ht := ht <;> cases ht
    have hof1 : (u.modifySlot sl (Contract.toPicking k r.group)).slotOf c.number = some sl := by
      rw [← State.modifyContract_eq hofp, u.modifyContract_slotOf c.number (f := Contract.toPicking k r.group)
        fun _ => rfl, hofp]
    rw [State.modifyContract_eq hof1]
    have h3 : Reviewed (fun j => False ∨ j = k) s
        ((u.modifySlot sl (Contract.toPicking k r.group)).modifySlot sl Contract.toTicket) := by
      refine h2.trans (.modifySlot _ sl fun d hd j hj => ?_)
      rw [State.modifySlot_slot_self, hpsl] at hd
      obtain rfl := Option.some.inj hd
      have hjk : k ≠ j := fun e => hj (.inr e.symm)
      rw [Bool.eq_iff_iff, Contract.claims_iff, Contract.claims_iff]
      simp [Contract.toPicking, Contract.toTicket, hjk]
    exact ((h3.trans (State.clearPromise_reviewed _ (.inr rfl))).reexamine _ _).mono fun j ⟨hj, hne⟩ =>
      hne (hj.resolve_left id)

theorem State.answerTag_reviewed {X : KeyId → Prop} {s t : State} {tag : Nat} {n : CompId}
    (ht : s.answerTag tag = (.taken n, t)) : Reviewed X s t := by
  obtain ⟨x, k, u, hrec, hu, rfl⟩ := State.answerTag_taken ht
  obtain ⟨hkeys, hcon⟩ := State.requestRelease_frame hu
  have hcalm := (State.placed_calm (State.requestRelease_ok hu).1 fun _ _ => Purpose.noConfusion).trans
    (State.requestRelease_calm hu)
  obtain ⟨c, hc, hco⟩ := Option.map_eq_some_iff.mp (State.recognised_out hrec hcon)
  obtain ⟨sl, -, hturn⟩ := State.modifyContract_turned (f := fun c => { c with state := .returning }) hc rfl rfl
  refine (Reviewed.of_frame hkeys hcalm hcon).trans (hturn.reviewed (State.modifyContract_keys _ _ _).1
    (State.modifyContract_keys _ _ _).2 fun j _ => ?_)
  rw [Contract.claims_of_open (Contract.isOpen_iff.mpr (.inl hco)), Contract.claims_eq_false (by simp)]

theorem State.forceClose_reviewed {s : State} {sl : Slot} {c : Contract} (h : s.Booked fun _ => True)
    (hsl : s.slot sl = some c) (ho : c.isOpen = true) : Reviewed (fun _ => False) s (s.forceClose c) := by
  obtain ⟨k, hk, hloc⟩ := h.rented.handed sl c hsl ho
  have hst := (s.closeContract_still c.number .forceClosed s.present none).trans
    (State.cancelReturn_still _ c.number)
  have h1 : Reviewed (fun j => j = k) s
      ((s.closeContract c.number .forceClosed s.present none).cancelReturn c.number) :=
    (s.closeContract_reviewed _ _ _ _).trans (State.cancelReturn_reviewed _ _)
  unfold State.forceClose
  dsimp only
  rw [hk]
  refine ((h1.trans (State.moveKey_alone _ rfl fun n e => ?_)).reexamine _ k).mono fun j hj => hj.2 hj.1
  rw [hst.places.loc, hloc] at e
  cases e

theorem State.outOfService_reviewed {s : State} (h : s.LocationOk) (n : CompId) :
    Reviewed (fun _ => False) s (s.outOfService n) := by
  unfold State.outOfService
  split
  · exact .refl s
  · have h1 : Reviewed (fun j => s.loc j = some (.compartment n)) s
        (s.modifyComp n fun c => { c with service := .outOfService }) := by
      refine .of_local (.of_eq rfl) (fun _ _ => rfl) (fun j m hj hm => ?_) fun _ _ => State.claimed_of_eq rfl _
      have e : n ≠ m := fun e => hj (e ▸ hm)
      rw [State.guarded, State.modifyComp_comp_ne _ _ e]
      exact ⟨rfl, rfl, rfl, id⟩
    exact (h1.reexamineAll _ _).mono fun j hj => hj.2 (mem_keysOf.mpr ((h.2.1 j n).mpr hj.1))

theorem State.forceOpen_reviewed {X : KeyId → Prop} {s : State} (h : s.Booked fun _ => True) (n : CompId) :
    Reviewed X s (s.forceOpen n) := by
  have hm : ∀ b, Calm s ((s.modifyComp n fun c => { c with door := .forcedOpen, forced := true }).enter b) := fun b =>
    (Calm.unshut (f := fun c => { c with door := .forcedOpen, forced := true }) (fun _ => ⟨rfl, rfl, rfl, rfl⟩)
      fun _ => rfl).trans (.of_eq rfl)
  have hr : ∀ b, Reviewed X s ((s.modifyComp n fun c => { c with door := .forcedOpen, forced := true }).enter b) :=
    fun b => .of_frame rfl (hm b) rfl
  unfold State.forceOpen
  dsimp only
  split
  · exact State.relocked_reviewed ((hm _).trans (State.unqueue_calm _ n)) rfl rfl _ _ fun x k hp =>
      h.keyed trivial hp
  case h_2 | h_3 => exact (hr _).trans (.of_same (State.withdrawEntry_same _ _))
  all_goals exact hr _

theorem State.enrol_reviewed {s : State} {k : KeyId} {tag : Nat} {f : KeyFields} (hfree : s.key k = none) :
    Reviewed (fun _ => False) s (s.enrol k tag f) := by
  unfold State.enrol
  dsimp only
  generalize hr : (⟨tag, _, _, _, _, _, _, _, _, _, _⟩ : KeyRecord) = record
  have hloc : record.location = .staffHand := by rw [← hr]
  generalize hu : s.withKeys { s.keys with places := s.keys.places.set k (some record) } = u
  generalize s.holdersOf tag = ns
  have hkey : u.key k = some record := by rw [← hu]; exact Table.get_set_self _ _ _
  have hother : ∀ j, j ≠ k → u.key j = s.key j := fun j hj => by
    rw [← hu]; exact Table.get_set_ne _ _ (Ne.symm hj)
  have hlists : u.keys.lists = s.keys.lists := by rw [← hu]; rfl
  have hcomp : u.compartments = s.compartments := by rw [← hu]; rfl
  have hcon : u.contracts = s.contracts := by rw [← hu]; rfl
  have hno : s.Ordered → ∀ g, k ∉ s.keys.lists.get g := fun ho => ho.notMem (State.inList_of_none hfree)
  have h1 : Reviewed (fun _ => False) s u := by
    refine ⟨fun ho => ho.of_listed hlists fun g j hj => by rw [hother j fun e => hno ho g (e ▸ hj)],
      fun ho j => .inr ?_⟩
    by_cases e : j = k
    · subst e
      refine .inr (.of_elsewhere (fun n => by simp [State.loc, hfree]) (fun n => by simp [State.loc, hkey, hloc]) ?_)
      rw [State.inList_of_none hfree]
      by_contra hl
      have hin := (State.inList_iff hkey).mp (by simpa using hl)
      rw [hlists] at hin
      exact hno ho _ hin
    · refine .inr (.of_local (by rw [hother j e]) (by rw [hother j e]) hlists (fun n _ => ?_) (fun n _ hg => ?_)
        (State.claimed_of_eq hcon j))
      · rw [State.comp, hcomp]; exact ⟨rfl, rfl, rfl⟩
      · rwa [State.guarded, State.comp, hcomp] at hg
  exact h1.trans (.of_frame (State.requestSweeps_same u ns).1 (State.requestSweeps_calm u ns)
    (State.requestSweeps_same u ns).2)

theorem State.removeKey_reviewed {s : State} {k : KeyId} (hno : s.inList k = false) :
    Reviewed (fun _ => False) s (s.removeKey k) := by
  have hself : (s.removeKey k).key k = none := Table.get_set_self _ _ _
  have hother : ∀ j, j ≠ k → (s.removeKey k).key j = s.key j := fun j hj => Table.get_set_ne _ _ (Ne.symm hj)
  refine ⟨fun ho => ho.of_listed rfl fun g j hj => by rw [hother j fun e => ho.notMem hno g (e ▸ hj)],
    fun ho j => .inr ?_⟩
  by_cases e : j = k
  · subst e
    exact .inl ((State.inList_of_none hself).trans (State.available_of_none hself).symm)
  · exact .inr (.of_local (by rw [hother j e]) (by rw [hother j e]) rfl (fun _ _ => ⟨rfl, rfl, rfl⟩) (fun _ _ => id)
      (State.claimed_of_eq rfl j))

/-- An edited key takes its place in its new group's list, or stays outside both (R6, R9). -/
theorem State.editKey_reviewed {s : State} {k : KeyId} {r : KeyRecord} {f : KeyFields} (hk : s.key k = some r) :
    Reviewed (fun _ => False) s (s.editKey k r f) := by
  unfold State.editKey
  dsimp only
  generalize hu : (s.modifyKey k fun r => { r with label := f.label, group := f.group, transmission := f.transmission
                                                   energy := f.energy, seats := f.seats }) = u
  have huk : ∃ r', u.key k = some r' ∧ r'.group = f.group ∧ r'.fit = r.fit ∧ r'.idleSince = r.idleSince := by
    rw [← hu, State.modifyKey_key_self, hk]
    exact ⟨_, rfl, rfl, rfl, rfl⟩
  obtain ⟨r', hr', hg', hfit, hidle⟩ := huk
  have hother : ∀ j, j ≠ k → u.key j = s.key j := fun j hj => by
    rw [← hu]; exact State.modifyKey_key_ne _ _ (Ne.symm hj)
  have hlists : u.keys.lists = s.keys.lists := by rw [← hu]; rfl
  have hcomp : ∀ n, u.comp n = s.comp n := fun n => by rw [← hu]; rfl
  have hgd : ∀ n, u.guarded n → s.guarded n := fun n h => by rw [← hu] at h; exact h
  have hcl : ∀ j, u.claimed j = s.claimed j := fun j => State.claimed_of_eq (by rw [← hu]; rfl) j
  have hfits : ∀ j, (u.key j).map KeyRecord.fit = (s.key j).map KeyRecord.fit := fun j => by
    by_cases e : j = k
    · rw [e, hr', hk, Option.map_some, Option.map_some, hfit]
    · rw [hother j e]
  clear hu
  have standing : ∀ x : KeyTable, x.places = u.keys.places → ∀ j, (u.withKeys x).inList j = s.inList j →
      Unmoved s (u.withKeys x) j := fun x hx j hin => by
    have hkey : ∀ i, (u.withKeys x).key i = u.key i := fun i => congrArg (Table.get · i) hx
    refine ⟨State.available_congr (by rw [hkey]; exact hfits j) (fun n _ => ?_) (hcl j), hin,
      fun ⟨n, hn, hgn⟩ => ⟨n, ?_, hgd n hgn⟩⟩
    · change (u.comp n).service = _ ∧ (u.comp n).known = _ ∧ (u.comp n).contents = _
      rw [hcomp]
      exact ⟨rfl, rfl, rfl⟩
    · rw [State.loc, hkey] at hn
      exact (State.loc_of_fit (hfits j)).symm.trans hn
  split
  · next h =>
    obtain ⟨hin, hne⟩ := h
    have hleft : (s.withKeys (s.keys.leave r.group k)).keys.lists = (u.withKeys (u.keys.leave r.group k)).keys.lists := by
      change s.keys.lists.modify _ _ = u.keys.lists.modify _ _
      rw [hlists]
    refine ⟨fun ho => ?_, fun _ j => .inr (.inr (standing ((u.keys.leave r.group k).join f.group k) rfl j ?_))⟩
    · refine (ho.leave r.group k).join (u := u.withKeys (u.keys.leave r.group k)) (fun i hi => ?_) hleft.symm
        ⟨r', hr', hg'⟩ fun j hj => hother j hj
      change k ∈ (s.keys.leave r.group k).lists.get i at hi
      rw [KeyTable.get_leave] at hi
      split at hi
      · simp at hi
      · next e =>
        obtain ⟨r2, hr2, hg2⟩ := (ho i).2 k hi
        exact e (hg2.symm.trans (by rw [Option.some.inj (hr2.symm.trans hk)]))
    · by_cases e : j = k
      · rw [e, hin]
        refine (State.inList_iff (s := u.withKeys ((u.keys.leave r.group k).join f.group k)) hr').mpr ?_
        rw [hg']
        exact KeyTable.mem_join_self _ _ _
      · change (u.key j).any (fun r2 => (((u.keys.leave r.group k).join f.group k).lists.get r2.group).contains j)
          = s.inList j
        unfold State.inList
        rw [hother j e]
        exact congrArg (fun f => Option.any f (s.key j)) (funext fun r2 =>
          List.contains_congr (by rw [KeyTable.mem_join e, KeyTable.mem_leave e, hlists]))
  · next h =>
    have hgroup : s.inList k = true → f.group = r.group := fun hin => by
      by_contra hne
      exact h ⟨hin, hne⟩
    refine ⟨fun ho => ho.of_listed hlists fun g j hj => ?_, fun ho j => .inr (.inr (standing u.keys rfl j ?_))⟩
    · by_cases e : j = k
      · subst e
        obtain ⟨r2, hr2, rfl⟩ := (ho g).2 j hj
        obtain rfl := Option.some.inj (hr2.symm.trans hk)
        rw [hr', hk, Option.map_some, Option.map_some, KeyRecord.rank, KeyRecord.rank, hg',
          hgroup ((State.inList_iff hk).mpr hj), hidle]
      · rw [hother j e]
    · by_cases e : j = k
      · subst e
        rw [Bool.eq_iff_iff]
        refine (State.inList_iff (s := u.withKeys u.keys) hr').trans ?_
        change j ∈ u.keys.lists.get r'.group ↔ _
        rw [hg', hlists]
        constructor
        · intro hj
          obtain ⟨r2, hr2, hg2⟩ := (ho f.group).2 j hj
          obtain rfl := Option.some.inj (hr2.symm.trans hk)
          exact (State.inList_iff hk).mpr (hg2 ▸ hj)
        · intro hin
          rw [hgroup hin]
          exact (State.inList_iff hk).mp hin
      · exact State.inList_congr (t := u.withKeys u.keys) (congrArg _ (hother j e)) hlists

theorem State.rewriteKey_reviewed (s : State) (k : KeyId) {f : KeyRecord → KeyRecord}
    (hf : ∀ r, (f r).rank = r.rank) (m : Nat) : Reviewed (fun _ => False) s ((s.modifyKey k f).reexamine m k) :=
  ((Reviewed.modifyKey (X := fun j => j = k) s hf rfl).reexamine m k).mono fun _ h => h.2 h.1

/-! ### The drop box (R103-R108) -/

/-- A key that goes from one place outside the cabinet to another keeps its standing. -/
theorem Reviewed.of_elsewhere {s t : State} {k : KeyId} (h : Reviewed (fun j => False ∨ j = k) s t)
    (hs : ∀ n, s.loc k ≠ some (.compartment n)) (ht : ∀ n, t.loc k ≠ some (.compartment n))
    (hl : t.inList k = s.inList k) : Reviewed (fun _ => False) s t :=
  h.resolve fun _ => .inr (.of_elsewhere hs ht hl)

theorem State.takeFromDrop_reviewed (s : State) (k : KeyId) : Reviewed (fun _ => False) s (s.takeFromDrop k) := by
  have hrank : ∀ r : KeyRecord, (if r.location = .drop then { r with location := .staffHand } else r).rank = r.rank :=
    fun r => by split <;> rfl
  by_cases h : s.loc k = some .drop
  · have hm : Moved s (s.takeFromDrop k) k .staffHand := by
      obtain hs | ⟨-, hm⟩ := s.takeFromDrop_moved k
      · exfalso
        have := (hs.places.loc k).trans h
        rw [State.loc, State.takeFromDrop, State.modifyKey_key_self, Option.map_map] at this
        obtain ⟨r, hr, e⟩ := Option.map_eq_some_iff.mp this
        dsimp only [Function.comp] at e
        split at e
        · cases e
        · next hne => exact hne e
      · exact hm
    have hr := SameRanks.modifyKey s k hrank
    refine Reviewed.of_elsewhere (.modifyKey s hrank (.inr rfl)) (fun n => by simp [h]) (fun n e => ?_)
      (State.inList_congr (hr.rank k) hr.lists)
    have hl := hm.loc k
    rw [if_pos rfl] at hl
    obtain ⟨_, -, e'⟩ := Option.map_eq_some_iff.mp (hl.symm.trans e)
    cases e'
  · refine .of_local (.modifyKey s k hrank) (fun j _ => ?_) (fun _ _ _ _ => ⟨rfl, rfl, rfl, id⟩) fun j _ =>
      State.claimed_of_eq rfl j
    by_cases e : k = j
    · subst e
      rw [State.takeFromDrop, State.modifyKey_key_self]
      cases hk : s.key k with
      | none => rfl
      | some r =>
        have hl : r.location ≠ .drop := fun hl => h (by rw [State.loc, hk, Option.map_some, hl])
        rw [Option.map_some, if_neg hl]
    · rw [State.takeFromDrop, State.modifyKey_key_ne _ _ e]

theorem State.takeAllFromDrop_reviewed (s : State) (ks : List KeyId) :
    Reviewed (fun _ => False) s (ks.foldl State.takeFromDrop s) := by
  induction ks generalizing s with
  | nil => exact .refl s
  | cons k ks ih => exact (s.takeFromDrop_reviewed k).trans (ih _)

theorem State.keyDropped_reviewed {X : KeyId → Prop} (s : State) {k : KeyId} (hk : X k)
    (hx : ∀ j n, s.loc k = some (.compartment n) → s.loc j = some (.compartment n) → X j) :
    Reviewed X s (s.keyDropped k) :=
  (s.moveKey_reviewed hk fun j n h _ => hx j n h).trans
    (.modifyKey (f := fun r => { r with mark := .unchecked }) _ (fun _ => rfl) hk)

theorem State.dropReturn_reviewed {s : State} {k : KeyId} {x : Nat} (hloc : s.loc k = some (.out x))
    (m : Option Nat) : Reviewed (fun _ => False) s (s.dropReturn k x m) := by
  have hst := (s.closeContract_still x .drop m none).trans (State.cancelReturn_still _ x)
  have h1 : Reviewed (fun j => j = k) s ((s.closeContract x .drop m none).cancelReturn x) :=
    (s.closeContract_reviewed _ _ _ _).trans (State.cancelReturn_reviewed _ _)
  refine ((h1.trans (State.keyDropped_reviewed _ rfl fun j n e => ?_)).reexamine _ k).mono fun j hj => hj.2 hj.1
  rw [hst.places.loc, hloc] at e
  cases e

theorem State.keyDropped_inList (s : State) (k j : KeyId) : (s.keyDropped k).inList j = s.inList j := by
  have hr : SameRanks s (s.keyDropped k) := (s.moveKey_ranks k .drop).trans
    (.modifyKey (f := fun r => { r with mark := .unchecked }) _ k fun _ => rfl)
  exact State.inList_congr (hr.rank j) hr.lists

theorem State.dropOther_reviewed {s : State} {k : KeyId} {l : Location} (h : s.LocationOk)
    (hb : s.Booked fun _ => True) (hl : s.loc k = some l) (hx : ∀ x, l ≠ .out x) :
    Reviewed (fun _ => False) s (s.dropOther k l) := by
  have hm := s.keyDropped_moved k
  unfold State.dropOther
  dsimp only
  split
  · next m =>
    have hkl := State.keyDropped_located h k
    have hbk : (s.keyDropped k).Booked fun _ => True :=
      hb.of_moved hm (fun x e => hx x (Option.some.inj (hl.symm.trans e))) (fun x => by simp)
        (s.keyDropped_frame k).1 (s.keyDropped_frame k).2
    have h1 : Reviewed (fun j => j = k ∨ s.loc j = some (.compartment m)) s (s.keyDropped k) :=
      s.keyDropped_reviewed (.inl rfl) fun j n e hj => by
        obtain rfl := Location.compartment.inj (Option.some.inj (hl.symm.trans e))
        exact .inr hj
    have hsweep := State.requestSweep_still (s.keyDropped k) m
    have hbs : ((s.keyDropped k).requestSweep m).Booked fun _ => True :=
      hbk.of_calm (State.requestSweep_contracts _ _) hsweep.places (State.requestSweep_calm _ _).pickup
    have h2 := h1.trans (.of_frame (State.requestSweep_keys (s.keyDropped k) m) (State.requestSweep_calm _ m)
      (State.requestSweep_contracts _ _))
    have h3 := h2.trans (State.withdrawPromise_reviewed _ (.inl rfl) none fun n _ x k' hp => hbs.keyed trivial hp)
    have hst := hsweep.trans (State.withdrawPromise_still ((s.keyDropped k).requestSweep m) k none)
    refine (h3.reexamineAll _ _).mono fun j ⟨hj, hno⟩ => ?_
    obtain ⟨hjk, hjn⟩ := not_or.mp (List.mem_cons.not.mp hno)
    obtain hj | hj := hj
    · exact hjk hj
    · refine hjn (mem_keysOf.mpr (((hkl.of_still hst).2.1 j m).mpr ?_))
      change State.loc _ j = _
      rw [hst.places.loc, hm.loc j, if_neg hjk]
      exact hj
  case h_2 => exact absurd rfl (hx _)
  all_goals
    have hs : ∀ n, s.loc k ≠ some (.compartment n) := fun n => by rw [hl]; simp
    refine (s.keyDropped_reviewed (.inr rfl) fun j n e => absurd e (hs n)).of_elsewhere hs (fun n e => ?_)
      (s.keyDropped_inList k k)
    rw [hm.loc k, if_pos rfl] at e
    obtain ⟨_, -, e⟩ := Option.map_eq_some_iff.mp e
    cases e

theorem State.dropKey_reviewed {s : State} (h : s.LocationOk) (hb : s.Booked fun _ => True) (x : Nat) (k : KeyId)
    (m : Option Nat) : Reviewed (fun _ => False) s (s.dropKey x k m) := by
  have ha : ∀ e, Reviewed (fun _ => False) s (s.appendDrop e) := fun e => .of_same ⟨rfl, rfl, rfl⟩
  unfold State.dropKey
  split
  · exact .refl s
  · next y hl =>
    exact (ha _).trans (State.dropReturn_reviewed (s := s.appendDrop { tag := some x, key := some k, minute := m
                                                                       contract := some y }) hl m)
  · next l hno hl =>
    exact (ha _).trans (State.dropOther_reviewed (s := s.appendDrop { tag := some x, key := some k, minute := m
                                                                      contract := none })
      (h.of_same ⟨rfl, rfl, rfl⟩) (hb.of_calm rfl (.of_eq rfl) (.of_eq rfl)) hl hno)

theorem State.chute_reviewed {s : State} (h : s.LocationOk) (hb : s.Booked fun _ => True) (tag : Option Nat) :
    Reviewed (fun _ => False) s (s.chute tag) := by
  obtain hs | ⟨x, k, -, hs⟩ := s.chute_cases tag
  · exact .of_same hs
  · exact (State.dropKey_reviewed h hb x k _).trans (.of_same hs)

end Sys2Proof.Machine
end

section
/-! SUPPORT. The standing of the keys through a read's reconciliation: the last step re-examines every key whose standing
the others can have changed (R47-R53). -/

namespace Sys2Proof.Machine

/-! ### Step 1 (R47, R74) -/

theorem State.handedOut_reviewed {X : KeyId → Prop} {s : State} {i : ScanInput} {x : Nat} {k : KeyId} {sl : Slot}
    {c : Contract} (hc : s.slot sl = some c) (hX : ∀ j, c.entitlement = .specific j → X j) (hk : X k)
    (hx : ∀ j n, s.loc k = some (.compartment n) → s.loc j = some (.compartment n) → X j) :
    Reviewed X s (s.handedOut i x k sl) := by
  have h1 : Reviewed X s (s.modifySlot sl fun c => { c with state := .out, handoutMinute := i.minute }) :=
    .modifySlot s sl fun d hd j hj => by
      obtain rfl := Option.some.inj (hc.symm.trans hd)
      rw [Contract.claims_eq_false (by simp)]
      by_contra h
      exact hj (hX j (Contract.claims_iff.mp (by simpa using Ne.symm h)).1)
  have h2 := h1.trans (.of_slots (t := (s.modifySlot sl fun c =>
    { c with state := .out, handoutMinute := i.minute }).dropCode sl) rfl rfl rfl)
  exact (h2.trans (State.moveKey_reviewed _ hk fun j n h _ => hx j n h)).trans (.enter _ _)

theorem State.keyGone_reviewed {X : KeyId → Prop} (s : State) (i : ScanInput) {k : KeyId} (hk : X k)
    (hx : ∀ j n, s.loc k = some (.compartment n) → s.loc j = some (.compartment n) → X j) :
    Reviewed X s (s.keyGone i k) := by
  obtain ⟨x, -, hp, he⟩ | ⟨l, b, -, he⟩ := s.keyGone_cases i k <;> rw [he]
  · obtain ⟨sl, c, hsl, hc, -⟩ := State.contractState_slotOf hp
    obtain ⟨h, hkey⟩ | ⟨e, hent, -, h⟩ := State.handoutDone_cases (i := i) (k := k) hsl hc <;> rw [h]
    · exact State.handedOut_reviewed hc (fun j hj => hkey j hj ▸ hk) hk hx
    · refine (Reviewed.reexamine (X := fun j => X j ∨ j = e) (State.handedOut_reviewed hc (fun j hj => ?_) (.inl hk)
        fun j n h1 h2 => .inl (hx j n h1 h2)) _ e).mono fun j hj => hj.1.resolve_right hj.2
      exact .inr (Entitlement.specific.inj (hent.symm.trans hj)).symm
  · exact (s.moveKey_reviewed hk fun j n h _ => hx j n h).trans (.enter _ _)

theorem State.keysGone_reviewed {X : KeyId → Prop} {i : ScanInput} {G : List KeyId} {s : State} (hG : ∀ k ∈ G, X k)
    (hin : ∀ k ∈ G, ∀ n, s.loc k = some (.compartment n) → n = i.comp)
    (hX : ∀ j, s.loc j = some (.compartment i.comp) → X j) :
    Reviewed X s (G.foldl (fun s k => s.keyGone i k) s) := by
  induction G generalizing s with
  | nil => exact .refl s
  | cons k G ih =>
    obtain ⟨l, hl, hm⟩ := s.keyGone_moved i k
    have stays : ∀ j n, (s.keyGone i k).loc j = some (.compartment n) → s.loc j = some (.compartment n) := by
      intro j n e
      rw [hm.loc j] at e
      split at e
      · obtain ⟨_, -, e⟩ := Option.map_eq_some_iff.mp e
        exact absurd e (hl n)
      · exact e
    refine Reviewed.trans (s.keyGone_reviewed i (hG k List.mem_cons_self) fun j n h1 h2 => ?_)
      (ih (fun j hj => hG j (List.mem_cons_of_mem _ hj)) (fun j hj n e =>
        hin j (List.mem_cons_of_mem _ hj) n (stays j n e)) fun j e => hX j (stays j _ e))
    obtain rfl := hin k List.mem_cons_self n h1
    exact hX j h2

theorem State.handedOut_guarded (s : State) (i : ScanInput) (x : Nat) (k : KeyId) (sl : Slot) (n : CompId) :
    (s.handedOut i x k sl).guarded n ↔ s.guarded n := State.moveKey_guarded _ k _ n

theorem State.keyGone_guarded (s : State) (i : ScanInput) (k : KeyId) (n : CompId) :
    (s.keyGone i k).guarded n ↔ s.guarded n := by
  obtain ⟨x, -, hp, he⟩ | ⟨l, b, -, he⟩ := s.keyGone_cases i k <;> rw [he]
  · obtain ⟨sl, c, hsl, hc, -⟩ := State.contractState_slotOf hp
    obtain ⟨h, -⟩ | ⟨e, -, -, h⟩ := State.handoutDone_cases (i := i) (k := k) hsl hc <;> rw [h]
    · exact s.handedOut_guarded i x k sl n
    · rw [State.reexamine_frame]
      exact s.handedOut_guarded i x k sl n
  · exact s.moveKey_guarded k l n

theorem State.keysGone_guarded (i : ScanInput) (G : List KeyId) (s : State) (n : CompId) :
    (G.foldl (fun s k => s.keyGone i k) s).guarded n ↔ s.guarded n := by
  induction G generalizing s with
  | nil => rfl
  | cons k G ih => exact (ih _).trans (s.keyGone_guarded i k n)

/-! ### Step 2 (R48, R49) -/

theorem State.keyFound_guarded {s : State} {i : ScanInput} {log : FoundLog} {k : KeyId} {n : CompId}
    (h : (s.keyFound i log k).1.guarded n) : s.guarded n := by
  revert h
  unfold State.keyFound
  split
  · exact id
  · have closed : ∀ x r m c, (s.closeContract x r m c).guarded n → s.guarded n := fun x r m c h => by
      rwa [State.guarded, State.comp, s.closeContract_compartments] at h
    split
    · exact fun h => closed _ _ _ _ ((State.moveKey_guarded _ _ _ _).mp h)
    · exact fun h => closed _ _ _ _ ((State.cancelReturn_calm _ _).guarded n ((State.moveKey_guarded _ _ _ _).mp h))
  · split
    · exact id
    · exact fun h => (s.moveKey_guarded _ _ n).mp ((State.requestSweep_calm _ _).guarded n
        ((State.withdrawPromise_calm _ _ _).guarded n h))
  all_goals exact (s.moveKey_guarded _ _ n).mp

theorem State.keyFound_reviewed {X : KeyId → Prop} {s : State} {i : ScanInput} (log : FoundLog) {k : KeyId}
    (hb : s.Booked (· ≠ i.comp)) (hg : ¬ s.guarded i.comp) (hk : X k)
    (hx : ∀ m, s.loc k = some (.compartment m) → m ≠ i.comp → ∀ j, s.loc j = some (.compartment m) → X j) :
    Reviewed X s (s.keyFound i log k).1 := by
  have outside : ∀ l, (s.key k).map KeyRecord.location = some l → (∀ n, l ≠ .compartment n) →
      ∀ n, s.loc k ≠ some (.compartment n) := fun l hl hn n e => hn n (Option.some.inj (hl.symm.trans e))
  unfold State.keyFound
  split
  · exact .refl s
  · next c hl =>
    have hs := outside _ hl fun n => by simp
    have hc : Reviewed X s (s.closeContract c .compartment i.minute (some i.comp)) := s.closeContract_reviewed _ _ _ _
    have hc' : Reviewed X s ((s.closeContract c .stray i.minute (some i.comp)).cancelReturn c) :=
      (s.closeContract_reviewed _ _ _ _).trans (State.cancelReturn_reviewed _ _)
    split
    · refine hc.trans (State.moveKey_alone _ hk fun n => ?_)
      rw [(s.closeContract_still _ _ _ _).places.loc]
      exact hs n
    · refine hc'.trans (State.moveKey_alone _ hk fun n => ?_)
      rw [((s.closeContract_still _ _ _ _).trans (State.cancelReturn_still _ _)).places.loc]
      exact hs n
  · next m hl =>
    split
    · exact .refl s
    · next hm =>
      have hl : s.loc k = some (.compartment m) := hl
      have h1 : Reviewed X s (s.moveKey k (.compartment i.comp)) := s.moveKey_reviewed hk fun j n h1 _ h2 => by
        obtain rfl := Location.compartment.inj (Option.some.inj (hl.symm.trans h1))
        exact hx _ hl hm j h2
      have h2 := h1.trans (.of_frame (State.requestSweep_keys (s.moveKey k (.compartment i.comp)) m)
        (State.requestSweep_calm _ m) (State.requestSweep_contracts _ _))
      have hb1 := hb.of_moved (s.moveKey_moved k (.compartment i.comp)) (fun x => by simp [hl]) (fun x => by simp)
        (s.moveKey_frame _ _).1 (s.moveKey_fewer _ _)
      have hb2 := hb1.of_calm (State.requestSweep_contracts (s.moveKey k (.compartment i.comp)) m)
        (.of_eq (State.requestSweep_keys _ _)) (State.requestSweep_calm _ _).pickup
      refine h2.trans (State.withdrawPromise_reviewed _ hk _ fun n hn x k' hp => hb2.keyed ?_ hp)
      rintro rfl
      exact hg ((s.moveKey_guarded _ _ _).mp ((State.requestSweep_calm _ _).guarded _ hn))
  case h_4 hl | h_5 hl | h_6 hl => exact s.moveKey_alone hk (outside _ hl fun n => by simp)

/-- What a found key adds to the log: itself with a closed contract, or the compartment it left. -/
theorem State.keyFound_log (s : State) (i : ScanInput) (log : FoundLog) (k : KeyId) :
    (∀ m ∈ log.lost, m ∈ (s.keyFound i log k).2.lost)
      ∧ (∀ m, s.loc k = some (.compartment m) → m ≠ i.comp → m ∈ (s.keyFound i log k).2.lost)
      ∧ ∀ p ∈ (s.keyFound i log k).2.closed, p ∈ log.closed ∨ p.1 = k := by
  unfold State.keyFound State.loc
  cases (s.key k).map KeyRecord.location with
  | none => exact ⟨fun _ h => h, fun _ h => (by cases h), fun _ h => .inl h⟩
  | some l =>
    cases l with
    | out c =>
      dsimp only
      split <;> exact ⟨fun _ h => h, fun _ h => (by cases h), fun p hp =>
        (List.mem_append.mp hp).imp id fun h => congrArg Prod.fst (List.mem_singleton.mp h)⟩
    | compartment m =>
      dsimp only
      split
      · next e =>
        refine ⟨fun _ h => h, fun m' h hm => absurd ?_ hm, fun _ h => .inl h⟩
        exact (Location.compartment.inj (Option.some.inj h)).symm.trans e
      · refine ⟨fun _ h => List.mem_append_left _ h, fun m' h _ => ?_, fun _ h => .inl h⟩
        obtain rfl := Location.compartment.inj (Option.some.inj h)
        exact List.mem_append_right _ (List.mem_singleton.mpr rfl)
    | drop | staffHand | missing => exact ⟨fun _ h => h, fun _ h => (by cases h), fun _ h => .inl h⟩

theorem State.keysFound_log (i : ScanInput) (F : List KeyId) (p : State × FoundLog) :
    (∀ m ∈ p.2.lost, m ∈ (F.foldl (fun p k => p.1.keyFound i p.2 k) p).2.lost)
      ∧ ∀ q ∈ (F.foldl (fun p k => p.1.keyFound i p.2 k) p).2.closed, q ∈ p.2.closed ∨ q.1 ∈ F := by
  induction F generalizing p with
  | nil => exact ⟨fun _ h => h, fun _ h => .inl h⟩
  | cons k F ih =>
    obtain ⟨h1, -, h3⟩ := p.1.keyFound_log i p.2 k
    obtain ⟨g1, g2⟩ := ih (p.1.keyFound i p.2 k)
    refine ⟨fun m hm => g1 m (h1 m hm), fun q hq => ?_⟩
    obtain hq | hq := g2 q hq
    · exact (h3 q hq).imp id fun e : q.1 = k => e ▸ List.mem_cons_self
    · exact .inr (List.mem_cons_of_mem _ hq)

theorem State.keysFound_reviewed {X : KeyId → Prop} {s : State} {i : ScanInput} {F : List KeyId}
    {p : State × FoundLog} (hb : p.1.Booked (· ≠ i.comp)) (hg : ¬ p.1.guarded i.comp) (hF : ∀ k ∈ F, X k)
    (hloc : ∀ j, ¬ X j → p.1.loc j = s.loc j)
    (hlost : ∀ m ∈ (F.foldl (fun p k => p.1.keyFound i p.2 k) p).2.lost, ∀ j, s.loc j = some (.compartment m) → X j) :
    Reviewed X p.1 (F.foldl (fun p k => p.1.keyFound i p.2 k) p).1 := by
  induction F generalizing p with
  | nil => exact .refl _
  | cons k F ih =>
    have hk := hF k List.mem_cons_self
    have hm := p.1.keyFound_moved i p.2 k
    obtain ⟨-, h2, -⟩ := p.1.keyFound_log i p.2 k
    refine Reviewed.trans (State.keyFound_reviewed p.2 hb hg hk fun m hl hne j hj => ?_)
      (ih (p := p.1.keyFound i p.2 k) (p.1.keyFound_settling (K := fun _ => True) i p.2 trivial hb).1
        (fun h => hg (State.keyFound_guarded h)) (fun j hj => hF j (List.mem_cons_of_mem _ hj)) (fun j hj => ?_) hlost)
    · by_contra hX
      exact hX (hlost m ((State.keysFound_log i F (p.1.keyFound i p.2 k)).1 m (h2 m hl hne)) j
        ((hloc j hX).symm.trans hj))
    · rw [hm.loc j, if_neg fun e : j = k => hj (e ▸ hk)]
      exact hloc j hj

/-! ### The keys a reconciliation touches (R53) -/

/-- The keys that step 9 re-examines, by their places before the read. -/
def State.Touched (s : State) (i : ScanInput) (j : KeyId) : Prop :=
  j ∈ keysOf i.before ∨ j ∈ (s.step1 i).foundKeys i.found ∨ s.releaseKey i.comp = some j
    ∨ ∃ m ∈ ((s.step1 i).step2 i).2.lost, s.loc j = some (.compartment m)

section
variable {s : State} {i : ScanInput} (h : s.LocationOk) (hb : i.before = (s.comp i.comp).contents)
include h hb

theorem State.touched_inside {j : KeyId} (hj : s.loc j = some (.compartment i.comp)) : s.Touched i j :=
  .inl (mem_keysOf.mpr (hb ▸ (h.2.1 j i.comp).mpr hj))

theorem State.step1_reviewed : Reviewed (s.Touched i) s (s.step1 i) := by
  refine State.keysGone_reviewed (fun k hk => .inl (List.mem_filter.mp hk).1) (fun k hk n hn => ?_)
    fun j hj => State.touched_inside h hb hj
  have hin := mem_keysOf.mp (List.mem_filter.mp hk).1
  rw [hb] at hin
  exact Location.compartment.inj (Option.some.inj (hn.symm.trans ((h.2.1 k i.comp).mp hin)))

omit h hb in
theorem State.step1_loc {j : KeyId} (hj : ¬ s.Touched i j) : (s.step1 i).loc j = s.loc j :=
  (State.keysGone_moved i _ s).2.1 j fun hm => hj (.inl (List.mem_filter.mp hm).1)

omit h hb in
theorem State.sorted_loc {j : KeyId} (hj : ¬ s.Touched i j) : (s.sorted i).loc j = s.loc j := by
  have h2 := (State.keysFound_moved i ((s.step1 i).foundKeys i.found) (s.step1 i, ⟨[], []⟩)).2.1 j
    fun hm => hj (.inr (.inl hm))
  have h3 := (Still.of_same (((s.step1 i).step2 i).1.step3_same i).toSameRecords).places.loc j
  exact (h3.trans h2).trans (State.step1_loc hj)

theorem State.sorted_reviewed (hc : s.Carries i) (hs : s.Booked fun _ => True) (hg : ¬ s.guarded i.comp) :
    Reviewed (s.Touched i) s (s.sorted i) := by
  obtain ⟨b1, -⟩ := State.step1_booked h hb hc hs
  have h2 : Reviewed (s.Touched i) (s.step1 i) ((s.step1 i).step2 i).1 :=
    State.keysFound_reviewed (s := s) (p := (s.step1 i, ⟨[], []⟩)) b1
      (fun hgd => hg ((State.keysGone_guarded i _ s i.comp).mp hgd)) (fun k hk => .inr (.inl hk))
      (fun j hj => State.step1_loc hj) fun m hm j hj => .inr (.inr (.inr ⟨m, hm, hj⟩))
  have h3 := (State.step1_reviewed h hb).trans (h2.trans (.of_same (((s.step1 i).step2 i).1.step3_same i).toSameRecords))
  refine h3.trans (.of_local (.of_eq rfl) (fun _ _ => rfl) (fun j n hj hn => ?_) fun _ _ => State.claimed_of_eq rfl _)
  have e : i.comp ≠ n := fun e => by
    have hl : (s.sorted i).loc j = some (.compartment n) := hn
    rw [State.sorted_loc hj, ← e] at hl
    exact hj (State.touched_inside h hb hl)
  rw [State.guarded, State.sorted, State.step4, State.modifyComp_comp_ne _ _ e]
  exact ⟨rfl, rfl, rfl, id⟩

/-- The pickup that a read carries is for its contract's key, whether or not step 1 has handed it out. -/
theorem State.sorted_keyed (hc : s.Carries i) (hs : s.Booked fun _ => True) {x : Nat} {k : KeyId}
    (hp : i.purpose = .pickup x k) : (s.sorted i).Keyed x k := by
  have h0 : s.Keyed x k := hs.keyed trivial (hc x k hp)
  obtain ⟨b1, c1⟩ := State.step1_booked h hb hc hs
  have h1 : (s.step1 i).Keyed x k := by
    obtain c1 | ⟨-, -, -, -, sl, c, d, -, -, hr, hd, -⟩ := c1
    · exact h0.of_eq c1
    · intro j e he hex hst
      by_cases ej : j = sl
      · subst ej
        obtain rfl := Option.some.inj (hr.self.symm.trans he)
        rw [hd] at hst; cases hst
      · exact h0 j e ((hr.other j ej).symm.trans he) hex hst
  obtain ⟨-, t4⟩ := State.sorted_settling (K := fun _ => True) (fun _ _ => trivial) b1
  intro j e he hex hst
  have ht := t4 j
  rw [he] at ht
  cases hs1 : (s.step1 i).slot j with
  | none => rw [hs1] at ht; cases ht
  | some c =>
    rw [hs1] at ht
    cases ht with
    | same => exact h1 j e hs1 hex hst
    | back _ hd => rw [hst] at hd; simp at hd
    | failed _ _ _ hd => rw [hst] at hd; cases hd
    | closed _ _ _ hd => rw [hst] at hd; cases hd

omit h hb in
theorem State.step6_compartments : (((s.sorted i).step5 i).step6 i).compartments = (s.sorted i).compartments := by
  have h5 : ((s.sorted i).step5 i).compartments = (s.sorted i).compartments := by
    unfold State.step5
    split
    · rw [State.fallBack_frame]
    · rfl
  refine Eq.trans ?_ h5
  unfold State.step6
  split
  · rw [State.returnFailed_frame]
  · rfl

theorem State.swept_reviewed (hc : s.Carries i) (hs : s.Booked fun _ => True) (hg : ¬ s.guarded i.comp) :
    Reviewed (s.Touched i) s (((s.sorted i).step5 i).step6 i) := by
  refine (State.sorted_reviewed h hb hc hs hg).trans (Reviewed.trans (t := (s.sorted i).step5 i) ?_ ?_)
  · unfold State.step5
    split
    · next x k hp =>
      have hk : s.releaseKey i.comp = some k := by
        obtain ⟨o, ho⟩ := Compartment.pickup?_eq_some.mp (hc x k hp)
        rw [State.releaseKey, ho]; rfl
      exact State.fallBack_reviewed (State.sorted_keyed h hb hc hs hp) (.inr (.inr (.inl hk))) _ _
    · exact .refl _
  · unfold State.step6
    split
    · exact State.returnFailed_reviewed _ _ _ _ _
    · exact .refl _

theorem State.step7_reviewed (hc : s.Carries i) (hs : s.Booked fun _ => True) (hg : ¬ s.guarded i.comp) :
    Reviewed (s.Touched i) s ((((s.sorted i).step5 i).step6 i).step7 i.comp) := by
  have h6 := State.swept_reviewed h hb hc hs hg
  have hloc : ∀ j, ¬ s.Touched i j → (((s.sorted i).step5 i).step6 i).loc j = s.loc j := fun j hj =>
    (((State.step5_still _ i).trans (State.step6_still _ i)).places.loc j).trans (State.sorted_loc hj)
  have hrel : ∀ k, (((s.sorted i).step5 i).step6 i).releaseKey i.comp = some k → s.releaseKey i.comp = some k := by
    intro k hk
    obtain ⟨r, hr, hrk⟩ := Option.bind_eq_some_iff.mp hk
    have hf : FewerReleases s (((s.sorted i).step5 i).step6 i) :=
      (State.keysGone_releases i _ s).trans ((s.sorted_releases i).trans (.of_eq State.step6_compartments))
    rw [State.releaseKey, hf _ r hr]
    exact hrk
  generalize ((s.sorted i).step5 i).step6 i = u at h6 hloc hrel
  have hlock : ∀ v : State, (∀ j, v.loc j = u.loc j) → Reviewed (s.Touched i) v (v.modifyComp i.comp fun c =>
      { c with release := none, reservation := none, door := .locked }) := fun v hv => by
    refine .of_local (.of_eq rfl) (fun _ _ => rfl) (fun j n hj hn => ?_) fun _ _ => State.claimed_of_eq rfl _
    have e : i.comp ≠ n := fun e => by
      rw [hv, hloc j hj, ← e] at hn
      exact hj (State.touched_inside h hb hn)
    rw [State.guarded, State.modifyComp_comp_ne _ _ e]
    exact ⟨rfl, rfl, rfl, id⟩
  unfold State.step7
  dsimp only
  split
  · next k hk =>
    exact (h6.trans (u.clearPromise_reviewed (.inr (.inr (.inl (hrel k hk)))))).trans
      (hlock _ fun j => (u.clearPromise_still k).places.loc j)
  · exact h6.trans (hlock u fun _ => rfl)

omit h hb in
theorem State.step8_reviewed (u : State) :
    Reviewed (s.Touched i) u (u.step8 ((s.step1 i).step2 i).2) := by
  have mark : ∀ (v : State) k r, s.Touched i k → Reviewed (s.Touched i) v (v.markReturned k r) := fun v k r hk => by
    unfold State.markReturned
    split
    · exact .refl v
    · split
      · exact .modifyKey (f := fun r => { r with mark := .unchecked }) v (fun _ => rfl) hk
      · exact .refl v
  have hF : ∀ q ∈ ((s.step1 i).step2 i).2.closed, s.Touched i q.1 := fun q hq =>
    .inr (.inl (((State.keysFound_log i ((s.step1 i).foundKeys i.found) (s.step1 i, ⟨[], []⟩)).2 q hq).resolve_left
      (by simp)))
  unfold State.step8
  generalize ((s.step1 i).step2 i).2.closed = l at hF
  induction l generalizing u with
  | nil => exact .refl u
  | cons q l ih =>
    exact (mark u q.1 q.2 (hF q List.mem_cons_self)).trans (ih _ fun q' hq => hF q' (List.mem_cons_of_mem _ hq))

/-- The last step re-examines every key whose standing the others can have changed (R53). -/
theorem State.reconcile_reviewed (hn : i.found.Nodup) (hc : s.Carries i) (hs : s.Booked fun _ => True)
    (hg : ¬ s.guarded i.comp) : Reviewed (fun _ => False) s (s.reconcile i) := by
  have h8 := (State.step7_reviewed h hb hc hs hg).trans (State.step8_reviewed (s := s) (i := i)
    ((((s.sorted i).step5 i).step6 i).step7 i.comp))
  have hst := ((State.step5_still (s.sorted i) i).trans (State.step6_still _ i)).trans
    ((State.step7_still _ i.comp).trans (State.step8_still _ ((s.step1 i).step2 i).2))
  have hloc8 := (State.sorted_located h hb hn).of_still hst
  have htag : ∀ j, ((s.sorted i).key j).map KeyRecord.tag = ((s.step1 i).key j).map KeyRecord.tag := fun j =>
    ((Still.of_same (((s.step1 i).step2 i).1.step3_same i).toSameRecords).places.tag j).trans
      ((State.keysFound_moved i ((s.step1 i).foundKeys i.found) (s.step1 i, ⟨[], []⟩)).1 j)
  have htags1 := ((State.keysGone_moved i ((keysOf i.before).filter fun k => (s.key k).isSome && !s.found i k) s).2.2.2
    _ (State.located_iff.mp h)).tags
  rw [State.reconcile_eq]
  refine (h8.reexamineAll _ _).mono fun j ⟨hj, hno⟩ => ?_
  simp only [List.mem_append, not_or] at hno
  obtain ⟨⟨⟨hq, hf⟩, hr⟩, hl⟩ := hno
  by_cases htouch : j ∈ keysOf i.before ∨ j ∈ (s.step1 i).foundKeys i.found
  · obtain hj | hj := htouch
    · exact hq hj
    · refine hf ?_
      obtain ⟨x, hx, hxj⟩ := List.mem_filterMap.mp hj
      refine List.mem_filterMap.mpr ⟨x, hx, (State.keyOfTag_eq_some hloc8.1).mpr ?_⟩
      rw [hst.places.tag, htag]
      exact (State.keyOfTag_eq_some htags1).mp hxj
  · obtain hj' | hj' | hj' | ⟨m, hm, hjm⟩ := hj
    · exact htouch (.inl hj')
    · exact htouch (.inr hj')
    · exact hr (by rw [hj']; simp)
    · refine hl (List.mem_flatMap.mpr ⟨m, hm, mem_keysOf.mpr ((hloc8.2.1 j m).mpr ?_)⟩)
      obtain ⟨hnq, hnf⟩ := not_or.mp htouch
      have h1 := (State.keysGone_moved i ((keysOf i.before).filter fun k => (s.key k).isSome && !s.found i k) s).2.1 j
        fun hm => hnq (List.mem_filter.mp hm).1
      have h2 := (State.keysFound_moved i ((s.step1 i).foundKeys i.found) (s.step1 i, ⟨[], []⟩)).2.1 j hnf
      have h3 := (Still.of_same (((s.step1 i).step2 i).1.step3_same i).toSameRecords).places.loc j
      exact ((hst.places.loc j).trans (h3.trans (h2.trans h1))).trans hjm

end

theorem State.completeRead_reviewed {s : State} (h : s.LocationOk) (hs : s.Booked fun _ => True) (hlat : s.LatchOk)
    (hscan : s.ScanOk) (n : CompId) (tags : List Nat) : Reviewed (fun _ => False) s (s.completeRead n tags) := by
  rcases s.completeRead_cases n tags with he | ⟨e, hmem, rfl, hread, he⟩
  · rw [he]; exact .refl s
  · have hw := s.withdrawEntry_same e.comp
    rw [he]
    refine (Reviewed.of_same hw).trans (State.reconcile_reviewed (s := s.withdrawEntry e.comp) (h.of_same hw) rfl
      (foundList_nodup tags) (fun _ _ => State.scanPurpose_pickup) (hs.of_calm hw.contracts (.of_eq hw.keys) (.of_eq hw.compartments)) fun hg => ?_)
    have hgs : s.guarded e.comp := by rwa [State.guarded, State.comp, hw.compartments] at hg
    obtain ⟨-, -, -, -, -, hreadable, -⟩ := hscan
    have h1 := hreadable e hmem hread
    have h2 := (State.guarded_iff hlat).mp hgs
    cases hd : (s.comp e.comp).door <;> rw [hd] at h1 h2 <;> simp [DoorState.shut, DoorState.readable] at h1 h2

end Sys2Proof.Machine
end

section
/-! SUPPORT. The availability lists through every operation and every start, and O58. -/

namespace Sys2Proof.Machine

/-! ### The three laws of the lists, from one state to the next -/

/-- From `s` to `t` the lists' laws are kept; their full one unless a compartment is put back in service (R5, log 28). -/
structure ListsKept (s t : State) : Prop where
  ok : s.AvailOk → t.AvailOk
  behind : s.AvailOk → s.AvailBehindDoors → t.AvailBehindDoors
  exact : s.AvailOk → s.AvailExact →
    (∀ n, (s.comp n).service = .outOfService → (t.comp n).service = .outOfService) → t.AvailExact

/-- With the cabinet's law, an operation that leaves or re-examines every key's standing keeps the lists' laws. -/
theorem Reviewed.listsKept {s t : State} (h : Reviewed (fun _ => False) s t) (hlat : s.LatchOk) : ListsKept s t := by
  have keys : s.AvailOk → ∀ k, t.inList k = t.available k ∨ Unmoved s t k := fun hs k =>
    (h.keys (State.availOk_iff.mp hs).1 k).resolve_left id
  refine ⟨fun hs => ?_, fun hs hb => State.availBehindDoors_iff.mpr fun k n ha hn hd => ?_,
    fun hs he _ => State.availExact_iff.mpr fun k ha => ?_⟩
  · obtain ⟨ho, hl⟩ := State.availOk_iff.mp hs
    refine State.availOk_iff.mpr ⟨h.ordered ho, fun k hk => ?_⟩
    obtain e | u := keys hs k
    · exact e.symm.trans hk
    · exact u.available.trans (hl k (u.inList.symm.trans hk))
  · obtain e | u := keys hs k
    · exact e.trans ha
    · exact u.inList.trans (hb.inList hlat (u.available.symm.trans ha) (u.resting ⟨n, hn, .inl hd⟩))
  · obtain e | u := keys hs k
    · exact e.trans ha
    · exact u.inList.trans (State.availExact_iff.mp he k (u.available.symm.trans ha))

/-- Where the lists hold exactly the keys that R5 allows, such an operation keeps them so. -/
theorem Reviewed.listsExact {s t : State} (h : Reviewed (fun _ => False) s t) (ho : s.Ordered)
    (he : ∀ k, s.inList k = s.available k) : t.AvailOk ∧ t.AvailBehindDoors ∧ t.AvailExact := by
  have ht : ∀ k, t.inList k = t.available k := fun k => by
    obtain e | u := (h.keys ho k).resolve_left id
    · exact e
    · exact u.inList.trans ((he k).trans u.available.symm)
  exact ⟨State.availOk_iff.mpr ⟨h.ordered ho, fun k hk => (ht k).symm.trans hk⟩,
    State.availBehindDoors_iff.mpr fun k _ ha _ _ => (ht k).trans ha,
    State.availExact_iff.mpr fun k ha => (ht k).trans ha⟩

/-! ### Every operation but a return to service -/

/-- A key that may be removed is in no list: a listed key's location is a compartment (R5, R10). -/
theorem State.AvailOk.inList_of_loose {s : State} (h : s.AvailOk) {k : KeyId} {r : KeyRecord} (hk : s.key k = some r)
    (hl : r.location.fixed = false) : s.inList k = false := by
  by_contra hin
  obtain ⟨n, hn, -⟩ := State.available_located ((State.availOk_iff.mp h).2 k (by simpa using hin))
  rw [State.loc, hk, Option.map_some] at hn
  rw [Option.some.inj hn] at hl
  cases hl

/-- Every operation but a compartment's return to service leaves or re-examines every key's standing. -/
theorem Op.reviewed {s t : State} (h : Op s t) (hl : s.LocationOk) (hb : s.Booked fun _ => True) (hlat : s.LatchOk)
    (hscan : s.ScanOk) (ha : s.AvailOk) : Reviewed (fun _ => False) s t ∨ ∃ n, t = s.backInService n
      ∧ (s.comp n).door.allowsService = true := by
  have frame : ∀ {t : State}, Calm s t → t.keys = s.keys → t.contracts = s.contracts →
      Reviewed (fun _ => False) s t := fun hc hk hcon => .of_frame hk hc hcon
  have keyed : ∀ {n x k}, (s.comp n).pickup? = some (x, k) → s.Keyed x k := fun hp => hb.keyed trivial hp
  cases h with
  | backInService hd => exact .inr ⟨_, rfl, hd⟩
  | nothing => exact .inl (.refl _)
  | enrol hfree => exact .inl (State.enrol_reviewed hfree)
  | editKey hk => exact .inl (State.editKey_reviewed hk)
  | removeKey hk _ hloose => exact .inl (State.removeKey_reviewed (ha.inList_of_loose hk hloose))
  | holdKey hk =>
    refine .inl ?_
    unfold State.holdKey
    split
    · exact .refl _
    · refine State.rewriteKey_reviewed _ _ (fun _ => ?_) _
      rfl
  | checkKey hk =>
    refine .inl ?_
    unfold State.checkKey
    split
    · exact .refl _
    · refine State.rewriteKey_reviewed _ _ (fun _ => ?_) _
      rfl
  | issue hsl => exact .inl (State.issue_reviewed hsl)
  | amend => exact .inl (State.amend_reviewed _ _ _ _)
  | voidTicket hsl =>
    exact .inl ((State.endTicket_reviewed hsl (.inl rfl)).reexamineClaim _ fun _ hk => hk)
  | resumeTicket hsl hst => exact .inl (State.resumeTicket_reviewed hsl hst)
  | retire hsl hst => exact .inl (State.retire_reviewed hsl hst)
  | pickup hsl hst ht => exact .inl (State.startPickup_reviewed hb.index hsl hst (.inl ⟨_, ht⟩))
  | pickupUndone hsl hst ht => exact .inl (State.startPickup_reviewed hb.index hsl hst (.inr ht))
  | returnStarted ht => exact .inl (State.answerTag_reviewed ht)
  | release hr ht =>
    refine .inl (frame ((State.placed_calm (State.requestRelease_ok ht).1 fun x k e => ?_).trans
      (State.requestRelease_calm ht)) (State.requestRelease_frame ht).1 (State.requestRelease_frame ht).2)
    obtain ⟨b, hb⟩ | hb := hr <;> rw [hb] at e <;> cases e
  | cancel ht => exact .inl (State.cancelRelease_reviewed ht fun _ _ _ hp => keyed hp)
  | forceClose hsl hst => exact .inl (State.forceClose_reviewed hb hsl hst)
  | outOfService => exact .inl (State.outOfService_reviewed hl _)
  | requestSweep =>
    exact .inl (frame (s.requestSweep_calm _) (State.requestSweep_keys _ _) (State.requestSweep_contracts _ _))
  | sweepAll => exact .inl (frame s.sweepAll_calm (State.requestSweeps_same s _).1 (State.requestSweeps_same s _).2)
  | openUnder => exact .inl (frame (s.openUnder_calm _) (s.openUnder_keys _).1 (s.openUnder_keys _).2)
  | forceOpen => exact .inl (State.forceOpen_reviewed hb _)
  | closeDoor => exact .inl (frame (s.closeDoor_calm _) rfl rfl)
  | windowEnd hd => exact .inl (State.unlatched_reviewed hd _ _ fun _ _ hp => keyed hp)
  | holdEnd => exact .inl (frame (s.holdEnd_calm _) rfl rfl)
  | scan => exact .inl (State.completeRead_reviewed hl hb hlat hscan _ _)
  | chute => exact .inl (State.chute_reviewed hl hb _)
  | clearDrop =>
    exact .inl ((State.takeAllFromDrop_reviewed s _).trans (.of_same s.clearDrop_same.toSameRecords))
  | visitSlot => exact .inl (State.visitSlot_reviewed _ _ _)
  | clearForced => exact .inl (frame s.clearForced_calm rfl rfl)
  | count => exact .inl (frame s.countAll_calm rfl rfl)

/-! ### A compartment put back in service (R31, log 28) -/

/-- A SWEEP request changes no other compartment; its own is in SCANNING if it was LOCKED, unless it had an entry. -/
theorem State.requestSweep_comp (s : State) (n : CompId) :
    (∀ m, m ≠ n → (s.requestSweep n).comp m = s.comp m)
      ∧ (s.requestSweep n).comp n = if s.scanner.holds n = false ∧ (s.comp n).door = .locked
          then { s.comp n with door := .scanning } else s.comp n := by
  unfold State.requestSweep
  cases s.scanner.holds n with
  | true => exact ⟨fun _ _ => rfl, rfl⟩
  | false =>
    by_cases hd : (s.comp n).door = .locked
    · rw [if_neg (by simp)]
      dsimp only
      rw [if_pos hd, if_pos ⟨rfl, hd⟩]
      exact ⟨fun m hm => State.modifyComp_comp_ne _ _ (Ne.symm hm), State.modifyComp_comp_self _ _ _⟩
    · rw [if_neg (by simp)]
      dsimp only
      rw [if_neg hd, if_neg fun h => hd h.2]
      exact ⟨fun _ _ => rfl, rfl⟩

/-- A compartment put back in service is not shut: its scan is queued, so that it is in SCANNING or UNKNOWN (R17, R31). -/
theorem State.backInService_comp {s : State} (hscan : s.ScanOk) {n : CompId}
    (hd : (s.comp n).door.allowsService = true) (ho : (s.comp n).service = .outOfService) :
    (∀ m, m ≠ n → (s.backInService n).comp m = s.comp m)
      ∧ ((s.backInService n).comp n).service = .inService ∧ ((s.backInService n).comp n).door.shut = false := by
  obtain ⟨-, -, hlocked, -⟩ := hscan
  have hheld : s.scanner.holds n = true → (s.comp n).door ≠ .locked := fun h => by
    obtain ⟨e, he, hen⟩ := List.any_eq_true.mp h
    obtain rfl : e.comp = n := by simpa using hen
    exact hlocked e he
  unfold State.backInService
  rw [ho]
  obtain ⟨h1, h2⟩ := (s.modifyComp n fun c => { c with service := .inService }).requestSweep_comp n
  refine ⟨fun m hm => (h1 m hm).trans (State.modifyComp_comp_ne _ _ (Ne.symm hm)), ?_⟩
  change (State.comp (State.requestSweep _ n) n).service = _ ∧ (State.comp (State.requestSweep _ n) n).door.shut = _
  rw [h2, State.modifyComp_comp_self]
  change (if s.scanner.holds n = false ∧ (s.comp n).door = .locked then _ else _ : Compartment).service = _
    ∧ (if s.scanner.holds n = false ∧ (s.comp n).door = .locked then _ else _ : Compartment).door.shut = _
  split
  · exact ⟨rfl, rfl⟩
  · next hno =>
    refine ⟨rfl, ?_⟩
    change (s.comp n).door.shut = false
    cases h : (s.comp n).door <;> rw [h] at hd <;> try cases hd
    · cases hh : s.scanner.holds n with
      | true => exact absurd h (hheld hh)
      | false => exact absurd ⟨hh, h⟩ hno
    · rfl

theorem State.backInService_listsKept {s : State} (hscan : s.ScanOk) {n : CompId}
    (hd : (s.comp n).door.allowsService = true) (hlat : s.LatchOk) : ListsKept s (s.backInService n) := by
  cases ho : (s.comp n).service with
  | inService =>
    have he : s.backInService n = s := by rw [State.backInService, ho]
    rw [he]
    exact (Reviewed.refl s).listsKept hlat
  | outOfService =>
    obtain ⟨hother, hserv, hshut⟩ := State.backInService_comp hscan hd ho
    have hkeys : (s.backInService n).keys = s.keys := by
      unfold State.backInService
      rw [ho]
      exact State.requestSweep_keys _ _
    have hcon : (s.backInService n).contracts = s.contracts := by
      unfold State.backInService
      rw [ho]
      exact State.requestSweep_contracts _ _
    generalize s.backInService n = t at hother hserv hshut hkeys hcon
    have hkey : ∀ k, t.key k = s.key k := fun k => by rw [State.key, hkeys]; rfl
    have hloc : ∀ k, t.loc k = s.loc k := fun k => by rw [State.loc, hkey]; rfl
    have hin : ∀ k, t.inList k = s.inList k := fun k => State.inList_congr (by rw [hkey]) (by rw [hkeys])
    have havail : ∀ k, s.loc k ≠ some (.compartment n) → t.available k = s.available k := fun k hk =>
      State.available_congr (by rw [hkey]) (fun m hm => by rw [hother m fun e => hk (e ▸ hm)]; exact ⟨rfl, rfl, rfl⟩)
        (State.claimed_of_eq hcon k)
    refine ⟨fun hs => ?_, fun hs hb => State.availBehindDoors_iff.mpr fun k m ha hm hg => ?_, fun _ _ hservice => ?_⟩
    · obtain ⟨ord, hl⟩ := State.availOk_iff.mp hs
      refine State.availOk_iff.mpr ⟨ord.of_ranks (.of_eq hkeys), fun k hk => ?_⟩
      have ha := hl k ((hin k).symm.trans hk)
      rw [havail k fun hk => ?_]
      · exact ha
      · obtain ⟨m, hm, hin, -⟩ := State.available_located ha
        obtain rfl := Location.compartment.inj (Option.some.inj (hm.symm.trans hk))
        exact absurd (ho.symm.trans hin) (by decide)
    · have e : m ≠ n := fun e => by rw [e, hshut] at hg; cases hg
      rw [hloc] at hm
      rw [hother m e] at hg
      have hk : s.loc k ≠ some (.compartment n) := fun hk =>
        e (Location.compartment.inj (Option.some.inj (hm.symm.trans hk)))
      exact (hin k).trans (hb.inList hlat ((havail k hk).symm.trans ha) ⟨m, hm, .inl hg⟩)
    · exact absurd (hserv.symm.trans (hservice n ho)) (by decide)

theorem Op.listsKept {s t : State} (h : Op s t) (hl : s.LocationOk) (hb : s.Booked fun _ => True) (hlat : s.LatchOk)
    (hscan : s.ScanOk) : ListsKept s t := by
  by_cases ha : s.AvailOk
  · obtain hr | ⟨n, rfl, hd⟩ := h.reviewed hl hb hlat hscan ha
    · exact hr.listsKept hlat
    · exact State.backInService_listsKept hscan hd hlat
  · exact ⟨fun hs => absurd hs ha, fun hs => absurd hs ha, fun hs => absurd hs ha⟩

/-! ### Starts (R38, R39, R186) -/

/-- No compartment's contents are known after a start's tables are made (R38, R39). -/
theorem State.startTables_known (s : State) (cold : Bool) (n : CompId) :
    ((s.startTables cold).readField.comp n).known = false := by
  cases cold with
  | false =>
    change (((((s.compartments.table.map Compartment.atRest).map fun c => { c with known := false }).zipWith
      (Compartment.fromPin _) s.doorPins)).get n).known = _
    rw [Table.get_zipWith, Table.get_map, Table.get_map, Compartment.fromPin]
    split <;> rfl
  | true =>
    change ((((Table.replicate 192 Compartment.cold).zipWith (Compartment.fromPin _) s.doorPins)).get n).known = _
    rw [Table.get_zipWith, Table.get_replicate, Compartment.fromPin]
    split <;> rfl

/-- After a start's tables are made no key is available: a warm start knows no compartment's contents, and a cold one
has no key. The lists are empty. -/
theorem State.startTables_lists (s : State) (cold : Bool) :
    (∀ k, (s.startTables cold).readField.available k = false)
      ∧ ∀ g, (s.startTables cold).readField.keys.lists.get g = [] := by
  cases cold with
  | false =>
    refine ⟨fun k => ?_, fun g => Table.get_replicate _ _⟩
    by_contra h
    obtain ⟨n, -, -, hn, -⟩ := State.available_located (by simpa using h)
    exact absurd ((s.startTables_known false n).symm.trans hn) (by decide)
  | true => exact ⟨fun k => State.available_of_none (s.startTables_cold.1 k), fun g => Table.get_replicate _ _⟩

/-- After a start no key is available, and the lists are in order and hold no key R5 does not allow. -/
theorem State.start_lists (s : State) (cold m : Bool) :
    (s.start cold m).AvailOk ∧ (s.start cold m).AvailBehindDoors ∧ (s.start cold m).AvailExact := by
  have hs := State.start_same cold m s
  obtain ⟨hno, hlists⟩ := s.startTables_lists cold
  have hin : ∀ k, (s.startTables cold).readField.inList k = false := fun k => by
    cases hk : (s.startTables cold).readField.key k with
    | none => exact State.inList_of_none hk
    | some r => rw [State.inList, hk, Option.any_some, hlists]; rfl
  have hord : (s.startTables cold).readField.Ordered := fun g => by
    rw [hlists]; exact ⟨.nil, fun k hk => by cases hk⟩
  generalize (s.startTables cold).readField = u at hs hno hin hord
  have hd : Reviewed (fun _ => False) u (u.readStaffDoor cold) := by
    obtain ⟨-, hs⟩ | ⟨-, hs⟩ := State.readStaffDoor_cases cold u
    · exact .of_same hs
    · exact (Reviewed.of_same (s := u) (t := u.withDrop { u.drop with staffDoor := .closed }) ⟨rfl, rfl, rfl⟩).trans
        ((State.takeAllFromDrop_reviewed _ _).trans (.of_same hs))
  refine (hd.trans (.of_same hs)).listsExact hord fun k => ?_
  rw [hin, hno]

/-! ### O58 -/

/-- The lists' laws are about the records alone. -/
theorem SameRecords.lists {s t : State} (h : SameRecords s t) :
    (s.AvailOk → t.AvailOk) ∧ (s.AvailBehindDoors → t.AvailBehindDoors) ∧ (s.AvailExact → t.AvailExact) := by
  have hin : ∀ k, t.inList k = s.inList k := fun k => State.inList_congr (by rw [h.key]) (by rw [h.keys])
  have hav : ∀ k, t.available k = s.available k := fun k => State.available_congr (by rw [h.key])
    (fun n _ => by rw [h.comp]; exact ⟨rfl, rfl, rfl⟩) (State.claimed_of_eq h.contracts k)
  refine ⟨fun hs => ?_, fun hs => ?_, fun hs => ?_⟩
  · obtain ⟨ho, hl⟩ := State.availOk_iff.mp hs
    exact State.availOk_iff.mpr ⟨ho.of_ranks (.of_eq h.keys), fun k hk =>
      (hav k).trans (hl k ((hin k).symm.trans hk))⟩
  · refine State.availBehindDoors_iff.mpr fun k n ha hn hd => (hin k).trans ?_
    rw [h.comp] at hd
    exact State.availBehindDoors_iff.mp hs k n ((hav k).symm.trans ha) (by rw [← hn, State.loc, State.loc, h.key]) hd
  · exact State.availExact_iff.mpr fun k ha =>
      (hin k).trans (State.availExact_iff.mp hs k ((hav k).symm.trans ha))

theorem ListsKept.of_same {s a v t : State} (h : ListsKept a v) (hs : SameRecords s a) (ht : SameRecords v t) :
    ListsKept s t := by
  obtain ⟨a1, a2, a3⟩ := hs.lists
  obtain ⟨t1, t2, t3⟩ := ht.lists
  refine ⟨fun h1 => t1 (h.ok (a1 h1)), fun h1 h2 => t2 (h.behind (a1 h1) (a2 h2)), fun h1 h2 h3 =>
    t3 (h.exact (a1 h1) (a3 h2) fun n hn => ?_)⟩
  rw [hs.comp] at hn
  rw [← ht.comp]
  exact h3 n hn

theorem SameBasis.cabinet {s a : State} (h : SameBasis s a) (hs : s.CabinetOk) : a.CabinetOk := by
  have hc := h.compartments
  have hl := h.scanner
  unfold State.CabinetOk State.LatchOk State.ScanOk State.priorityAt State.comp at hs ⊢
  rw [hc, hl]
  exact hs

/-- Settles O58: a step's records are those of an operation, which leaves each key's standing or re-examines the key
(`Op.reviewed`), or puts a compartment back in service (`State.backInService_listsKept`); or they are those of a start,
which leaves no key available (`State.start_lists`). -/
theorem availabilityIsKept : Obligations.AvailabilityIsKept := by
  rintro s t hstep ⟨-, -, -, hcab, hcon, hloc⟩ hav
  obtain ⟨a, ha, v, hop, hv⟩ | ⟨c, rest, cold, -, a, m, -, rfl, -⟩ := step_cases hstep
  · have hs := ha.toSameRecords
    obtain ⟨hlat, hscan⟩ := ha.cabinet hcab
    have hb := (State.booked_iff.mp hcon).of_calm hs.contracts (.of_eq hs.keys) (.of_eq hs.compartments)
    have hk := (hop.listsKept (hloc.of_same hs) hb hlat hscan).of_same hs hv
    exact ⟨hk.ok hav, hk.behind hav, hk.exact hav⟩
  · obtain ⟨h1, h2, h3⟩ := a.start_lists cold m
    exact ⟨h1, fun _ => h2, fun _ _ => h3⟩

end Sys2Proof.Machine
end

section
/-! SUPPORT. The fields of a request's body read back (R169, R176), and what a taken request leaves, its records settled
or not (R160, R172). -/

namespace Sys2Proof.Table

theorem rows_eq {α : Type} {n : Nat} (t : Table α n) : t.rows = (fins n).map t.get := by
  apply List.ext_getElem
  · simp [fins_eq, t.size]
  · intro i h1 h2
    simp [fins_eq, get]

theorem places_eq {α : Type} {n : Nat} (t : Table α n) (p : α → Bool) :
    t.places p = (fins n).filter fun i => p (t.get i) := by
  have hz : (fins n).zip t.rows = (fins n).map fun i => (i, t.get i) := by
    apply List.ext_getElem
    · simp [fins_eq, t.size]
    · intro i h1 h2
      simp [fins_eq, get]
  rw [places, hz, List.filterMap_map, ← List.filterMap_eq_filter]
  refine List.filterMap_congr fun i _ => ?_
  simp [Option.guard]

end Sys2Proof.Table

namespace Sys2Proof.Machine

/-! ### Numbers in bytes (R169) -/

theorem length_toBytes (n x : Nat) : (toBytes n x).length = n := by
  induction n with
  | zero => rfl
  | succ n ih => simp [toBytes, ih]

theorem fromBytes_cons (b : Byte) (bs : List Byte) : fromBytes (b :: bs) = b.toNat * 256 ^ bs.length + fromBytes bs := by
  have shift : ∀ (bs : List Byte) (a : Nat),
      bs.foldl (fun acc b => acc * 256 + b.toNat) a = a * 256 ^ bs.length + fromBytes bs := by
    intro bs
    induction bs with
    | nil => intro a; simp [fromBytes]
    | cons b bs ih =>
      intro a
      rw [fromBytes, List.foldl_cons, List.foldl_cons, ih, ih, List.length_cons]
      ring
  have := shift (b :: bs) 0
  rw [List.foldl_cons, shift] at this
  simpa using this.symm

theorem fromBytes_toBytes {n x : Nat} (h : x < 256 ^ n) : fromBytes (toBytes n x) = x := by
  have modulo : ∀ n x, fromBytes (toBytes n x) = x % 256 ^ n := by
    intro n x
    induction n with
    | zero => rw [pow_zero, Nat.mod_one]; rfl
    | succ n ih =>
      have split : x % 256 ^ (n + 1) = x % 256 ^ n + 256 ^ n * (x / 256 ^ n % 256) := Nat.mod_mul
      rw [toBytes, fromBytes_cons, ih, length_toBytes, BitVec.toNat_ofNat, split]
      ring
  rw [modulo, Nat.mod_eq_of_lt h]

/-! ### Fields of a body -/

/-- A field behind the bytes `a` is read from the bytes after them. -/
theorem field_append {a l : List Byte} {off : Nat} (h : a.length ≤ off) (len : Nat) :
    field (a ++ l) off len = field l (off - a.length) len := by
  rw [field, field, List.drop_append, List.drop_eq_nil_of_le h, List.nil_append]

theorem field_toBytes {n x : Nat} (h : x < 256 ^ n) (l : List Byte) : field (toBytes n x ++ l) 0 n = x := by
  rw [field, List.drop_zero, List.take_left' (length_toBytes n x), fromBytes_toBytes h]

theorem field_head (b : Byte) (l : List Byte) : field (b :: l) 0 1 = b.toNat := by
  simp [field, fromBytes]

theorem toNat_byte {x : Nat} (h : x < 256) : (byte x).toNat = x := by
  rw [byte, BitVec.toNat_ofNat, Nat.mod_eq_of_lt h]

theorem indexOf_val {n : Nat} (i : Fin n) : indexOf n i.val = some i := dif_pos i.isLt

theorem State.keyField_toBytes {s : State} {k : KeyId} {r : KeyRecord} (h : s.key k = some r) (l : List Byte) :
    s.keyField (toBytes 2 k.val ++ l) 0 = .ok (k, r) := by
  rw [State.keyField, field_toBytes (by omega), indexOf_val]
  simp only [h]

theorem compField_byte (n : CompId) (l : List Byte) : compField (byte (n.val + 1) :: l) 0 = .ok n := by
  have h : compOfNumber (n.val + 1) = some n := by
    simp [compOfNumber]
  rw [compField, field_head, toNat_byte (by omega), h]

/-! ### What a taken request leaves -/

theorem State.request_refused {s : State} {kind tg : Byte} {f : Handler} {e : Status} (h : s.serves tg)
    (hf : f s.frameEnd = .error e) :
    ∃ t, s.request kind tg f = .next t ∧ Refused s t (kind + 0x80) tg e.code :=
  (State.request_served h kind f).1 e hf

/-- A taken request that left the line alone has its reply queued (R172, R173). -/
theorem State.request_sent {s : State} {kind tg : Byte} {f : Handler} {u : Taken} (h : s.serves tg)
    (hf : f s.frameEnd = .ok u) (hl : u.state.link = s.frameEnd.link) :
    ∃ t, s.request kind tg f = .next t ∧ Sent { u.state with
      link := (s.answered (kind + 0x80) tg (byte u.status.code :: u.data) u.effect).link } t := by
  obtain ⟨t, ht, hs⟩ := (State.request_served h kind f).2 u hf
  refine ⟨t, ht, ?_⟩
  rw [hl] at hs
  exact hs

/-- With its causes re-examined before the reply was queued, the event's end is settled (R160, R175). -/
theorem Settled.of_attended {s t : State} (h : Sent s.attend t) : Settled s t := by
  obtain ⟨he, hline⟩ := h
  have hn : t.notices = s.attend.notices := by rw [he]
  have hc : t.reportCause = s.attend.reportCause := (State.report_of_same hn (by rw [he])).1
  refine ⟨?_, ?_, ?_, ?_⟩
  · rw [he, s.attend_frame]
  · refine s.attend_ok.of_same ?_ ?_ ?_ ?_ ?_ ?_ ?_ <;> rw [he]
  · rw [hn]; exact s.attend_pager
  · have hm : s.attend.link.mark = (s.link.mark || t.reportCause != s.link.lastReported) := by
      rw [State.attend_mark, hc]
      exact rfl
    rw [← hm]
    exact hline

/-- A taken request that moved a cause has its reply queued and its records settled (R160, R172). -/
theorem State.request_settled {s v : State} {kind tg : Byte} {f : Handler} {st : Status} {data : List Byte}
    {effect : ReplyEffect} (h : s.serves tg)
    (hf : f s.frameEnd = .ok { status := st, data := data, effect := effect, state := v.attend })
    (hl : v.link = s.frameEnd.link) : ∃ t, s.request kind tg f = .next t
      ∧ Settled { v with link := (s.answered (kind + 0x80) tg (byte st.code :: data) effect).link } t := by
  obtain ⟨t, ht, hs⟩ := (State.request_served h kind f).2 _ hf
  refine ⟨t, ht, .of_attended ?_⟩
  have e : ({ v.attend with link := { v.attend.link with replies := v.attend.link.replies
      ++ [Taken.reply { status := st, data := data, effect := effect, state := v.attend } (kind + 0x80) tg] } } : State)
      = State.attend { v with link := (s.answered (kind + 0x80) tg (byte st.code :: data) effect).link } := by
    have hl' : (s.answered (kind + 0x80) tg (byte st.code :: data) effect).link = { v.link with
        replies := v.link.replies ++ [⟨kind + 0x80, tg, byte st.code :: data, effect⟩] } := by rw [hl]; rfl
    rw [hl']
    rfl
  rw [← e]
  exact hs

end Sys2Proof.Machine
end

section
/-! SUPPORT. O19 and O20: KEY_HOLD, KEY_CHECKED and the key queries. -/

namespace Sys2Proof.Machine

/-! ### A key's re-examination, from the state before its record was written -/

/-- R5 reads the compartments and the contract table. -/
theorem MayBeListed.congr {s u : State} {k : KeyId} {r : KeyRecord}
    (hc : ∀ n, r.location = .compartment n → (u.comp n).service = (s.comp n).service
      ∧ (u.comp n).known = (s.comp n).known ∧ (u.comp n).contents = (s.comp n).contents)
    (hs : u.claimed k = s.claimed k) : MayBeListed u k r ↔ MayBeListed s k r := by
  have claims : ∀ v : State, (∀ sl c, v.slot sl = some c → c.claims k = false) ↔ v.claimed k = false := fun v => by
    rw [← Bool.not_eq_true, State.claimed_iff]
    simp
  unfold MayBeListed
  rw [claims, claims, hs]
  refine and_congr_left fun _ => exists_congr fun n => and_congr_right fun hl => ?_
  obtain ⟨h1, h2, h3⟩ := hc n hl
  rw [h1, h2, h3]

theorem Reexamined.congr {s t u v : State} {k : KeyId} {r : KeyRecord} (h : Reexamined u v k r)
    (hm : MayBeListed u k r ↔ MayBeListed s k r) (hl : u.keys.lists = s.keys.lists) (ho : u.overdue = s.overdue)
    (hk : ∀ j, j ≠ k → u.key j = s.key j) (ht : t.keys = v.keys) : Reexamined s t k r := by
  obtain ⟨h1, h2, h3, h4, h5⟩ := h
  have key : ∀ j, t.key j = v.key j := fun j => by rw [State.key, ht]; rfl
  rw [hm, hl] at h1 h2 h3
  rw [ho] at h2
  unfold Reexamined
  simp only [key, ht]
  exact ⟨h1, h2, h3, fun j hj => (h4 j hj).trans (hk j hj), fun g hg => by rw [h5 g hg, hl]⟩

/-- A record written and re-examined, with what R5 reads of the cabinet and the contracts as it was. -/
theorem State.rewriteKey_reexamined {s : State} {k : KeyId} {r : KeyRecord} (h : s.key k = some r)
    (f : KeyRecord → KeyRecord) {t : State} (ht : t.keys = ((s.modifyKey k f).reexamine s.joinMinute k).keys) :
    Reexamined s t k (f r) := by
  have hk : (s.modifyKey k f).key k = some (f r) := by rw [State.modifyKey_key_self, h]; rfl
  exact (State.reexamine_reexamined hk).congr (MayBeListed.congr (fun _ _ => ⟨rfl, rfl, rfl⟩) rfl) rfl rfl
    (fun j hj => State.modifyKey_key_ne _ _ (Ne.symm hj)) ht

/-! ### Requests that write the key table alone -/

theorem State.request_keys {s : State} {kind tg : Byte} {f : Handler} {x : KeyTable} (h : s.serves tg)
    (hf : f s.frameEnd = .ok { state := s.frameEnd.withKeys x }) : ∃ t, s.request kind tg f = .next t
      ∧ Sent { s.answered (kind + 0x80) tg [0] with keys := t.keys } t ∧ t.keys = x := by
  obtain ⟨t, ht, hs⟩ := State.request_sent (kind := kind) h hf rfl
  have hk : t.keys = x := by rw [hs.1]; rfl
  refine ⟨t, ht, ?_, hk⟩
  rw [hk]
  exact hs

theorem State.request_rewrites {s : State} {kind tg : Byte} {f : Handler} {k : KeyId} {r : KeyRecord}
    {g : KeyRecord → KeyRecord} (h : s.serves tg) (hk : s.key k = some r)
    (hf : f s.frameEnd = .ok { state := (s.frameEnd.modifyKey k g).reexamine s.frameEnd.joinMinute k }) :
    ∃ t, s.request kind tg f = .next t ∧ Sent { s.answered (kind + 0x80) tg [0] with keys := t.keys } t
      ∧ Reexamined s t k (g r) := by
  rw [(s.frameEnd.modifyKey k g).reexamine_frame] at hf
  obtain ⟨t, ht, hs, hx⟩ := State.request_keys (kind := kind) h hf
  have hr := State.rewriteKey_reexamined (s := s.frameEnd) hk g hx
  exact ⟨t, ht, hs, hr⟩

/-! ### O19 -/

theorem keyHoldHandler_ok {s : State} {k : KeyId} {r : KeyRecord} (h : s.key k = some r) (hold : Bool) :
    keyHoldHandler (toBytes 2 k.val ++ [if hold then 1 else 0]) s = .ok { state := s.holdKey k r hold } := by
  have hy : yesNo (field (toBytes 2 k.val ++ [if hold then 1 else 0]) 2 1) = some hold := by
    rw [field_append (by rw [length_toBytes]), length_toBytes, Nat.sub_self, field_head]
    cases hold <;> rfl
  rw [keyHoldHandler, expectLength_passes (by simp [length_toBytes]), State.keyField_toBytes h, hy]

theorem keyCheckedHandler_ok {s : State} {k : KeyId} {r : KeyRecord} (h : s.key k = some r) :
    keyCheckedHandler (toBytes 2 k.val) s = .ok { state := s.checkKey k r } := by
  have hk := State.keyField_toBytes h []
  rw [List.append_nil] at hk
  rw [keyCheckedHandler, expectLength_passes (length_toBytes _ _), hk]

/-- Settles O19: each handler writes the key table alone, by its field and by one re-examination. -/
theorem holdAndCheckReexamine : Obligations.HoldAndCheckReexamine := by
  intro s tg k r hserve hk
  have hk' : s.frameEnd.key k = some r := hk
  constructor
  · intro hold
    have hh := keyHoldHandler_ok hk' hold
    by_cases e : r.hold = hold
    · rw [State.holdKey, if_pos e] at hh
      obtain ⟨t, ht, hs, hx⟩ := State.request_keys (kind := 0x14) (x := s.keys) hserve hh
      exact ⟨t, ht, hs, fun _ => hx, fun n => absurd e n⟩
    · rw [State.holdKey, if_neg e] at hh
      obtain ⟨t, ht, hs, hr⟩ := State.request_rewrites (kind := 0x14) hserve hk hh
      exact ⟨t, ht, hs, fun n => absurd n e, fun _ => hr⟩
  · have hh := keyCheckedHandler_ok hk'
    cases e : r.mark with
    | checked =>
      rw [State.checkKey, e] at hh
      obtain ⟨t, ht, hs, hx⟩ := State.request_keys (kind := 0x15) (x := s.keys) hserve hh
      exact ⟨t, ht, hs, fun _ => hx, fun n => by cases n⟩
    | unchecked =>
      rw [State.checkKey, e] at hh
      obtain ⟨t, ht, hs, hr⟩ := State.request_rewrites (kind := 0x15) hserve hk hh
      exact ⟨t, ht, hs, fun n => (by cases n), fun _ => hr⟩

/-! ### O20 -/

theorem State.keyOfTag_toBytes {s : State} {k : KeyId} {r : KeyRecord} (h : s.key k = some r)
    (huniq : ∀ j a, s.key j = some a → a.tag = r.tag → j = k) : s.keyOfTag r.tag = some k := by
  cases hf : s.keyOfTag r.tag with
  | none => exact absurd (Table.find_eq_none.mp hf k) (by rw [show s.keys.places.get k = some r from h]; simp)
  | some j =>
    obtain ⟨a, ha, hat⟩ := Option.any_eq_true _ _ |>.mp (Table.get_of_find hf)
    rw [huniq j a ha (by simpa using hat)]

/-- A key's place in its list, in two bytes: present and position from 1, or absent (R11, R176). -/
theorem State.listPosition_bytes (s : State) (k : KeyId) (r : KeyRecord) :
    optBytes 1 (s.listPosition k r) = if k ∈ s.keys.lists.get r.group
      then [1, byte ((s.keys.lists.get r.group).findIdx (· == k) + 1)] else [0, 0] := by
  unfold State.listPosition
  split
  · next h =>
    rw [List.findIdx?_eq_some_of_exists ⟨k, h, by simp⟩]
    simp [optBytes, toBytes, byte]
  · next h =>
    rw [List.findIdx?_eq_none_iff.mpr fun x hx => by simpa using fun e : x = k => h (e ▸ hx)]
    rfl

theorem keyQueryHandler_ok {s : State} {k : KeyId} {r : KeyRecord} (h : s.key k = some r) :
    keyQueryHandler (0 :: toBytes 2 k.val) s = .ok { data := s.keyBytes k r, state := s }
      ∧ ((∀ j a, s.key j = some a → a.tag = r.tag → j = k) → r.tag ≤ 1099511627775 →
        keyQueryHandler (1 :: toBytes 5 r.tag) s = .ok { data := s.keyBytes k r, state := s }) := by
  constructor
  · have hk : s.keyField (0 :: toBytes 2 k.val) 1 = .ok (k, r) := by
      have h0 := State.keyField_toBytes h []
      rwa [List.append_nil] at h0
    have hl : (0 :: toBytes 2 k.val : List Byte).length = 3 := by simp [length_toBytes]
    have h0 : field (0 :: toBytes 2 k.val) 0 1 = 0 := field_head _ _
    simp only [keyQueryHandler, hl, h0, hk]
    rfl
  · intro huniq htag
    have hf : field (1 :: toBytes 5 r.tag) 1 5 = r.tag := by
      have h5 := field_toBytes (n := 5) (x := r.tag) (by omega) []
      rwa [List.append_nil] at h5
    have hl : (1 :: toBytes 5 r.tag : List Byte).length = 6 := by simp [length_toBytes]
    have h0 : field (1 :: toBytes 5 r.tag) 0 1 = 1 := field_head _ _
    simp only [keyQueryHandler, hl, h0, hf, State.keyOfTag_toBytes h huniq, h]
    rfl

theorem availQueryHandler_group (s : State) (g : Group) {start : Nat} (h : start ≤ 255) :
    availQueryHandler [byte g.val, byte start] s = .ok { data := s.availGroup g start, state := s } := by
  have h0 : field [byte g.val, byte start] 0 1 = g.val := (field_head _ _).trans (toNat_byte (by omega))
  have h1 : field [byte g.val, byte start] 1 1 = start := by
    rw [show [byte g.val, byte start] = [byte g.val] ++ [byte start] from rfl, field_append (by simp)]
    exact (field_head _ _).trans (toNat_byte (by omega))
  rw [availQueryHandler, expectLength_passes (by simp), h0, h1, if_neg (by omega), indexOf_val]

theorem availQueryHandler_total (s : State) (start : Byte) :
    availQueryHandler [0xFF, start] s = .ok { data := s.availTotals, state := s } := by
  have h0 : field [0xFF, start] 0 1 = 0xFF := field_head _ _
  rw [availQueryHandler, expectLength_passes (by simp), if_pos h0]

/-- A request that changes nothing has its reply queued, with the bytes `b` (R172). -/
theorem State.request_reports {s : State} {kind tg : Byte} {f : Handler} {data b : List Byte} (h : s.serves tg)
    (hf : f s.frameEnd = .ok { data := data, state := s.frameEnd }) (hb : b = 0 :: data) :
    ∃ t, s.request kind tg f = .next t ∧ Sent (s.answered (kind + 0x80) tg b) t := by
  subst hb
  exact State.request_sent h hf rfl

theorem State.request_congr {s : State} {f g : Handler} (h : f s.frameEnd = g s.frameEnd) (kind tg : Byte) :
    s.request kind tg f = s.request kind tg g := by
  unfold State.request State.deliver
  rw [h]

/-- Settles O20: the queries' handlers leave the state and answer the bytes of R11 and R14. -/
theorem keyQueriesReport : Obligations.KeyQueriesReport := by
  intro s tg hserve
  refine ⟨fun k r hk => ?_, fun g start hstart => ?_, fun start => ?_⟩
  · obtain ⟨h1, h2⟩ := keyQueryHandler_ok (s := s.frameEnd) hk
    obtain ⟨t, ht, hs⟩ := State.request_reports (kind := 0x13) hserve h1 rfl
    refine ⟨t, ht, fun huniq htag => ?_, ?_⟩
    · exact (State.request_congr ((h2 huniq htag).trans h1.symm) 0x13 tg).trans ht
    · have hb : s.frameEnd.keyBytes k r = s.keyBytes k r := rfl
      rw [hb, State.keyBytes, State.listPosition_bytes] at hs
      revert hs
      cases r.location <;> cases r.promisedTo <;> exact id
  · refine State.request_reports (kind := 0x16) hserve (availQueryHandler_group _ g hstart) (congrArg _ ?_)
    refine List.flatMap_congr fun k _ => ?_
    change _ = s.availBytes k
    unfold State.availBytes
    cases s.key k with
    | none => rfl
    | some r => cases hl : r.location <;> simp only [hl] <;> rfl
  · refine State.request_reports (kind := 0x16) hserve (availQueryHandler_total _ start) (congrArg _ ?_)
    change _ = s.availTotals
    rw [State.availTotals, State.availableCount, Table.rows_eq, List.map_map, List.map_map]
    rfl

end Sys2Proof.Machine
end

section
/-! SUPPORT. Labels and descriptive fields (R7, R8), and O18: KEY_EDIT and KEY_REMOVE. -/

namespace Sys2Proof.Machine

/-! ### Labels (R7) -/

theorem LabelOk.length_padded {l : List Byte} (h : LabelOk l) : (padded l).length = 8 := by
  obtain ⟨-, h8, -⟩ := h
  simp [padded, h8]

theorem LabelOk.valid {l : List Byte} (h : LabelOk l) : labelValid (padded l) = true := by
  have hlen := h.length_padded
  obtain ⟨h1, -, hb, hh, -⟩ := h
  cases l with
  | nil => simp at h1
  | cons a l =>
    have hhead : (padded (a :: l)).head? = some a := rfl
    have hall : (padded (a :: l)).all (fun b => 0x20 ≤ b.toNat && b.toNat ≤ 0x7E) = true := by
      rw [List.all_eq_true]
      intro b hm
      obtain hm | hm := List.mem_append.mp hm
      · simpa using hb b hm
      · rw [List.eq_of_mem_replicate hm]; rfl
    rw [labelValid, hlen, hall, hhead]
    simpa using fun e : a = 0x20 => hh (congrArg some e)

theorem labelOf_append_spaces (l : List Byte) (n : Nat) : labelOf (l ++ List.replicate n 0x20) = labelOf l := by
  change List.rdropWhile _ _ = List.rdropWhile _ _
  induction n with
  | zero => rw [List.replicate_zero, List.append_nil]
  | succ n ih => rw [List.replicate_succ', ← List.append_assoc, List.rdropWhile_concat_pos _ _ _ rfl, ih]

theorem LabelOk.labelOf_padded {l : List Byte} (h : LabelOk l) : labelOf (padded l) = l := by
  obtain ⟨-, -, -, -, hl⟩ := h
  rw [padded, labelOf_append_spaces]
  refine List.rdropWhile_eq_self_iff.mpr fun hne hp => hl ?_
  rw [List.getLast?_eq_some_getLast hne, eq_of_beq hp]

/-- A label field is valid only as a label in its eight bytes. -/
theorem padded_labelOf {l : List Byte} (h : labelValid l = true) : LabelOk (labelOf l) ∧ padded (labelOf l) = l := by
  simp only [labelValid, Bool.and_eq_true, beq_iff_eq, List.all_eq_true, decide_eq_true_eq, bne_iff_ne, ne_eq] at h
  obtain ⟨⟨hlen, hb⟩, hh⟩ := h
  have hsplit : labelOf l ++ l.rtakeWhile (· == 0x20) = l := List.rdropWhile_append_rtakeWhile
  have hspaces : l.rtakeWhile (· == 0x20) = List.replicate (8 - (labelOf l).length) 0x20 := by
    refine List.eq_replicate_iff.mpr ⟨?_, fun b hb => eq_of_beq (List.mem_rtakeWhile_imp (p := (· == 0x20)) hb)⟩
    have := congrArg List.length hsplit
    rw [List.length_append, hlen] at this
    omega
  have hne : labelOf l ≠ [] := fun e => by
    rw [e, List.nil_append] at hsplit
    rw [← hsplit, hspaces, e] at hh
    exact hh rfl
  have hle : (labelOf l).length ≤ 8 := by
    have := congrArg List.length hsplit
    rw [List.length_append, hlen] at this
    omega
  refine ⟨⟨List.length_pos_iff.mpr hne, hle, fun b hm => hb b ?_, fun e => hh ?_, fun e => ?_⟩, ?_⟩
  · rw [← hsplit]; exact List.mem_append_left _ hm
  · rw [← hsplit, List.head?_append, e]; rfl
  · rw [List.getLast?_eq_some_getLast hne] at e
    exact List.rdropWhile_last_not (· == 0x20) l hne (beq_iff_eq.mpr (Option.some.inj e))
  · rw [padded, ← hspaces, hsplit]

/-! ### Descriptive fields (R8) -/

theorem Transmission.code_of_ofCode {n : Nat} {t : Transmission} (h : Transmission.ofCode n = some t) : n = t.code := by
  unfold Transmission.ofCode at h
  split at h <;> cases h <;> rfl

theorem Energy.code_of_ofCode {n : Nat} {e : Energy} (h : Energy.ofCode n = some e) : n = e.code := by
  unfold Energy.ofCode at h
  split at h <;> cases h <;> rfl

/-- The bytes of the descriptive fields of KEY_ENROL and KEY_EDIT, behind the bytes `a`. -/
theorem keyFieldsOf_bytes {a l : List Byte} (hl : l.length = 8) (g tr en seats : Byte) {off : Nat}
    (ha : a.length = off) :
    ((a ++ l ++ [g, tr, en, seats]).drop off).take 8 = l
      ∧ field (a ++ l ++ [g, tr, en, seats]) (off + 8) 1 = g.toNat
      ∧ field (a ++ l ++ [g, tr, en, seats]) (off + 9) 1 = tr.toNat
      ∧ field (a ++ l ++ [g, tr, en, seats]) (off + 10) 1 = en.toNat
      ∧ field (a ++ l ++ [g, tr, en, seats]) (off + 11) 1 = seats.toNat := by
  subst ha
  have hal : (a ++ l).length = a.length + 8 := by rw [List.length_append, hl]
  have behind : ∀ i, field (a ++ l ++ [g, tr, en, seats]) (a.length + 8 + i) 1 = field [g, tr, en, seats] i 1 :=
    fun i => by rw [field_append (by omega), hal]; congr 1; omega
  refine ⟨?_, (behind 0).trans (field_head _ _), (behind 1).trans (field_head tr _), (behind 2).trans (field_head en _),
    (behind 3).trans (field_head seats _)⟩
  rw [List.append_assoc, List.drop_left', List.take_left' hl]
  rfl

theorem keyFieldsOf_ok {a l : List Byte} {off : Nat} (ha : a.length = off) (hl : LabelOk l) (g : Group)
    (tr : Transmission) (en : Energy) {seats : Nat} (h2 : 2 ≤ seats) (h9 : seats ≤ 9) :
    keyFieldsOf (a ++ padded l ++ [byte g.val, byte tr.code, byte en.code, byte seats]) off
      = some ⟨l, g, tr, en, seats⟩ := by
  obtain ⟨hlabel, hg, htr, hen, hseats⟩ :=
    keyFieldsOf_bytes hl.length_padded (byte g.val) (byte tr.code) (byte en.code) (byte seats) ha
  have htr' : Transmission.ofCode (byte tr.code).toNat = some tr := by cases tr <;> rfl
  have hen' : Energy.ofCode (byte en.code).toNat = some en := by cases en <;> rfl
  rw [toNat_byte (by omega)] at hg hseats
  simp only [keyFieldsOf, hlabel, hg, htr, hen, hseats, indexOf_val, htr', hen', hl.valid, hl.labelOf_padded]
  rw [if_pos ⟨trivial, h2, h9⟩]

theorem keyFieldsOf_none {a l : List Byte} {off : Nat} (ha : a.length = off) (hl : l.length = 8) {g tr en seats : Nat}
    (hg : g ≤ 255) (htr : tr ≤ 255) (hen : en ≤ 255) (hseats : seats ≤ 255)
    (h : (∀ x, LabelOk x → padded x ≠ l) ∨ 15 < g ∨ 1 < tr ∨ 3 < en ∨ seats < 2 ∨ 9 < seats) :
    keyFieldsOf (a ++ l ++ [byte g, byte tr, byte en, byte seats]) off = none := by
  obtain ⟨hlabel, h8, h9, h10, h11⟩ := keyFieldsOf_bytes hl (byte g) (byte tr) (byte en) (byte seats) ha
  rw [toNat_byte (by omega)] at h8 h9 h10 h11
  simp only [keyFieldsOf, hlabel, h8, h9, h10, h11]
  split
  · next g' t' e' hg' ht' he' =>
    refine if_neg fun ⟨hv, h2, h9⟩ => ?_
    obtain ⟨hok, hpad⟩ := padded_labelOf hv
    have hglt : g < 16 := by
      by_contra hn
      rw [indexOf, dif_neg hn] at hg'
      cases hg'
    have htlt : tr ≤ 1 := by
      rw [Transmission.code_of_ofCode ht']
      cases t' <;> decide
    have helt : en ≤ 3 := by
      rw [Energy.code_of_ofCode he']
      cases e' <;> decide
    obtain h | h | h | h | h | h := h
    · exact h _ hok hpad
    all_goals omega
  · rfl

/-! ### KEY_EDIT (R9) -/

theorem keyEditHandler_ok {s : State} {k : KeyId} {r : KeyRecord} {l : List Byte} {g : Group} {tr : Transmission}
    {en : Energy} {seats : Nat} (h : s.key k = some r) (hl : LabelOk l) (h2 : 2 ≤ seats) (h9 : seats ≤ 9) :
    keyEditHandler (toBytes 2 k.val ++ padded l ++ [byte g.val, byte tr.code, byte en.code, byte seats]) s
      = .ok { state := s.editKey k r ⟨l, g, tr, en, seats⟩ } := by
  have hk : s.keyField (toBytes 2 k.val ++ padded l ++ [byte g.val, byte tr.code, byte en.code, byte seats]) 0
      = .ok (k, r) := by rw [List.append_assoc]; exact State.keyField_toBytes h _
  rw [keyEditHandler, expectLength_passes (by simp [length_toBytes, hl.length_padded]), hk,
    keyFieldsOf_ok (length_toBytes _ _) hl g tr en h2 h9]

theorem KeyTable.place_filter_self (t : KeyTable) (k : KeyId) (l : List KeyId) :
    (t.place k l).filter (· != k) = l.filter (· != k) := by
  induction l with
  | nil => simp [KeyTable.place]
  | cons x xs ih =>
    unfold KeyTable.place
    split
    · rw [List.filter_cons, List.filter_cons, ih]
    · rw [List.filter_cons, if_neg (by simp)]

/-- The record takes the new fields (R9). -/
def KeyFields.onto (f : KeyFields) (r : KeyRecord) : KeyRecord :=
  { r with label := f.label, group := f.group, transmission := f.transmission, energy := f.energy, seats := f.seats }

/-- The key's record takes the new fields; a listed key whose group changes goes from its list to the new one (R9). -/
theorem State.editKey_eq {s : State} {k : KeyId} {r : KeyRecord} (f : KeyFields) (h : s.key k = some r) :
    s.editKey k r f = if k ∈ s.keys.lists.get r.group ∧ f.group ≠ r.group
      then s.withKeys (((s.modifyKey k f.onto).keys.leave r.group k).join f.group k)
      else s.modifyKey k f.onto := by
  unfold State.editKey
  simp only [State.inList_iff h]
  rfl

theorem State.editKey_key {s : State} {k : KeyId} {r : KeyRecord} (f : KeyFields) (h : s.key k = some r) :
    (s.editKey k r f).key k = some (f.onto r) ∧ ∀ j, j ≠ k → (s.editKey k r f).key j = s.key j := by
  have hp : ∀ j, (s.editKey k r f).key j = (s.modifyKey k f.onto).key j := fun j => by
    rw [State.editKey_eq f h]
    split <;> rfl
  refine ⟨?_, fun j hj => (hp j).trans (State.modifyKey_key_ne _ _ (Ne.symm hj))⟩
  rw [hp, State.modifyKey_key_self, h]
  rfl

theorem State.editKey_lists {s : State} {k : KeyId} {r : KeyRecord} (f : KeyFields) (h : s.key k = some r) :
    (f.group = r.group ∨ k ∉ s.keys.lists.get r.group → (s.editKey k r f).keys.lists = s.keys.lists)
      ∧ (f.group ≠ r.group → k ∈ s.keys.lists.get r.group →
        (s.editKey k r f).keys.lists.get r.group = (s.keys.lists.get r.group).filter (· != k)
          ∧ k ∈ (s.editKey k r f).keys.lists.get f.group
          ∧ ((s.editKey k r f).keys.lists.get f.group).filter (· != k)
            = (s.keys.lists.get f.group).filter (· != k)
          ∧ ∀ g, g ≠ f.group → g ≠ r.group → (s.editKey k r f).keys.lists.get g = s.keys.lists.get g) := by
  rw [State.editKey_eq f h]
  refine ⟨fun hno => ?_, fun hg hm => ?_⟩
  · rw [if_neg (by tauto)]
    rfl
  · rw [if_pos ⟨hm, hg⟩]
    change (KeyTable.lists (KeyTable.join _ _ _)).get _ = _ ∧ k ∈ (KeyTable.lists (KeyTable.join _ _ _)).get _
      ∧ ((KeyTable.lists (KeyTable.join _ _ _)).get _).filter _ = _
      ∧ ∀ g, _ → _ → (KeyTable.lists (KeyTable.join _ _ _)).get g = _
    refine ⟨?_, KeyTable.mem_join_self _ _ _, ?_, fun g h1 h2 => ?_⟩
    · rw [KeyTable.get_join, if_neg (Ne.symm hg), KeyTable.get_leave, if_pos rfl]
      rfl
    · rw [KeyTable.get_join, if_pos rfl, KeyTable.place_filter_self, KeyTable.get_leave, if_neg hg]
      rfl
    · rw [KeyTable.get_join, if_neg h1, KeyTable.get_leave, if_neg h2]
      rfl

/-! ### KEY_REMOVE (R10) -/

theorem Contract.names_iff {c : Contract} {k : KeyId} : c.names k = true ↔
    (c.entitlement = .specific k ∧ (c.state = .ticket ∨ c.state = .suspended ∨ c.state = .picking))
      ∨ (c.key = some k ∧ (c.state = .picking ∨ c.state = .out ∨ c.state = .returning)) := by
  unfold Contract.names
  rw [Bool.or_eq_true, Contract.claims_iff]
  cases c.state <;> simp
  tauto

theorem State.named_iff {s : State} {k : KeyId} :
    s.named k = true ↔ ∃ sl c, s.slot sl = some c ∧ c.names k = true := by
  unfold State.named
  rw [Table.rows_eq, List.any_map, List.any_eq_true]
  simp only [mem_fins, true_and, Function.comp_apply, Option.any_eq_true]
  rfl

theorem Location.fixed_iff {l : Location} :
    l.fixed = true ↔ (∃ n, l = .compartment n) ∨ (∃ c, l = .out c) ∨ l = .drop := by
  cases l <;> simp [Location.fixed]

theorem keyRemoveHandler_eq {s : State} {k : KeyId} {r : KeyRecord} (h : s.key k = some r) :
    keyRemoveHandler (toBytes 2 k.val) s = if s.named k = true ∨ r.location.fixed = true then .error .wrongState
      else .ok { state := (s.removeKey k).attend } := by
  have hk := State.keyField_toBytes h []
  rw [List.append_nil] at hk
  rw [keyRemoveHandler, expectLength_passes (length_toBytes _ _), hk]

/-- Settles O18: KEY_EDIT writes the key table alone; KEY_REMOVE is refused for a key that a live contract names or
that is in COMPARTMENT, OUT or DROP, and else empties its place. -/
theorem editAndRemoveChangeTheRecord : Obligations.EditAndRemoveChangeTheRecord := by
  intro s tg k r hserve hk
  have hk' : s.frameEnd.key k = some r := hk
  refine ⟨fun l g tr en seats hl h2 h9 => ?_, fun hno => ?_, fun hloc hnames => ?_⟩
  · have hh := keyEditHandler_ok (g := g) (tr := tr) (en := en) hk' hl h2 h9
    obtain ⟨x, hx⟩ := s.frameEnd.editKey_frame k r ⟨l, g, tr, en, seats⟩
    obtain ⟨h1, h2⟩ := State.editKey_key ⟨l, g, tr, en, seats⟩ hk'
    obtain ⟨h3, h4⟩ := State.editKey_lists ⟨l, g, tr, en, seats⟩ hk'
    rw [hx] at hh h1 h2 h3 h4
    obtain ⟨t, ht, hs, hkeys⟩ := State.request_keys (kind := 0x11) hserve hh
    have hkey : ∀ j, t.key j = (s.frameEnd.withKeys x).key j := fun j => by rw [State.key, hkeys]; rfl
    refine ⟨t, ht, hs, (hkey k).trans h1, fun j hj => (hkey j).trans (h2 j hj), ?_⟩
    rw [hkeys]
    exact ⟨h3, h4⟩
  · refine State.request_refused (kind := 0x12) (e := .wrongState) hserve ((keyRemoveHandler_eq hk').trans (if_pos ?_))
    rw [Location.fixed_iff, State.named_iff]
    obtain h | h | h | ⟨sl, c, hc, h⟩ := hno
    · exact .inr (.inl h)
    · exact .inr (.inr (.inl h))
    · exact .inr (.inr (.inr h))
    · exact .inl ⟨sl, c, hc, Contract.names_iff.mpr h⟩
  · refine State.request_settled (kind := 0x12) (v := s.frameEnd.removeKey k) (st := .ok) (data := [])
      (effect := .nothing) hserve ((keyRemoveHandler_eq hk').trans (if_neg ?_)) rfl
    rw [Location.fixed_iff, State.named_iff]
    rintro (⟨sl, c, hc, hn⟩ | hfix)
    · exact (Contract.names_iff.mp hn).elim (hnames sl c hc).1 (hnames sl c hc).2
    · obtain e | e := hloc <;> rw [e] at hfix <;> simp at hfix

end Sys2Proof.Machine
end

section
/-! SUPPORT. What queueing scans leaves (R41-R45), and O17 and O30. -/

namespace Sys2Proof.Machine

/-! ### Scans queued, one request after another (R41) -/

theorem SweepQueued.refl (s : State) : SweepQueued s s [] :=
  ⟨by simp, fun _ h _ => h, fun n => by simp⟩

theorem SweepQueued.trans {s t u : State} {p q : List CompId} (h : SweepQueued s t p) (g : SweepQueued t u q) :
    SweepQueued s u (p ++ q) := by
  obtain ⟨h1, h2, h3⟩ := h
  obtain ⟨g1, g2, g3⟩ := g
  refine ⟨?_, fun e he hr => g2 e (h2 e he hr) hr, fun n => ?_⟩
  · rw [g1, h1, List.map_append, List.append_assoc]
  · rw [g3, h3]
    by_cases hd : (s.comp n).door = .locked
    · by_cases hp : n ∈ p
      · simp [hp, hd]
      · by_cases hq : n ∈ q <;> simp [hp, hq, hd]
    · simp [hd]

theorem SweepQueued.kept {s t u : State} {q : List CompId} (h : SweepQueued s t q) (g : ListKept t u)
    (hc : u.compartments = t.compartments) : SweepQueued s u q := by
  obtain ⟨h1, h2, h3⟩ := h
  obtain ⟨g1, g2⟩ := g
  refine ⟨g1.trans h1, fun e he hr => g2 e (h2 e he hr) hr, fun n => ?_⟩
  rw [← h3, State.comp, hc]
  rfl

theorem SweepQueued.holds {s t : State} {q : List CompId} (h : SweepQueued s t q) (n : CompId) :
    t.scanner.holds n = true ↔ s.scanner.holds n = true ∨ n ∈ q := by
  have unread : ∀ l : List ScanEntry, (l.any fun e => e.comp == n) = (l.map ScanEntry.unread).any fun e => e.comp == n :=
    fun l => by rw [List.any_map]; rfl
  unfold Scanner.holds
  rw [unread, h.1, List.any_append, Bool.or_eq_true, ← unread, List.any_map]
  simp

/-- Requests for distinct compartments queue those without an entry, in order (R41). -/
theorem State.requestSweeps_queued (s : State) {ns : List CompId} (h : ns.Nodup) :
    SweepQueued s (ns.foldl State.requestSweep s) (ns.filter fun n => !s.scanner.holds n) := by
  induction ns generalizing s with
  | nil => exact .refl s
  | cons n ns ih =>
    obtain ⟨hn, hns⟩ := List.nodup_cons.mp h
    obtain ⟨hheld, hfree⟩ := s.requestSweep_queued n
    rw [List.foldl_cons]
    cases hh : s.scanner.holds n with
    | true =>
      rw [hheld hh, List.filter_cons_of_neg (by simp [hh])]
      exact ih s hns
    | false =>
      have h1 := hfree hh
      have hrest : (ns.filter fun m => !s.scanner.holds m)
          = ns.filter fun m => !(s.requestSweep n).scanner.holds m :=
        List.filter_congr fun m hm => by
          have hne : m ≠ n := fun e => hn (e ▸ hm)
          have := h1.holds m
          rw [List.mem_singleton, or_iff_left hne] at this
          rw [Bool.eq_iff_iff.mpr this]
      rw [List.filter_cons_of_pos (by simp [hh]), hrest]
      exact h1.trans (ih (s.requestSweep n) hns)

theorem State.requestSweep_frame (s : State) (n : CompId) : ∃ l tb, s.requestSweep n = { s with
    scanner := { s.scanner with list := l }, compartments := { s.compartments with table := tb } } := by
  unfold State.requestSweep
  split
  · exact ⟨_, _, rfl⟩
  · dsimp only
    split
    · exact ⟨_, _, rfl⟩
    · exact ⟨_, s.compartments.table, rfl⟩

theorem State.requestSweeps_frame (s : State) (ns : List CompId) : ∃ l tb, ns.foldl State.requestSweep s = { s with
    scanner := { s.scanner with list := l }, compartments := { s.compartments with table := tb } } := by
  induction ns generalizing s with
  | nil => exact ⟨_, _, rfl⟩
  | cons n ns ih =>
    obtain ⟨l, tb, h⟩ := s.requestSweep_frame n
    obtain ⟨l', tb', h'⟩ := ih (s.requestSweep n)
    refine ⟨l', tb', h'.trans ?_⟩
    rw [h]

/-! ### The end of an event that moved the scan list (R42, R43, R45) -/

/-- No sweep ends: none is in progress, or the list has a SWEEP entry (R45). -/
def State.SweepGoesOn (s : State) : Prop := s.scanner.sweeping = true → ∃ e ∈ s.scanner.list, e.cls = .sweep

theorem State.SweepGoesOn.sweepCheck {s : State} (h : s.SweepGoesOn) : s.sweepCheck = s := by
  rw [State.sweepCheck_eq]
  refine if_neg fun ⟨hs, hno⟩ => ?_
  obtain ⟨e, he, hc⟩ := h hs
  exact hno e he hc

theorem State.ScanOk.sweepGoesOn {s : State} (h : s.ScanOk) : s.SweepGoesOn := by
  obtain ⟨-, -, -, -, -, -, -, h⟩ := h
  exact h

theorem sweepEntries_iff {s t : State} {q : List CompId} (h : t.scanner.list.map ScanEntry.unread
    = s.scanner.list.map ScanEntry.unread ++ q.map fun n => ⟨n, .sweep, .nothing, false⟩) :
    (∃ e ∈ t.scanner.list, e.cls = .sweep) ↔ (∃ e ∈ s.scanner.list, e.cls = .sweep) ∨ q ≠ [] := by
  have unread : ∀ l : List ScanEntry, (∃ e ∈ l, e.cls = .sweep) ↔ ∃ e ∈ l.map ScanEntry.unread, e.cls = .sweep :=
    fun l => by simp [ScanEntry.unread]
  rw [unread, h, unread s.scanner.list]
  simp only [List.mem_append, List.mem_map, or_and_right, exists_or]
  refine or_congr Iff.rfl ⟨?_, fun hq => ?_⟩
  · rintro ⟨e, ⟨n, hn, -⟩, -⟩ rfl
    cases hn
  · obtain ⟨n, hn⟩ := List.exists_mem_of_ne_nil q hq
    exact ⟨_, ⟨n, hn, rfl⟩, rfl⟩

theorem State.SweepGoesOn.queued {s t : State} {q : List CompId} (h : s.SweepGoesOn) (g : SweepQueued s t q)
    (hs : t.scanner.sweeping = s.scanner.sweeping) : t.SweepGoesOn := fun ht =>
  (sweepEntries_iff g.1).mpr (.inl (h (hs.symm.trans ht)))

theorem State.sweepCheck_list (s : State) : s.sweepCheck.scanner.list = s.scanner.list := by
  rw [State.sweepCheck_eq]
  split <;> rfl

/-- A taken request that moved the scan list: the sweep condition is tested, the next read begins if one can, the
records are settled and the reply is queued (R43, R160, R172). -/
theorem State.request_concluded {s v : State} {kind tg : Byte} {f : Handler} {st : Status} {data : List Byte}
    (h : s.serves tg) (hf : f s.frameEnd = .ok { status := st, data := data, state := v.concluded })
    (hl : v.sweepCheck.link = s.frameEnd.link) : ∃ t, s.request kind tg f = .next t
      ∧ Settled { v.sweepCheck with
          link := (s.answered (kind + 0x80) tg (byte st.code :: data)).link
          scanner := { v.sweepCheck.scanner with list := t.scanner.list } } t
      ∧ t.keys = v.keys ∧ t.compartments = v.compartments ∧ ListKept v t ∧ t.scanner = v.scanStep.scanner := by
  obtain ⟨hkept, hframe⟩ := v.sweepCheck.startRead_kept
  have hlink : v.scanStep.link = s.frameEnd.link := by
    rw [State.scanStep, hframe]; exact hl
  obtain ⟨t, ht, hs⟩ := State.request_settled (kind := kind) (v := v.scanStep) h hf hlink
  have hsc : t.scanner = v.scanStep.scanner := by rw [hs.1]
  have hrec := v.scanStep_same
  refine ⟨t, ht, ?_, ?_, ?_, ?_, hsc⟩
  · rw [hsc, State.scanStep]
    rw [State.scanStep, hframe] at hs
    exact hs
  · rw [hs.1]; exact hrec.keys
  · rw [hs.1]; exact hrec.compartments
  · unfold ListKept at hkept ⊢
    rw [v.sweepCheck_list] at hkept
    rw [hsc]
    exact hkept

theorem State.request_scanned {s v : State} {kind tg : Byte} {f : Handler} {st : Status} {data : List Byte}
    (h : s.serves tg) (hf : f s.frameEnd = .ok { status := st, data := data, state := v.concluded })
    (hl : v.link = s.frameEnd.link) (hgo : v.SweepGoesOn) : ∃ t, s.request kind tg f = .next t
      ∧ Settled { v with
          link := (s.answered (kind + 0x80) tg (byte st.code :: data)).link
          scanner := { v.scanner with list := t.scanner.list } } t
      ∧ t.keys = v.keys ∧ t.compartments = v.compartments ∧ ListKept v t ∧ t.scanner = v.startRead.scanner := by
  have hc := hgo.sweepCheck
  obtain ⟨t, ht, hs, hk, hp, hkept, hsc⟩ := State.request_concluded (kind := kind) h hf (by rw [hc]; exact hl)
  rw [hc] at hs
  rw [State.scanStep, hc] at hsc
  exact ⟨t, ht, hs, hk, hp, hkept, hsc⟩

/-! ### KEY_ENROL (R8) -/

theorem nodup_filter_fins {n : Nat} (p : Fin n → Bool) : ((fins n).filter p).Nodup := by
  rw [fins_eq]
  exact (List.nodup_finRange n).filter p

theorem State.keyOfTag_isSome {s : State} {tag : Nat} :
    (s.keyOfTag tag).isSome = true ↔ ∃ k r, s.key k = some r ∧ r.tag = tag := by
  rw [← Bool.not_eq_false, Option.isSome_eq_false_iff, Option.isNone_iff_eq_none, State.keyOfTag, Table.find_eq_none]
  simp only [not_forall, Bool.not_eq_false, Option.any_eq_true, beq_iff_eq]
  rfl

theorem State.freePlace_eq {s : State} {k : KeyId} (h : s.key k = none) (hlow : ∀ j, j < k → (s.key j).isSome = true) :
    s.keys.places.find Option.isNone = some k := by
  cases hf : s.keys.places.find Option.isNone with
  | none =>
    have := Table.find_eq_none.mp hf k
    rw [show s.keys.places.get k = none from h] at this
    cases this
  | some j =>
    have hj : s.key j = none := Option.isNone_iff_eq_none.mp (Table.get_of_find hf)
    obtain hlt | rfl | hlt := lt_trichotomy j k
    · have := hlow j hlt
      rw [hj] at this
      cases this
    · rfl
    · have hp := Table.find_first hf hlt
      rw [show s.keys.places.get k = none from h] at hp
      cases hp

/-- KEY_ENROL's handler in the order of R8's checks. -/
theorem keyEnrolHandler_cases (s : State) {tag : Nat} {b : List Byte} (hb : b.length = 12)
    (h : tag ≤ 1099511627775) :
    (keyFieldsOf (toBytes 5 tag ++ b) 5 = none ∨ tag = 0 →
        keyEnrolHandler (toBytes 5 tag ++ b) s = .error .badValue)
      ∧ ∀ f, keyFieldsOf (toBytes 5 tag ++ b) 5 = some f → tag ≠ 0 →
        ((s.keyOfTag tag).isSome = true → keyEnrolHandler (toBytes 5 tag ++ b) s = .error .codeInUse)
        ∧ (s.keyOfTag tag = none → s.keys.places.find Option.isNone = none →
          keyEnrolHandler (toBytes 5 tag ++ b) s = .error .tableFull)
        ∧ ∀ k, s.keyOfTag tag = none → s.keys.places.find Option.isNone = some k →
          keyEnrolHandler (toBytes 5 tag ++ b) s
            = .ok { data := toBytes 2 k.val, state := (s.enrol k tag f).concluded } := by
  have ht : field (toBytes 5 tag ++ b) 0 5 = tag := field_toBytes (by omega) _
  rw [keyEnrolHandler, expectLength_passes (by simp [length_toBytes, hb])]
  simp only [ht]
  refine ⟨fun hno => ?_, fun f hf htag => ⟨fun hs => ?_, fun hs hfull => ?_, fun k hs hk => ?_⟩⟩
  · cases hf : keyFieldsOf (toBytes 5 tag ++ b) 5 with
    | none => rfl
    | some f =>
      rw [hf] at hno
      exact if_pos (hno.resolve_left (by simp))
  · simp [hf, htag, hs]
  · simp [hf, htag, hs, hfull]
  · simp [hf, htag, hs, hk]

theorem State.holdersOf_eq (s : State) (tag : Nat) :
    s.holdersOf tag = (fins 192).filter fun n => (s.comp n).contents.contains (.foreign tag) := Table.places_eq _ _

/-- An enrolment writes its place, and queues a scan of each compartment that holds the tag and has no entry (R8). -/
theorem State.enrol_queued (s : State) (k : KeyId) (tag : Nat) (f : KeyFields) :
    SweepQueued s (s.enrol k tag f) ((fins 192).filter fun n =>
        (s.comp n).contents.contains (.foreign tag) && !s.scanner.list.any (·.comp == n))
      ∧ ∃ l tb, s.enrol k tag f = { s with
          keys := { s.keys with places := s.keys.places.set k (some ⟨tag, f.label, f.group, f.transmission, f.energy,
            f.seats, .staffHand, .checked, false, none, 0⟩) }
          scanner := { s.scanner with list := l }
          compartments := { s.compartments with table := tb } } := by
  unfold State.enrol
  dsimp only
  rw [State.holdersOf_eq]
  refine ⟨?_, State.requestSweeps_frame _ _⟩
  have hq := State.requestSweeps_queued (s.withKeys { s.keys with places := s.keys.places.set k (some ⟨tag, f.label,
    f.group, f.transmission, f.energy, f.seats, .staffHand, .checked, false, none, 0⟩) })
    (nodup_filter_fins fun n => (s.comp n).contents.contains (.foreign tag))
  rw [List.filter_filter] at hq
  simp only [Bool.and_comm] at hq ⊢
  exact hq

/-- Settles O17: R8's checks in their order; the enrolment writes one place and queues the scans of R8. -/
theorem enrolTakesTheLowestPlace : Obligations.EnrolTakesTheLowestPlace := by
  intro s tg tag hserve hscan htag
  refine ⟨fun l g tr en seats hl hg htr hen hseats hbad => ?_, fun l g tr en seats h1 hl h2 h9 => ?_⟩
  · have hfields := keyFieldsOf_none (length_toBytes 5 tag) hl hg htr hen hseats
    rw [List.append_assoc] at hfields ⊢
    refine State.request_refused (kind := 0x10) (e := .badValue) hserve
      ((keyEnrolHandler_cases s.frameEnd (by simp [hl]) htag).1 ?_)
    exact hbad.symm.imp hfields id
  · have hfields := keyFieldsOf_ok (length_toBytes 5 tag) hl g tr en h2 h9
    rw [List.append_assoc] at hfields ⊢
    obtain ⟨huse, hfull, hok⟩ := (keyEnrolHandler_cases s.frameEnd (by simp [hl.length_padded]) htag).2 _ hfields
      (by omega)
    by_cases hused : ∃ k r, s.key k = some r ∧ r.tag = tag
    · obtain ⟨t, ht, hs⟩ := State.request_refused (kind := 0x10) hserve (huse (State.keyOfTag_isSome.mpr hused))
      obtain ⟨k, r, hk, hr⟩ := hused
      exact ⟨t, ht, fun _ => hs, fun hno => absurd hr (hno k r hk)⟩
    · have hnone : s.frameEnd.keyOfTag tag = none := by
        rw [← Option.isNone_iff_eq_none, ← Option.isSome_eq_false_iff, ← Bool.not_eq_true]
        exact fun h => hused (State.keyOfTag_isSome.mp h)
      cases hfind : s.frameEnd.keys.places.find Option.isNone with
      | none =>
        have hall : ∀ j, (s.key j).isSome = true := fun j => by
          have := Table.find_eq_none.mp hfind j
          rwa [Option.isNone_eq_false_iff] at this
        obtain ⟨t, ht, hs⟩ := State.request_refused (kind := 0x10) hserve (hfull hnone hfind)
        refine ⟨t, ht, fun h => absurd h hused, fun _ => ⟨fun _ => hs, fun k hk => ?_⟩⟩
        have := hall k
        rw [hk] at this
        cases this
      | some k₀ =>
        have hfree : s.key k₀ = none := Option.isNone_iff_eq_none.mp (Table.get_of_find hfind)
        obtain ⟨hq, l', tb, he⟩ := s.frameEnd.enrol_queued k₀ tag ⟨l, g, tr, en, seats⟩
        obtain ⟨t, ht, hs, hk, hp, hkept, -⟩ := State.request_scanned (kind := 0x10) hserve (hok k₀ hnone hfind)
          (by rw [he]) (State.SweepGoesOn.queued (s := s.frameEnd) hscan.sweepGoesOn hq (by rw [he]))
        refine ⟨t, ht, fun h => absurd h hused, fun _ => ⟨fun hall => ?_, fun k hkf hlow => ?_⟩⟩
        · have := hall k₀
          rw [hfree] at this
          cases this
        · obtain rfl : k₀ = k := Option.some.inj (hfind.symm.trans (State.freePlace_eq (s := s.frameEnd) hkf hlow))
          refine ⟨?_, hq.kept hkept hp⟩
          rw [hp]
          rw [he] at hs ⊢
          exact hs

end Sys2Proof.Machine
end

section
/-! SUPPORT. O30: SERVICE and RESCAN (R31, R41, R44, R45). -/

namespace Sys2Proof.Machine

/-! ### The service state of a compartment (R31, R36) -/

def State.withService (s : State) (n : CompId) (v : Service) : State :=
  s.withCompartments { s.compartments with table := s.compartments.table.set n { s.comp n with service := v } }

theorem State.withService_same {s : State} {n : CompId} {v : Service} (h : (s.comp n).service = v) :
    s.withService n v = s := by
  have ht : s.compartments.table.set n { s.comp n with service := v } = s.compartments.table := by
    refine Table.ext_get fun m => ?_
    rw [Table.get_set]
    split
    · next e => subst e; rw [← h]; rfl
    · rfl
  rw [State.withService, ht]
  rfl

theorem State.withService_door (s : State) (n : CompId) (v : Service) (m : CompId) :
    ((s.withService n v).comp m).door = (s.comp m).door := by
  change Compartment.door ((Table.set _ _ _).get m) = _
  rw [Table.get_set]
  split
  · next e => rw [← e]
  · rfl

/-- Taking a compartment out of service writes its service state and the key table: no key but its own (R31). -/
theorem State.outOfService_eq (s : State) (n : CompId) :
    ∃ x, s.outOfService n = (s.withService n .outOfService).withKeys x
      ∧ ((s.comp n).service = .outOfService → x = s.keys)
      ∧ ((s.comp n).service = .inService → (∀ k, Item.key k ∉ (s.comp n).contents) → x = s.keys)
      ∧ ∀ k r, s.key k = some r → (s.comp n).service = .inService → (s.comp n).contents = [.key k] →
        Reexamined (s.withService n .outOfService) ((s.withService n .outOfService).withKeys x) k r := by
  unfold State.outOfService
  cases hv : (s.comp n).service with
  | outOfService =>
    exact ⟨s.keys, by rw [State.withService_same hv]; rfl, fun _ => rfl, fun h => (by cases h), fun _ _ _ h => by cases h⟩
  | inService =>
    have hm : (s.modifyComp n fun c => { c with service := .outOfService }) = s.withService n .outOfService := rfl
    obtain ⟨x, hx⟩ := (s.withService n .outOfService).reexamineAll_frame s.joinMinute (keysOf (s.comp n).contents)
    refine ⟨x, hx, fun h => (by cases h), fun _ hno => ?_, fun k r hk _ hone => ?_⟩
    · have hnil : keysOf (s.comp n).contents = [] :=
        List.eq_nil_iff_forall_not_mem.mpr fun k hk => hno k (mem_keysOf.mp hk)
      rw [hnil] at hx
      exact (congrArg State.keys hx).symm
    · rw [← hx, hone]
      exact State.reexamine_reexamined (s := s.withService n .outOfService) hk

/-- Putting it back writes its service state and queues a scan, unless it was in service or has an entry (R31). -/
theorem State.backInService_queued (s : State) (n : CompId) :
    SweepQueued (s.withService n .inService) (s.backInService n)
        (if (s.comp n).service = .outOfService ∧ s.scanner.list.all (·.comp != n) = true then [n] else [])
      ∧ ∃ l tb, s.backInService n = { s with
          scanner := { s.scanner with list := l }, compartments := { s.compartments with table := tb } } := by
  unfold State.backInService
  cases hv : (s.comp n).service with
  | inService =>
    rw [State.withService_same hv, if_neg (by simp)]
    exact ⟨.refl s, _, _, rfl⟩
  | outOfService =>
    obtain ⟨l, tb, he⟩ := (s.withService n .inService).requestSweep_frame n
    obtain ⟨hheld, hfree⟩ := (s.withService n .inService).requestSweep_queued n
    refine ⟨?_, l, tb, he⟩
    change SweepQueued _ ((s.withService n .inService).requestSweep n) _
    cases hh : s.scanner.holds n with
    | true =>
      have hno : ¬ s.scanner.list.all (·.comp != n) = true := fun hall => by
        obtain ⟨e, he, hn⟩ := List.any_eq_true.mp hh
        have := List.all_eq_true.mp hall e he
        simp_all
      rw [hheld hh, if_neg fun h => hno h.2]
      exact .refl _
    | false =>
      have hall : s.scanner.list.all (·.comp != n) = true := List.all_eq_true.mpr fun e he => by
        have := List.any_eq_false.mp hh e he
        simpa using this
      rw [if_pos ⟨rfl, hall⟩]
      exact hfree hh

/-! ### Reads that cannot begin (R42) -/

theorem markFirst_none {p : CompId → Bool} {l : List ScanEntry} (h : ∀ e ∈ l, p e.comp = false) :
    markFirst p l = l := by
  induction l with
  | nil => rfl
  | cons e l ih =>
    rw [markFirst, if_neg (by simp [h e List.mem_cons_self]), ih fun e' he => h e' (List.mem_cons_of_mem _ he)]

/-- Where the scan list's law holds, no read begins that has not begun (R42). -/
theorem State.ScanOk.startRead {s t : State} (h : s.ScanOk) (hsc : t.scanner = s.scanner)
    (hd : ∀ n, (t.comp n).door = (s.comp n).door) : t.startRead = t := by
  obtain ⟨-, -, -, -, -, -, hreads, -⟩ := h
  unfold State.startRead
  split
  · rfl
  · next hno =>
    have hnone : ∀ e ∈ t.scanner.list, (t.comp e.comp).door.readable = false := fun e he => by
      by_contra hr
      rw [hsc] at he
      rw [hd] at hr
      obtain ⟨e', he', hr'⟩ := hreads ⟨e, he, by simpa using hr⟩
      exact hno (List.any_eq_true.mpr ⟨e', hsc ▸ he', hr'⟩)
    rw [markFirst_none hnone]
    rfl

theorem State.requestSweep_spec (s : State) (n : CompId) :
    SweepQueued s (s.requestSweep n) (if s.scanner.list.any (·.comp == n) then [] else [n])
      ∧ ∃ l tb, s.requestSweep n = { s with
          scanner := { s.scanner with list := l }, compartments := { s.compartments with table := tb } } := by
  refine ⟨?_, s.requestSweep_frame n⟩
  change SweepQueued s (s.requestSweep n) (if s.scanner.holds n then [] else [n])
  obtain ⟨hheld, hfree⟩ := s.requestSweep_queued n
  cases hh : s.scanner.holds n with
  | true => rw [hheld hh]; exact .refl s
  | false => exact hfree hh

theorem ListKept.sweep_iff {s t : State} (h : ListKept s t) :
    (∃ e ∈ t.scanner.list, e.cls = .sweep) ↔ ∃ e ∈ s.scanner.list, e.cls = .sweep := by
  have := sweepEntries_iff (s := s) (t := t) (q := []) (by simpa using h.1)
  simpa using this

/-! ### The handlers -/

theorem DoorState.allowsService_iff {d : DoorState} : d.allowsService = true ↔ d = .locked ∨ d = .unknown := by
  cases d <;> simp [DoorState.allowsService]

theorem serviceHandler_eq (s : State) (n : CompId) (b : Bool) :
    serviceHandler [byte (n.val + 1), if b then 1 else 0] s
      = if (s.comp n).door.allowsService = true
        then .ok { state := (if b then s.outOfService n else s.backInService n).concluded }
        else .error .wrongState := by
  have hy : yesNo (field [byte (n.val + 1), if b then 1 else 0] 1 1) = some b := by
    rw [show [byte (n.val + 1), if b then 1 else 0] = [byte (n.val + 1)] ++ [if b then 1 else 0] from rfl,
      field_append (by simp), List.length_singleton, field_head]
    cases b <;> rfl
  rw [serviceHandler, expectLength_passes (by simp), compField_byte]
  simp only [hy]

theorem rescanHandler_one (s : State) (n : CompId) :
    rescanHandler [byte (n.val + 1)] s = if (s.comp n).door.allowsService = true
      then .ok { status := .accepted, data := [if s.scanner.holds n then 0 else 1]
                 state := (s.requestSweep n).concluded }
      else .error .wrongState := by
  have hne : field [byte (n.val + 1)] 0 1 ≠ 0xFF := by
    rw [field_head, toNat_byte (by omega)]
    omega
  rw [rescanHandler, expectLength_passes (by simp), if_neg hne, compField_byte]

theorem rescanHandler_all (s : State) : rescanHandler [0xFF] s
    = .ok { status := .accepted, data := [byte s.unlisted.length], state := s.sweepAll.concluded } := by
  have h0 : field [0xFF] 0 1 = 0xFF := field_head _ _
  rw [rescanHandler, expectLength_passes (by simp), if_pos h0]

/-! ### A sweep of every compartment (R44, R45) -/

theorem State.unknownCount_eq (s : State) : s.unknownCount = (fins 192).countP fun m => !(s.comp m).known := by
  rw [State.unknownCount, Table.rows_eq, List.countP_map]
  rfl

theorem State.sweepAll_queued (s : State) : SweepQueued s s.sweepAll s.unlisted
    ∧ ∃ l tb, s.sweepAll = { s with
        scanner := { list := l, sweeping := true }, compartments := { s.compartments with table := tb } } := by
  have hq := s.requestSweeps_queued (ns := s.unlisted) (nodup_filter_fins _)
  have hall : (s.unlisted.filter fun m => !s.scanner.holds m) = s.unlisted :=
    List.filter_eq_self.mpr fun m hm => (List.mem_filter.mp hm).2
  rw [hall] at hq
  obtain ⟨l, tb, he⟩ := s.requestSweeps_frame s.unlisted
  unfold State.sweepAll
  dsimp only
  refine ⟨?_, l, tb, by rw [he]; rfl⟩
  exact hq

/-- A sweep of no compartment at a list without a SWEEP entry ends at once, with its notice (R44, R45). -/
theorem State.sweepAll_empty {s : State} (h : ¬ ∃ e ∈ s.sweepAll.scanner.list, e.cls = .sweep) :
    s.unlisted = [] ∧ s.sweepAll.sweepCheck = { s.noted [{ kind := .sweepDone, minute := s.present
                                                           detailB := (fins 192).countP fun m => !(s.comp m).known }]
      with scanner := { s.scanner with sweeping := false } } := by
  obtain ⟨hq, -⟩ := s.sweepAll_queued
  rw [sweepEntries_iff hq.1, not_or, not_not] at h
  obtain ⟨hno, hnil⟩ := h
  have he : s.sweepAll = s.withScanner { s.scanner with sweeping := true } := by
    unfold State.sweepAll
    rw [hnil]
    rfl
  refine ⟨hnil, ?_⟩
  rw [he, State.sweepCheck_eq, if_pos ⟨rfl, fun e hm hc => hno ⟨e, hm, hc⟩⟩, State.unknownCount_eq]
  rfl

/-- Settles O30: each handler's state is `concluded`, after which no sweep ends but one of no compartment. -/
theorem serviceAndRescanQueueScans : Obligations.ServiceAndRescanQueueScans := by
  intro s tg n hserve hscan
  have hallow := (s.comp n).door.allowsService_iff
  refine ⟨fun h1 h2 => ?_, fun hd => ⟨?_, ?_, ?_⟩, ?_⟩
  · have hno : ¬ (s.comp n).door.allowsService = true := fun h => (hallow.mp h).elim h1 h2
    exact ⟨fun b => State.request_refused (kind := 0x32) hserve ((serviceHandler_eq _ n b).trans (if_neg hno)),
      State.request_refused (kind := 0x34) hserve ((rescanHandler_one _ n).trans (if_neg hno))⟩
  · obtain ⟨x, hx, hout, hempty, hre⟩ := s.frameEnd.outOfService_eq n
    have hh := (serviceHandler_eq s.frameEnd n true).trans (if_pos (hallow.mpr hd))
    rw [if_pos rfl, if_pos rfl, hx] at hh
    obtain ⟨t, ht, hs, hk, hp, -, hsc⟩ := State.request_scanned (kind := 0x32) hserve hh rfl hscan.sweepGoesOn
    rw [hscan.startRead (t := (s.frameEnd.withService n .outOfService).withKeys x) rfl
      fun m => s.withService_door n .outOfService m] at hsc
    refine ⟨t, ht, ?_, fun h => hk.trans (hout h), fun h hno => hk.trans (hempty h hno), fun k r hkr hin hone _ => ?_⟩
    · rw [hk]
      rw [hsc] at hs
      exact hs
    · refine (hre k r hkr hin hone).congr ?_ rfl rfl (fun _ _ => rfl) hk
      rw [hp]
      exact Iff.rfl
  · obtain ⟨hq, l, tb, he⟩ := s.frameEnd.backInService_queued n
    have hh := (serviceHandler_eq s.frameEnd n false).trans (if_pos (hallow.mpr hd))
    obtain ⟨t, ht, hs, hk, hp, hkept, -⟩ := State.request_scanned (kind := 0x32) hserve hh
      (by rw [if_neg (by simp), he])
      (.queued (s := s.frameEnd.withService n .inService) hscan.sweepGoesOn hq (by rw [if_neg (by simp), he]; rfl))
    refine ⟨t, ht, ?_, hq.kept hkept hp⟩
    rw [hp]
    rw [if_neg (by simp), he] at hs ⊢
    exact hs
  · obtain ⟨hq, l, tb, he⟩ := s.frameEnd.requestSweep_spec n
    have hh := (rescanHandler_one s.frameEnd n).trans (if_pos (hallow.mpr hd))
    obtain ⟨t, ht, hs, hk, hp, hkept, -⟩ := State.request_scanned (kind := 0x34) hserve hh (by rw [he])
      (.queued (s := s.frameEnd) hscan.sweepGoesOn hq (by rw [he]))
    refine ⟨t, ht, ?_, hq.kept hkept hp⟩
    rw [hp]
    rw [he] at hs ⊢
    exact hs
  · obtain ⟨hq, l, tb, he⟩ := s.frameEnd.sweepAll_queued
    by_cases hsw : ∃ e ∈ s.frameEnd.sweepAll.scanner.list, e.cls = .sweep
    · obtain ⟨t, ht, hs, hk, hp, hkept, -⟩ := State.request_scanned (kind := 0x34) hserve (rescanHandler_all s.frameEnd)
        (by rw [he]) fun _ => hsw
      refine ⟨t, ht, hq.kept hkept hp, fun _ => ?_, fun hno => ?_⟩
      · rw [hp]
        rw [he] at hs ⊢
        exact hs
      · obtain ⟨e, hm, hc⟩ := hkept.sweep_iff.mpr hsw
        exact absurd hc (hno e hm)
    · obtain ⟨hnil, hcheck⟩ := State.sweepAll_empty hsw
      obtain ⟨t, ht, hs, hk, hp, hkept, -⟩ := State.request_concluded (kind := 0x34) hserve
        (rescanHandler_all s.frameEnd) (by rw [hcheck]; rfl)
      refine ⟨t, ht, hq.kept hkept hp, fun h => absurd (hkept.sweep_iff.mp h) hsw, fun _ => ?_⟩
      rw [hcheck, hnil] at hs
      exact hs

end Sys2Proof.Machine
end

section
/-! SUPPORT. What a start leaves of the tables and which notices it enters (R186), and O10 and O11. -/

namespace Sys2Proof.Machine

/-! ### The commands that make a start -/

/-- A command that makes a start takes it at the records of `u`, with power and another state of the line (R178, R186). -/
theorem StartFrom.exec {s u : State} {c : Instr} {cold m : Bool} (h : StartFrom s u c cold m) :
    ∃ l, exec c s = .next (State.start cold m { u with link := l, powered := true }) := by
  obtain ⟨hstart, hfrom⟩ := h
  obtain ⟨rfl, hp, rfl⟩ | ⟨rfl, hp, rfl, htx, hr⟩ := hstart
  · refine ⟨u.link, ?_⟩
    change Host.Outcome.next (s.power cold) = _
    obtain rfl | ⟨hs, hl⟩ := hfrom
    · rw [State.power, hp]; rfl
    · have hu : s.losePower = u := by
        have h : s.taken s.losePower = .next u := hl
        rw [State.taken, hs] at h
        exact Host.Outcome.next.inj h
      rw [State.power, hs, if_pos rfl, hu]; rfl
  · obtain rfl : u = s := by
      obtain h | ⟨hs, hl⟩ := hfrom
      · exact h
      · have h : s.taken s.losePower = .next u := hl
        rw [State.taken, hs] at h
        have hpow : s.losePower.powered = false := by
          unfold State.losePower
          dsimp only
          split <;> rfl
        rw [← Host.Outcome.next.inj h, if_pos rfl, hpow] at hp
        cases hp
    cases hq : u.link.replies with
    | nil => rw [hq] at hr; cases hr
    | cons r rest =>
      rw [hq] at hr
      have he : r.effect = .start cold := Option.some.inj hr
      refine ⟨{ u.link with replies := rest, tx := .idle }, ?_⟩
      change u.taken u.frameSent = _
      rw [State.taken, hp, if_pos rfl, State.frameSent, htx]
      simp only [hq, he]
      rw [← hp]
      rfl

/-! ### The ring (R157) -/

/-- What a notice's entry reads and writes. -/
def NoticeUnit.log (u : NoticeUnit) : List Notice × Nat × Bool := (u.ring, u.nextSeq, u.overflow)

theorem NoticeUnit.log_enter {u v : NoticeUnit} (h : u.log = v.log) (b : NoticeBody) :
    (u.enter b).log = (v.enter b).log := by
  simp only [NoticeUnit.log, Prod.mk.injEq] at h
  obtain ⟨h1, h2, h3⟩ := h
  unfold NoticeUnit.enter
  rw [h1, h2]
  split
  · simp only [NoticeUnit.log, h3]
  · rfl

theorem NoticeUnit.log_enterAll {u v : NoticeUnit} (h : u.log = v.log) (bs : List NoticeBody) :
    (bs.foldl NoticeUnit.enter u).log = (bs.foldl NoticeUnit.enter v).log := by
  induction bs generalizing u v with
  | nil => exact h
  | cons b bs ih => exact ih (NoticeUnit.log_enter h b)

theorem NoticeUnit.eq_of_log {u v : NoticeUnit} (h : u.log = v.log) : u = { v with
    pending := u.pending, missing := u.missing, foreign := u.foreign, callLatch := u.callLatch, beacon := u.beacon
    pager := u.pager } := by
  simp only [NoticeUnit.log, Prod.mk.injEq] at h
  obtain ⟨h1, h2, h3⟩ := h
  rw [← h1, ← h2, ← h3]

theorem State.noted_append (s : State) (a b : List NoticeBody) : s.noted (a ++ b) = (s.noted a).noted b := by
  simp only [State.noted, List.foldl_append]

/-! ### The notices of a start (R55, R112, R186) -/

theorem State.damaged_eq (s : State) : s.store.stored.damaged = s.damagedRecords := by
  unfold StoredRecords.damaged State.damagedRecords
  rw [Table.places_eq, Table.places_eq, Table.places_eq]

/-- The notices of step 6 of a start, with the present minute they carry (R186). -/
def startReports (records : List (Nat × Nat)) (minute : Option Nat) (cold m : Bool) : List NoticeBody :=
  { kind := .start, minute := minute, detailA := if cold then 0 else 1, detailB := if m then 1 else 0 }
    :: records.map fun d => { kind := .storeDamaged, minute := minute, detailA := d.1, detailB := d.2 }

theorem State.startNotices_eq (s : State) (cold m : Bool) :
    s.startNotices cold m = s.noted (startReports s.damagedRecords s.present cold m) := by
  have hfold : ∀ (l : List (Nat × Nat)) (u : State), l.foldl (fun s d => s.enter
      { kind := .storeDamaged, minute := s.present, detailA := d.1, detailB := d.2 }) u
      = u.noted (l.map fun d => { kind := .storeDamaged, minute := u.present, detailA := d.1, detailB := d.2 }) := by
    intro l
    induction l with
    | nil => intro u; rfl
    | cons d l ih => intro u; exact ih _
  unfold State.startNotices
  dsimp only
  rw [hfold, State.damaged_eq]
  rfl

/-- The start sweep queues the compartments found closed; no other part but the scanner changes (R44, R55). -/
theorem State.startSweep_eq (s : State) : ∃ l, s.startSweep = s.withScanner { list := l, sweeping := true }
    ∧ ((∀ e ∈ l, e.cls ≠ .sweep) ↔ s.doorPins.rows.all id = true) := by
  have hk := (s.withScanner
    { list := (s.doorPins.places fun isOpen => !isOpen).map fun n => ⟨n, .sweep, .nothing, false⟩
      sweeping := true }).startRead_kept
  obtain ⟨⟨hkept, -⟩, hframe⟩ := hk
  refine ⟨_, hframe, ?_⟩
  have hsw := sweepEntries_iff (s := s.withScanner { list := [], sweeping := true }) (t := s.startSweep)
    (q := s.doorPins.places fun isOpen => !isOpen) (by
      refine hkept.trans ?_
      change List.map ScanEntry.unread (List.map _ _) = List.map _ _
      rw [List.map_map]
      rfl)
  have hnil : (s.doorPins.places fun isOpen => !isOpen) = [] ↔ s.doorPins.rows.all id = true := by
    rw [Table.places_eq, List.filter_eq_nil_iff, Table.rows_eq, List.all_map, List.all_eq_true]
    simp
  rw [← hnil]
  constructor
  · intro hno
    by_contra hne
    obtain ⟨e, he, hc⟩ := hsw.mpr (.inr hne)
    exact hno e he hc
  · intro he e hm hc
    obtain ⟨e, hm', -⟩ | hne := hsw.mp ⟨e, hm, hc⟩
    · cases hm'
    · exact hne he

/-- The notices that a start enters at the state `b` whose staff-door switch has been read. -/
def startLog (b : State) (cold m visit : Bool) (entries : Nat) : List NoticeBody :=
  startReports b.damagedRecords b.present cold m
    ++ (if visit then [{ kind := .dropEmptied, minute := b.present, detailA := 2, detailB := entries }] else [])
    ++ (if b.doorPins.rows.all id then [{ kind := .sweepDone, minute := b.present, detailB := b.unknownCount }] else [])

/-- The end of the start sweep's notices: SWEEP_DONE when no compartment was found closed (R45, R55). -/
theorem State.startNotices_swept (b : State) {l : List ScanEntry} (hall : (∀ e ∈ l, e.cls ≠ .sweep)
    ↔ b.doorPins.rows.all id = true) (cold m visit : Bool) (entries : Nat) :
    ∃ sc, (if visit = true
        then ((b.withScanner { list := l, sweeping := true }).startNotices cold m).enterEmptied .start entries
        else (b.withScanner { list := l, sweeping := true }).startNotices cold m).sweepCheck
      = (b.noted (startLog b cold m visit entries)).withScanner sc := by
  have hv : (if visit = true
        then ((b.withScanner { list := l, sweeping := true }).startNotices cold m).enterEmptied .start entries
        else (b.withScanner { list := l, sweeping := true }).startNotices cold m)
      = (b.noted (startReports b.damagedRecords b.present cold m ++ if visit then
          [{ kind := .dropEmptied, minute := b.present, detailA := 2, detailB := entries }] else [])).withScanner
        { list := l, sweeping := true } := by
    rw [State.startNotices_eq, State.noted_append]
    cases visit <;> rfl
  rw [hv, State.sweepCheck_eq, startLog, State.noted_append b (_ ++ _)]
  by_cases hp : b.doorPins.rows.all id = true
  · rw [if_pos ⟨rfl, hall.mpr hp⟩, if_pos hp]
    exact ⟨_, rfl⟩
  · rw [if_neg fun h => hp (hall.mp h.2), if_neg hp]
    exact ⟨_, rfl⟩

/-- After the staff-door switch is read a start enters its notices, and leaves the drop box and the monitor (R186). -/
theorem State.start_reports (s : State) (cold m : Bool) {b : State}
    (hb : (s.startTables cold).readField.readStaffDoor cold = b) :
    (s.start cold m).drop = b.drop
      ∧ (s.start cold m).overdue = { b.overdue with counts := (s.start cold m).overdue.counts }
      ∧ (s.start cold m).notices.log = (b.noted (startLog b cold m ((s.startTables cold).visitEnded cold)
          (s.startTables cold).drop.entries.length)).notices.log
      ∧ (s.start cold m).notices.callLatch = false ∧ (s.start cold m).AttentionOk := by
  unfold State.start
  dsimp only
  generalize hu : (if cold = true then s.endFlight.readStore.emptyTables else s.endFlight.readStore.rollBackTables) = u
  obtain rfl : s.startTables cold = u := hu
  rw [hb]
  obtain ⟨l, hsweep, hall⟩ := b.startSweep_eq
  obtain ⟨sc, hsc⟩ := b.startNotices_swept hall cold m ((s.startTables cold).visitEnded cold)
    (s.startTables cold).drop.entries.length
  rw [hsweep, hsc]
  generalize startLog b cold m ((s.startTables cold).visitEnded cold) (s.startTables cold).drop.entries.length = bs
  have hattend := ((b.noted bs).withScanner sc).clearCauses.attend_ok
  have htx := ((b.noted bs).withScanner sc).clearCauses.attend.transmit_frame false
  generalize ((b.noted bs).withScanner sc).clearCauses.attend.transmit false = t at htx
  have hdrop : t.drop = b.drop := by rw [htx]; rfl
  have hover : t.overdue = ((b.noted bs).withScanner sc).clearCauses.attend.overdue := by rw [htx]
  have hnot : t.notices = ((b.noted bs).withScanner sc).clearCauses.attend.notices := by rw [htx]
  refine ⟨hdrop, ?_, ?_, ?_, ?_⟩
  · rw [hover]; rfl
  · rw [hnot]; rfl
  · rw [hnot]; rfl
  · refine hattend.of_same ?_ ?_ ?_ ?_ ?_ ?_ ?_ <;> rw [htx]

/-! ### The tables after the switches are read -/

theorem State.startTables_unknown (s : State) (cold : Bool) :
    (s.startTables cold).readField.unknownCount = 192 := by
  rw [State.unknownCount_eq, List.countP_eq_length.mpr fun n _ => by rw [s.startTables_known cold n]; rfl, fins_eq, List.length_finRange]

theorem State.visitEnded_iff {s : State} {cold : Bool} : s.visitEnded cold = true ↔ cold = false
    ∧ s.drop.staffDoor = .opened ∧ (if s.staffDoorPin then .opened else .closed) = StaffDoor.closed := by
  unfold State.visitEnded
  cases s.staffDoorPin <;> simp

theorem State.takeAllFromDrop_withDrop (s : State) (d : DropBox) (ks : List KeyId) :
    ks.foldl State.takeFromDrop (s.withDrop d) = (ks.foldl State.takeFromDrop s).withDrop d := by
  induction ks generalizing s with
  | nil => rfl
  | cons k ks ih => exact ih (s.takeFromDrop k)

/-- The staff door's reading writes the drop box, and the keys of an emptied list (R112). -/
theorem State.readStaffDoor_eq (s : State) (cold : Bool) : ∃ fl d, s.readStaffDoor cold = { s with
    keys := if s.visitEnded cold = true
      then ((s.drop.entries.filterMap DropEntry.key).foldl State.takeFromDrop s).keys else s.keys
    drop := { entries := if s.visitEnded cold = true then [] else s.drop.entries, flap := fl, staffDoor := d } } := by
  unfold State.readStaffDoor
  dsimp only
  by_cases hv : s.visitEnded cold = true
  · rw [if_pos (State.visitEnded_iff.mp hv), if_pos hv, if_pos hv]
    obtain ⟨x, hx⟩ := State.takeAllFromDrop_frame s (s.drop.entries.filterMap DropEntry.key)
    unfold State.clearDrop
    dsimp only [State.withDrop_drop]
    rw [State.takeAllFromDrop_withDrop, hx]
    exact ⟨_, _, rfl⟩
  · rw [if_neg fun h => hv (State.visitEnded_iff.mpr h), if_neg hv, if_neg hv]
    exact ⟨_, _, rfl⟩

/-- The keys of an emptied drop list that are in DROP go to STAFF_HAND; no list changes (R108). -/
theorem State.takeAllFromDrop_key (s : State) (ks : List KeyId) (k : KeyId) :
    (ks.foldl State.takeFromDrop s).key k = (s.key k).map fun r =>
        { r with location := if r.location = .drop ∧ k ∈ ks then .staffHand else r.location } := by
  induction ks generalizing s with
  | nil => simp
  | cons j ks ih =>
    rw [List.foldl_cons, ih]
    have hj : (s.takeFromDrop j).key k
        = (s.key k).map fun r => if r.location = .drop ∧ k = j then { r with location := .staffHand } else r := by
      unfold State.takeFromDrop
      by_cases e : j = k
      · subst e
        rw [State.modifyKey_key_self]
        simp
      · rw [State.modifyKey_key_ne _ _ e]
        simp [Ne.symm e]
    rw [hj, Option.map_map]
    refine congrArg (Option.map · (s.key k)) (funext fun r => ?_)
    by_cases hd : r.location = .drop <;> by_cases e : k = j <;> simp [hd, e]

theorem State.takeAllFromDrop_lists (s : State) (ks : List KeyId) :
    (ks.foldl State.takeFromDrop s).keys.lists = s.keys.lists := by
  induction ks generalizing s with
  | nil => rfl
  | cons k ks ih => exact ih (s.takeFromDrop k)

/-- After a start the tables are those of steps 3 and 4, but for the keys of an emptied drop list (R186). -/
theorem State.start_tables (s : State) (cold m : Bool) (a : State) (ha : (s.startTables cold).readField = a) :
    (∀ k, (s.start cold m).key k = (a.key k).map fun r => { r with
        location := if a.visitEnded cold = true ∧ r.location = .drop ∧ ∃ x ∈ a.drop.entries, x.key = some k
          then .staffHand else r.location })
      ∧ (s.start cold m).keys.lists = a.keys.lists ∧ (s.start cold m).contracts = a.contracts
      ∧ (s.start cold m).compartments = a.compartments
      ∧ (s.start cold m).drop.entries = (if a.visitEnded cold = true then [] else a.drop.entries)
      ∧ (s.start cold m).overdue = { a.overdue with counts := (s.start cold m).overdue.counts }
      ∧ (s.start cold m).notices.log = (a.noted (startLog a cold m (a.visitEnded cold) a.drop.entries.length)).notices.log
      ∧ (s.start cold m).notices.callLatch = false ∧ (s.start cold m).AttentionOk := by
  obtain ⟨fl, d, hd⟩ := a.readStaffDoor_eq cold
  obtain ⟨h1, h2, h3, h4, h5⟩ := s.start_reports cold m (b := a.readStaffDoor cold) (by rw [ha])
  have hs := State.start_same cold m s
  rw [ha] at hs
  have hvis : (s.startTables cold).visitEnded cold = a.visitEnded cold := by rw [← ha]; rfl
  have hent : (s.startTables cold).drop.entries = a.drop.entries := by rw [← ha]; rfl
  rw [hvis, hent] at h3
  generalize s.start cold m = t at h1 h2 h3 h4 h5 hs ⊢
  have hkeys : (a.readStaffDoor cold).keys = if a.visitEnded cold = true
      then ((a.drop.entries.filterMap DropEntry.key).foldl State.takeFromDrop a).keys else a.keys := by rw [hd]
  refine ⟨fun k => ?_, ?_, ?_, ?_, ?_, ?_, ?_, h4, h5⟩
  · rw [hs.key, State.key, hkeys]
    by_cases hv : a.visitEnded cold = true
    · rw [if_pos hv]
      refine (State.takeAllFromDrop_key a _ k).trans (congrArg (Option.map · (a.key k)) (funext fun r => ?_))
      simp only [hv, true_and, List.mem_filterMap]
    · rw [if_neg hv]
      simp [hv]
      rfl
  · rw [hs.keys, hkeys]
    split
    · exact State.takeAllFromDrop_lists _ _
    · rfl
  · rw [hs.contracts, hd]
  · rw [hs.compartments, hd]
  · rw [h1, hd]
  · rw [hd] at h2; exact h2
  · rw [hd] at h3; exact h3

/-- The notices of a start taken at the records of `u` (R55, R112, R186). -/
theorem startLog_eq (u : State) (l : Link) (cold m : Bool) {a : State}
    (ha : (State.startTables cold { u with link := l, powered := true }).readField = a) :
    startLog a cold m (a.visitEnded cold) a.drop.entries.length = u.startBodies cold m := by
  have hp : a.present = none := by rw [← ha]; cases cold <;> rfl
  have hd : a.damagedRecords = u.damagedRecords := by rw [← ha]; cases cold <;> rfl
  have hc : a.unknownCount = 192 := by rw [← ha]; exact State.startTables_unknown _ _
  have hpins : a.doorPins = u.doorPins := by rw [← ha]; cases cold <;> rfl
  have hv : a.visitEnded cold = u.visitOver cold := by rw [← ha]; cases cold <;> rfl
  have hlen : (if u.visitOver cold = true then [({ kind := .dropEmptied, minute := none, detailA := 2
                                                   detailB := a.drop.entries.length } : NoticeBody)] else [])
      = if u.visitOver cold = true then [{ kind := .dropEmptied, minute := none, detailA := 2
                                           detailB := u.drop.entries.length }] else [] := by
    cases cold with
    | true => rfl
    | false => rw [← ha]; rfl
  rw [startLog, startReports, hp, hd, hc, hpins, hv, hlen]
  rfl

theorem Table.countP_eq_zero {α : Type} {n : Nat} {t : Table α n} {p : α → Bool} (h : ∀ i, p (t.get i) = false) :
    t.rows.countP p = 0 := by
  rw [Table.rows_eq, List.countP_map, List.countP_eq_zero]
  intro i _
  simp [h i]

/-- The service state, the contents and the forced flag of a compartment, which the reading of its switch leaves. -/
theorem State.startTables_comp (s : State) (n : CompId) :
    (((s.startTables false).readField.comp n).service = (s.comp n).service
        ∧ ((s.startTables false).readField.comp n).contents = (s.comp n).contents
        ∧ ((s.startTables false).readField.comp n).forced = (s.comp n).forced)
      ∧ ((s.startTables true).readField.comp n).service = .inService
        ∧ ((s.startTables true).readField.comp n).contents = []
        ∧ ((s.startTables true).readField.comp n).forced = false := by
  have pin : ∀ (h : Nat) (c : Compartment) (b : Bool), (c.fromPin h b).service = c.service
      ∧ (c.fromPin h b).contents = c.contents ∧ (c.fromPin h b).forced = c.forced := fun h c b => by
    rw [Compartment.fromPin]
    split <;> exact ⟨rfl, rfl, rfl⟩
  have warm : ∃ h b, (s.startTables false).readField.comp n
      = Compartment.fromPin h { (s.comp n).atRest with known := false } b := by
    refine ⟨(s.startTables false).store.working.profile.value.hold, s.doorPins.get n, ?_⟩
    change ((((s.compartments.table.map Compartment.atRest).map fun c => { c with known := false }).zipWith
      (Compartment.fromPin _) s.doorPins)).get n = _
    rw [Table.get_zipWith, Table.get_map, Table.get_map]
    rfl
  have cold : ∃ h b, (s.startTables true).readField.comp n = Compartment.fromPin h .cold b := by
    refine ⟨(s.startTables true).store.working.profile.value.hold, s.doorPins.get n, ?_⟩
    change (((Table.replicate 192 Compartment.cold).zipWith (Compartment.fromPin _) s.doorPins)).get n = _
    rw [Table.get_zipWith, Table.get_replicate]
  obtain ⟨h, b, hw⟩ := warm
  obtain ⟨h', b', hc⟩ := cold
  rw [hw, hc]
  exact ⟨pin _ _ _, pin _ _ _⟩

/-- Settles O10: step 3 of a cold start empties the tables, and the steps after it leave them so. -/
theorem coldStartEmptiesTheTables : Obligations.ColdStartEmptiesTheTables := by
  intro s u c m hfrom
  obtain ⟨l, hexec⟩ := hfrom.exec
  refine ⟨_, hexec, ?_⟩
  obtain ⟨hkey, hlists, hcon, hcomp, hent, hover, hnot, hlatch, hatt⟩ :=
    State.start_tables { u with link := l, powered := true } true m _ rfl
  rw [startLog_eq u l true m rfl] at hnot
  have hslot := fun sl => (State.startTables_slot { u with link := l, powered := true } sl).2
  have hbare := fun n => (State.startTables_comp { u with link := l, powered := true } n).2
  have hnone := (State.startTables_cold { u with link := l, powered := true }).1
  have hempty := (State.startTables_lists { u with link := l, powered := true } true).2
  generalize hu : ({ u with link := l, powered := true } : State) = u' at *
  generalize u'.start true m = t at *
  have hnokey : ∀ k, t.key k = none := fun k => by rw [hkey, hnone]; rfl
  have hcomp' : ∀ n, t.comp n = (u'.startTables true).readField.comp n := fun n => by rw [State.comp, hcomp]; rfl
  refine ⟨hnokey, fun g => by rw [hlists, hempty], fun sl => (State.slot_of_eq hcon sl).trans (hslot sl),
    by rw [hcon]; rfl, by rw [hent]; rfl, by rw [hover]; rfl, by rw [hover]; rfl, by rw [hover]; rfl,
    fun n => by rw [hcomp']; exact hbare n, ?_⟩
  obtain ⟨-, -, -, hmissing, hforeign, -⟩ := hatt
  have hm : t.notices.missing = 0 := hmissing.trans (Table.countP_eq_zero fun k => by
    rw [show t.keys.places.get k = none from hnokey k]; rfl)
  have hf : t.notices.foreign = 0 := hforeign.trans (Table.countP_eq_zero fun n => by
    rw [show t.compartments.table.get n = _ from hcomp' n, (hbare n).2.1]; rfl)
  have hring : t.notices.log = ({ u with notices :=
      { u.notices with ring := [], nextSeq := 0, overflow := false } }.noted (u.startBodies true m)).notices.log := by
    rw [hnot]
    refine NoticeUnit.log_enterAll ?_ _
    rw [← hu]
    rfl
  refine (NoticeUnit.eq_of_log hring).trans ?_
  rw [hm, hf, hlatch]

/-- Settles O11: step 3 of a warm start rolls the tables back, and the staff door's reading may empty the drop list. -/
theorem warmStartRollsBack : Obligations.WarmStartRollsBack := by
  intro s u c m hfrom
  obtain ⟨l, hexec⟩ := hfrom.exec
  refine ⟨_, hexec, ?_⟩
  obtain ⟨hkey, hlists, hcon, hcomp, hent, hover, hnot, hlatch, -⟩ :=
    State.start_tables { u with link := l, powered := true } false m _ rfl
  rw [startLog_eq u l false m rfl] at hnot
  have hslot := fun sl => (State.startTables_slot { u with link := l, powered := true } sl).1
  have hbare := fun n => (State.startTables_comp { u with link := l, powered := true } n).1
  have hempty := (State.startTables_lists { u with link := l, powered := true } false).2
  have hvis : (State.startTables false { u with link := l, powered := true }).readField.visitEnded false
      = u.visitOver false := rfl
  have hak : ∀ k, (State.startTables false { u with link := l, powered := true }).readField.key k
      = (u.key k).map fun r => { r with promisedTo := none } := fun k => Table.get_map _ _ _
  have hdrop : (State.startTables false { u with link := l, powered := true }).readField.drop = u.drop := rfl
  have hroll : ∀ x : Contract, x.rollBack = if x.state = .picking
      then { x with state := .ticket, key := none, grantedGroup := none }
      else if x.state = .returning then { x with state := .out } else x := fun x => by
    unfold Contract.rollBack
    cases hx : x.state <;> simp
  rw [hvis, hdrop] at hent
  rw [hvis, hdrop] at hkey
  generalize hu : ({ u with link := l, powered := true } : State) = u' at *
  generalize u'.start false m = t at *
  have hcomp' : ∀ n, t.comp n = (u'.startTables false).readField.comp n := fun n => by rw [State.comp, hcomp]; rfl
  refine ⟨fun k => ?_, fun g => by rw [hlists, hempty], fun sl => ?_, ?_, hent, ?_, ?_, ?_, fun n => ?_, ?_⟩
  · rw [hkey, hak, Option.map_map]
    rfl
  · rw [State.slot_of_eq hcon, hslot, ← hu]
    exact congrArg (Option.map · (u.slot sl)) (funext hroll)
  · rw [hcon, ← hu]; rfl
  · rw [hover]; rfl
  · rw [hover, ← hu]; rfl
  · rw [hover, ← hu]; rfl
  · rw [hcomp']
    obtain ⟨h1, h2, h3⟩ := hbare n
    rw [h1, h2, h3, ← hu]
    exact ⟨rfl, rfl, rfl⟩
  · have hring : t.notices.log = (u.noted (u.startBodies false m)).notices.log := by
      rw [hnot]
      refine NoticeUnit.log_enterAll ?_ _
      rw [← hu]
      rfl
    refine (NoticeUnit.eq_of_log hring).trans ?_
    rw [hlatch]

end Sys2Proof.Machine
end

section
/-! SUPPORT. What a cancelled release leaves (R18, R22, R30, R72), and how a contract is closed (R78, R119, R120). -/

namespace Sys2Proof.Machine

/-! ### A freed channel (R22) -/

/-- The arbiter after compartment `n` has given up its channel: the head of the queue, if any, is granted it. -/
theorem State.regrant {s u : State} {n : CompId} (hlat : s.LatchOk) (hd : (s.comp n).door = .unlatched)
    (hq : u.compartments.queue = s.compartments.queue) (hstore : u.store = s.store)
    (h1 : u.compartments.channel1 = if s.compartments.channel1 = some n then none else s.compartments.channel1)
    (h2 : u.compartments.channel2 = if s.compartments.channel2 = some n then none else s.compartments.channel2)
    (hm : ∀ m, m ≠ n → u.comp m = s.comp m) :
    u.arbitrate.compartments.queue = s.compartments.queue.tail
      ∧ u.arbitrate.compartments.channel1 = (if s.compartments.channel1 = some n then s.compartments.queue.head?
        else s.compartments.channel1)
      ∧ u.arbitrate.compartments.channel2 = (if s.compartments.channel2 = some n then s.compartments.queue.head?
        else s.compartments.channel2)
      ∧ u.arbitrate.comp n = u.comp n
      ∧ ∀ m, m ≠ n → u.arbitrate.comp m = if s.compartments.queue.head? = some m then
          { s.comp m with door := .unlatched, window := some (s.store.working.profile.value.window * 1000) }
        else s.comp m := by
  obtain ⟨hun, -, hone, hwait, -, -, -, hfull⟩ := hlat
  have hnq : n ∉ s.compartments.queue := fun h => by
    have := (hwait n).mp h
    rw [hd] at this
    cases this
  cases hqs : s.compartments.queue with
  | nil =>
    rw [State.arbitrate_none (.inl (hq.trans hqs))]
    refine ⟨hq.trans hqs, h1, h2, rfl, fun m e => ?_⟩
    rw [hm m e]
    simp
  | cons j rest =>
    have hjn : j ≠ n := fun e => hnq (by rw [hqs, e]; exact List.mem_cons_self)
    have hc1 : s.compartments.channel1 ≠ none := fun e => by
      have := hfull (.inl e)
      rw [hqs] at this
      cases this
    have hc2 : s.compartments.channel2 ≠ none := fun e => by
      have := hfull (.inr e)
      rw [hqs] at this
      cases this
    have hcomp : ∀ v : State, v.compartments.table = u.compartments.table.modify j (granted u) →
        v.comp n = u.comp n ∧ ∀ m, m ≠ n → v.comp m = if (j :: rest).head? = some m then
          { s.comp m with door := .unlatched, window := some (s.store.working.profile.value.window * 1000) }
          else s.comp m := fun v hv => by
      refine ⟨by rw [State.comp, hv, Table.get_modify_ne _ _ hjn]; rfl, fun m hmn => ?_⟩
      rw [State.comp, hv, List.head?_cons]
      by_cases e : j = m
      · subst e
        rw [Table.get_modify_self, if_pos rfl, granted, hstore, show u.compartments.table.get j = _ from hm j hjn]
        rfl
      · rw [Table.get_modify_ne _ _ e, if_neg fun h => e (Option.some.inj h)]
        exact hm m hmn
    obtain hn | hn := (hun n).mp hd
    · obtain ⟨y, hy⟩ := Option.ne_none_iff_exists'.mp hc2
      have hyn : s.compartments.channel2 ≠ some n := hone n hn
      rw [if_pos hn] at h1
      rw [if_neg hyn] at h2
      rw [State.arbitrate, State.grantOne_first (hq.trans hqs) h1, 
        State.grantOne_none (.inr ⟨by simp, by simp [h2, hy]⟩)]
      rw [if_pos hn, if_neg hyn]
      refine ⟨rfl, rfl, h2, (hcomp _ ?_).1, (hcomp _ ?_).2⟩ <;> rfl
    · obtain ⟨y, hy⟩ := Option.ne_none_iff_exists'.mp hc1
      have hyn : s.compartments.channel1 ≠ some n := fun e => hone n e hn
      rw [if_neg hyn] at h1
      rw [if_pos hn] at h2
      rw [State.arbitrate, State.grantOne_second (hq.trans hqs) (h1.trans hy) h2,
        State.grantOne_none (.inr ⟨by simp [h1, hy], by simp⟩)]
      rw [if_neg hyn, if_pos hn]
      refine ⟨rfl, h1, rfl, (hcomp _ ?_).1, (hcomp _ ?_).2⟩ <;> rfl

/-! ### A cancel that reaches its release (R18, R30) -/

theorem State.cancelRelease_dropped {s t : State} {n named : CompId} (hlat : s.LatchOk)
    (h : s.cancelRelease n named = some t) : ReleaseDropped s t n := by
  obtain ⟨hno, hw, hu⟩ := s.cancelRelease_cases n named
  have hend : ∀ v : State, t = v.endRelease n .cancelled named → t.compartments.queue = v.compartments.queue
      ∧ t.compartments.channel1 = v.compartments.channel1 ∧ t.compartments.channel2 = v.compartments.channel2
      ∧ t.comp n = (v.comp n).withoutRelease ∧ ∀ m, m ≠ n → t.comp m = v.comp m := fun v hv => by
    have hc := (v.endRelease_compartments n .cancelled named).1
    rw [← hv] at hc
    refine ⟨by rw [hc], by rw [hc], by rw [hc], ?_, fun m hm => ?_⟩
    · rw [State.comp, hc]; exact Table.get_modify_self _ _ _
    · rw [State.comp, hc]; exact Table.get_modify_ne _ _ (Ne.symm hm)
  by_cases h1 : (s.comp n).door = .waiting
  · obtain ⟨e1, e2, e3, e4, e5⟩ := hend _ (Option.some.inj (h.symm.trans (hw h1)))
    have hwin : (s.comp n).window = none := by
      obtain ⟨-, hwindow, -⟩ := hlat
      have := mt (hwindow n).mp (by rw [h1]; decide)
      simpa using this
    rw [State.modifyComp_comp_self] at e4
    refine ⟨?_, fun _ => ⟨e1, e2, e3, fun m hm => ?_⟩, fun h2 => absurd (h1.symm.trans h2) (by decide)⟩
    · change t.comp n = Compartment.withoutRelease { s.comp n with door := s.lockedDoor n } at e4
      have hc : s.comp n = { s.comp n with window := none } := by rw [← hwin]
      rw [e4, hc]
      rfl
    · rw [e5 m hm, State.modifyComp_comp_ne _ _ (Ne.symm hm)]; rfl
  · by_cases h2 : (s.comp n).door = .unlatched
    · obtain ⟨e1, e2, e3, e4, e5⟩ := hend _ (Option.some.inj (h.symm.trans (hu h2)))
      obtain ⟨hfree, hother, hqueue, hc1, hc2, -⟩ := s.freeChannel_spec n
      obtain ⟨r1, r2, r3, r4, r5⟩ := State.regrant (u := (s.freeChannel n).modifyComp n fun c =>
        { c with door := s.lockedDoor n }) hlat h2 hqueue rfl hc1 hc2 fun m hm => by
          rw [State.modifyComp_comp_ne _ _ (Ne.symm hm), hother m hm]
      rw [r4, State.modifyComp_comp_self, hfree] at e4
      exact ⟨e4, fun h => absurd h h1, fun _ => ⟨e1.trans r1, e2.trans r2, e3.trans r3, fun m hm =>
        (e5 m hm).trans (r5 m hm)⟩⟩
    · rw [hno h1 h2] at h
      cases h

/-- Its owner is told CANCELLED (R18). -/
theorem State.cancelRelease_told {s t : State} {n named : CompId} {r : Release} (h : s.cancelRelease n named = some t)
    (hr : (s.comp n).release = some r) : ∃ x, t = (s.withCompartments x).tellEnded n r .cancelled named := by
  obtain ⟨hno, hw, hu⟩ := s.cancelRelease_cases n named
  have hend : ∀ v : State, (∃ x, v = s.withCompartments x) → (v.comp n).release = some r →
      ∃ x, v.endRelease n .cancelled named = (s.withCompartments x).tellEnded n r .cancelled named := by
    rintro v ⟨x, rfl⟩ hv
    unfold State.endRelease
    rw [hv]
    exact ⟨_, rfl⟩
  by_cases h1 : (s.comp n).door = .waiting
  · obtain rfl := Option.some.inj (h.symm.trans (hw h1))
    refine hend _ ⟨_, rfl⟩ ?_
    rw [State.modifyComp_comp_self]
    exact hr
  · by_cases h2 : (s.comp n).door = .unlatched
    · obtain rfl := Option.some.inj (h.symm.trans (hu h2))
      obtain ⟨x, hx⟩ := ((s.freeChannel n).modifyComp n fun c => { c with door := s.lockedDoor n }).arbitrate_frame
      refine hend _ ⟨x, hx⟩ ?_
      rw [State.arbitrate_release, State.modifyComp_comp_self, (s.freeChannel_spec n).1]
      exact hr
    · rw [hno h1 h2] at h
      cases h

/-- Telling the owner of a RETURN release whose contract is no longer in RETURNING writes the kiosk alone (R77, R90). -/
theorem State.tellEnded_return {s : State} {n : CompId} {x : Nat} {k : KeyId} {o : Origin} (named : CompId)
    (hx : s.contractState x ≠ some .returning) :
    s.tellEnded n ⟨.ret x k, o⟩ .cancelled named = s.withKiosk (s.kioskAfter n) := by
  unfold State.tellEnded
  dsimp only
  rw [State.returnFailed, if_neg hx]
  rfl

theorem State.slots_modify {s : State} {sl : Slot} {c : Contract} (h : s.slot sl = some c) (f : Contract → Contract) :
    s.contracts.slots.modify sl (Option.map f) = s.contracts.slots.set sl (some (f c)) := by
  rw [Table.modify, show s.contracts.slots.get sl = some c from h]
  rfl

/-- A pickup's contract that falls back, with its notices (R51, R72). -/
theorem State.fallBack_eq {s : State} {sl : Slot} {d : Contract} (hn : s.Numbered) (hsl : s.slot sl = some d)
    (hst : d.state = .picking) (k : KeyId) (n : CompId) (x : FailReason) :
    s.fallBack d.number k n x = { s.noted (handoutFailed s.present n k d x.code) with
      contracts := { s.contracts with slots := s.contracts.slots.set sl (some (fellBack d)) } } := by
  have hof : s.slotOf d.number = some sl := (State.slotOf_iff hn).mpr ⟨d, hsl, rfl⟩
  have hc : s.contract d.number = some d := (State.contract_iff hn).mpr ⟨sl, hsl, rfl⟩
  unfold State.fallBack
  rw [hc]
  dsimp only
  rw [if_pos hst, State.modifyContract_eq hof, State.modifySlot, State.slots_modify hsl]
  by_cases h3 : d.attempts + 1 < 3
  · simp only [handoutFailed, fellBack, if_pos h3]
    rfl
  · simp only [handoutFailed, fellBack, if_neg h3]
    rfl

/-! ### A key outside the compartments (R5, R6) -/

theorem State.modifyKey_eq {s : State} {k : KeyId} {r : KeyRecord} (h : s.key k = some r) (f : KeyRecord → KeyRecord) :
    s.modifyKey k f = s.withKeys { s.keys with places := s.keys.places.set k (some (f r)) } := by
  have hm : s.keys.places.modify k (Option.map f) = s.keys.places.set k (some (f r)) := by
    rw [Table.modify, show s.keys.places.get k = some r from h]
    rfl
  rw [← hm]
  rfl

theorem State.clearPromise_none {s : State} {k : KeyId} {r : KeyRecord} (h : s.key k = some r)
    (hp : r.promisedTo = none) : s.clearPromise k = s := by
  have hr : { r with promisedTo := none } = r := by rw [← hp]
  have hs : s.keys.places.set k (some r) = s.keys.places := by
    refine Table.ext_get fun j => ?_
    rw [Table.get_set]
    split
    · next e => rw [← e]; exact h.symm
    · rfl
  rw [State.clearPromise, State.modifyKey_eq h, hr, hs]
  rfl

theorem KeyTable.leave_of_not_mem {t : KeyTable} {g : Group} {k : KeyId} (h : k ∉ t.lists.get g) : t.leave g k = t := by
  have hl : (t.leave g k).lists = t.lists := Table.ext_get fun i => by
    rw [KeyTable.get_leave]
    split
    · next e =>
      rw [e]
      exact List.filter_eq_self.mpr fun j hj => by simpa using fun e' : j = k => h (e' ▸ hj)
    · rfl
  rw [KeyTable.leave] at hl ⊢
  rw [show t.lists.modify g (·.filter (· != k)) = t.lists from hl]

theorem KeyTable.leave_leave (t : KeyTable) (g : Group) (k : KeyId) : (t.leave g k).leave g k = t.leave g k := by
  refine KeyTable.leave_of_not_mem ?_
  rw [KeyTable.get_leave, if_pos rfl]
  simp

/-- The re-examination of a key outside the compartments takes it out of its list (R6). -/
theorem State.reexamine_outside {s : State} {k : KeyId} {r : KeyRecord} (h : s.key k = some r)
    (hl : ∀ n, r.location ≠ .compartment n) (m : Nat) : s.reexamine m k = s.withKeys (s.keys.leave r.group k) := by
  have hno : s.available k = false := by
    by_contra ha
    obtain ⟨n, hn, -⟩ := State.available_located (by simpa using ha)
    rw [State.loc, h] at hn
    exact hl n (Option.some.inj hn)
  obtain ⟨hin, he⟩ | ⟨-, -, he⟩ | ⟨ha, -⟩ := State.reexamine_cases h m
  · have hout : k ∉ s.keys.lists.get r.group := fun hk => by
      rw [(State.inList_iff h).mpr hk, hno] at hin
      cases hin
    rw [he, KeyTable.leave_of_not_mem hout]
    rfl
  · exact he
  · rw [hno] at ha
    cases ha

theorem State.reexamine_key_ne (s : State) (m : Nat) {k j : KeyId} (h : j ≠ k) : (s.reexamine m j).key k = s.key k := by
  obtain e | e := s.reexamine_keys m j
  · rw [State.key, e]
    rfl
  · rw [State.key, e]
    exact State.modifyKey_key_ne _ _ h

theorem State.reexamineAll_key_outside {s : State} {k : KeyId} {r : KeyRecord} (h : s.key k = some r)
    (hl : ∀ n, r.location ≠ .compartment n) (m : Nat) (ks : List KeyId) : (s.reexamineAll m ks).key k = some r := by
  induction ks generalizing s with
  | nil => exact h
  | cons j ks ih =>
    refine ih (s := s.reexamine m j) ?_
    by_cases e : j = k
    · rw [e, State.reexamine_outside h hl]
      exact h
    · rw [s.reexamine_key_ne m e, h]

/-- Telling an owner leaves the record of a key outside the compartments that holds no promise (R72, R77). -/
theorem State.tellEnded_key_outside {s : State} {k : KeyId} {r : KeyRecord} (h : s.key k = some r)
    (hl : ∀ n, r.location ≠ .compartment n) (hp : r.promisedTo = none) (n : CompId) (p : Release) (o : ReleaseOutcome)
    (named : CompId) : (s.tellEnded n p o named).key k = some r := by
  unfold State.tellEnded
  split
  · next x j _ =>
    change (s.pickupFailed x j named o.reason).key k = some r
    unfold State.pickupFailed
    split
    · have hf : (s.fallBack x j named o.reason).key k = some r := by rw [State.fallBack_frame]; exact h
      by_cases e : j = k
      · rw [e] at hf ⊢
        rw [State.clearPromise_none hf hp, State.reexamine_outside hf hl]
        exact hf
      · rw [State.reexamine_key_ne _ _ e, State.clearPromise, State.modifyKey_key_ne _ _ e, hf]
    · exact h
  · change (State.returnFailed _ _ _ _ _).key k = some r
    rw [State.returnFailed_frame]
    exact h
  · exact h
  · exact h

/-- Telling the contract controller that a pickup's release was cancelled by the chute read of its key, which holds the
promise no more (R72, R90, R105). -/
theorem State.tellEnded_pickup {s : State} {n : CompId} {sl : Slot} {d : Contract} {k : KeyId} {r : KeyRecord}
    {o : Origin} (hn : s.Numbered) (hsl : s.slot sl = some d) (hst : d.state = .picking) (hk : s.key k = some r)
    (hl : ∀ n, r.location ≠ .compartment n) (hp : r.promisedTo = none) (named : CompId) :
    s.tellEnded n ⟨.pickup d.number k, o⟩ .cancelled named = { s.noted (handoutFailed s.present named k d 2) with
      contracts := { s.contracts with slots := s.contracts.slots.set sl (some (fellBack d)) }
      keys := s.keys.leave r.group k, kiosk := s.kioskAfter n } := by
  have hstate : s.contractState d.number = some .picking := by
    rw [State.contractState, (State.contract_iff hn).mpr ⟨sl, hsl, rfl⟩, Option.map_some, hst]
  have hf : (s.fallBack d.number k named ReleaseOutcome.cancelled.reason).key k = some r := by
    rw [State.fallBack_frame]
    exact hk
  unfold State.tellEnded
  dsimp only
  rw [State.pickupFailed, if_pos hstate, State.clearPromise_none hf hp, State.reexamine_outside hf hl,
    State.fallBack_eq hn hsl hst]
  rfl

/-! ### Closing a contract (R78, R119, R120) -/

theorem latenessMinute_eq_some {p : GroupPolicy} {c : Contract} {e : Nat} : latenessMinute p c = some e
    ↔ c.due + c.grace.getD p.grace ≤ 4294967295 ∧ c.due + c.grace.getD p.grace = e := by
  unfold latenessMinute lastMinute
  dsimp only
  split
  · next h => simp [show ¬ c.due + c.grace.getD p.grace ≤ 4294967295 by omega]
  · next h => simp [show c.due + c.grace.getD p.grace ≤ 4294967295 by omega]

theorem latenessMinute_eq_none {p : GroupPolicy} {c : Contract} : latenessMinute p c = none
    ↔ ¬ c.due + c.grace.getD p.grace ≤ 4294967295 := by
  unfold latenessMinute lastMinute
  dsimp only
  split <;> simp <;> omega

theorem lateHours_eq (p : GroupPolicy) (c : Contract) (m : Nat) : lateHours p c m = hoursLate p c m := by
  unfold lateHours hoursLate
  cases h : latenessMinute p c with
  | none =>
    have := latenessMinute_eq_none.mp h
    exact (if_neg fun hl => this hl.1).symm
  | some e =>
    obtain ⟨h1, rfl⟩ := latenessMinute_eq_some.mp h
    dsimp only
    split
    · next hlt => rw [if_neg (by omega)]
    · next hge => rw [if_pos (by omega)]

theorem TierAt.eq {p : GroupPolicy} {c : Contract} {m : Nat} {x : Tier} (h : TierAt p c m x) :
    x = computedTier p c m := by
  unfold TierAt at h
  unfold computedTier soonMinute
  dsimp only at h
  obtain ⟨rfl, h1⟩ | ⟨rfl, h1, h2⟩ | h := h
  · rw [if_pos h1]
  · rw [if_neg (by omega)]
    cases he : latenessMinute p c with
    | none => rfl
    | some e =>
      obtain ⟨h3, rfl⟩ := latenessMinute_eq_some.mp he
      dsimp only
      rw [if_pos (by omega)]
  · have hlate : c.due - p.lead ≤ m ∧ c.due + c.grace.getD p.grace ≤ 4294967295
        ∧ c.due + c.grace.getD p.grace ≤ m := by
      obtain ⟨-, h1, ⟨h2, h3⟩, -⟩ | ⟨-, h1, ⟨h2, h3⟩, -⟩ | ⟨-, h1, ⟨h2, h3⟩, -⟩ := h <;> exact ⟨h1, h2, h3⟩
    obtain ⟨h1, h2, h3⟩ := hlate
    rw [if_neg (by omega), latenessMinute_eq_some.mpr ⟨h2, rfl⟩]
    dsimp only
    rw [if_neg (by omega)]
    obtain ⟨rfl, -, -, h4⟩ | ⟨rfl, -, -, h4, h5⟩ | ⟨rfl, -, -, h4, h5⟩ := h
    · rw [if_pos h4]
    · rw [if_neg (by omega), if_pos h5]
    · rw [if_neg (by omega), if_neg (by omega)]

/-- The stored tier of a closure by the model is the manual's (R78). -/
theorem FinalTier.eq {p : GroupPolicy} {c : Contract} {m : Nat} {final : Tier} (h : FinalTier p c (some m) final) :
    c.tier.max (computedTier p c m) = final := by
  obtain ⟨x, hx, rfl⟩ := h
  rw [← hx.eq]
  rfl

/-- A closure writes its contract and enters RETURN_DONE (R78). -/
theorem State.closeContract_eq {s : State} {sl : Slot} {c : Contract} {m : Option Nat} {final : Tier} (hn : s.Numbered)
    (hsl : s.slot sl = some c) (ho : c.isOpen = true) (hf : FinalTier (s.policyOf c) c m final) (route : Route)
    (n : Option CompId) : s.closeContract c.number route m n
      = { s.noted [returnDone (s.policyOf c) c route m final n] with contracts := { s.contracts with
          slots := s.contracts.slots.set sl (some (closedAs (s.policyOf c) c route m final)) } } := by
  have hof : s.slotOf c.number = some sl := (State.slotOf_iff hn).mpr ⟨c, hsl, rfl⟩
  have hc : s.contract c.number = some c := (State.contract_iff hn).mpr ⟨sl, hsl, rfl⟩
  unfold State.closeContract
  rw [hc]
  dsimp only
  rw [if_pos ho, State.modifyContract_eq hof, State.modifySlot, State.slots_modify hsl]
  cases m with
  | none =>
    obtain rfl : final = c.tier := hf
    rfl
  | some m =>
    simp only [hf.eq, Option.map_some, Option.getD_some, lateHours_eq, returnDone, closedAs]
    rfl

end Sys2Proof.Machine
end

section
/-! SUPPORT. A chute read's entry, its notices and the end of its event (R102, R103, R106, R107), for O44. -/

namespace Sys2Proof.Machine

/-! ### The end of an event that may have queued a scan (R43, R160) -/

/-- What the end of an event leaves as the event has it. -/
theorem Settled.records {e t : State} (h : Settled e t) : t.keys = e.keys ∧ t.compartments = e.compartments
    ∧ t.contracts = e.contracts ∧ t.kiosk = e.kiosk ∧ t.scanner = e.scanner ∧ t.drop = e.drop := by
  obtain ⟨h, -⟩ := h
  generalize t.notices.pending = a1 at h
  generalize t.notices.missing = a2 at h
  generalize t.notices.foreign = a3 at h
  generalize t.notices.beacon = a4 at h
  generalize t.notices.pager = a5 at h
  generalize t.overdue.counts = a6 at h
  generalize t.link.tx = a7 at h
  generalize t.link.lastReported = a8 at h
  generalize t.link.mark = a9 at h
  generalize t.free = a10 at h
  subst h
  exact ⟨rfl, rfl, rfl, rfl, rfl, rfl⟩

theorem State.finish_settled {v : State} (h : v.SweepGoesOn) :
    Settled { v with scanner := { v.scanner with list := v.finish.scanner.list } } v.finish
      ∧ ListKept v v.finish := by
  have hs : Settled v.scanStep v.finish := v.scanStep.settle_settled
  obtain ⟨-, -, -, -, hsc, -⟩ := hs.records
  rw [State.scanStep, h.sweepCheck] at hs hsc
  obtain ⟨hkept, hframe⟩ := v.startRead_kept
  rw [hsc]
  refine ⟨?_, ?_⟩
  · rw [hframe] at hs
    exact hs
  · unfold ListKept at hkept ⊢
    rw [hsc]
    exact hkept

/-- An event that moved no door and no scan list entry begins no read (R42). -/
theorem State.finish_still {s v : State} (h : s.ScanOk) (hsc : v.scanner = s.scanner)
    (hd : ∀ n, (v.comp n).door = (s.comp n).door) : Settled v v.finish := by
  have hgo : v.SweepGoesOn := by
    unfold State.SweepGoesOn
    rw [hsc]
    exact h.sweepGoesOn
  have hs : Settled v.scanStep v.finish := v.scanStep.settle_settled
  rwa [State.scanStep, hgo.sweepCheck, h.startRead hsc hd] at hs

/-! ### The read itself (R103, R106, R107) -/

theorem execChuteRead_next {s : State} (h : s.powered = true) (tag : Option Nat) :
    exec (.chuteRead tag) s = .next (if s.repeatedRead tag = true then s else (s.chute tag).finish) := by
  change s.taken _ = _
  rw [State.taken, h, if_pos rfl]

theorem State.repeatedRead_iff {s : State} {tag : Option Nat} : s.repeatedRead tag = true
    ↔ s.drop.flap = .opened ∧ ∃ x, tag = some x ∧ ∃ e ∈ s.drop.entries, e.tag = some x := by
  unfold State.repeatedRead
  simp only [Bool.and_eq_true, beq_iff_eq, Option.any_eq_true, List.any_eq_true]

/-- The DROP_FULL notice of the entry that brings the count to 48 (R107). -/
def State.fullNotice (s : State) : List NoticeBody :=
  if s.drop.entries.length = 47 then [{ kind := .dropFull, minute := s.present, detailB := 48 }] else []

/-- The drop box after an entry has joined its tail: the forty-eighth locks the flap (R102, R103). -/
def State.dropWith (s : State) (e : DropEntry) : DropBox :=
  { s.drop with
    entries := s.drop.entries ++ [e], flap := if s.drop.entries.length = 47 then .locked else .opened }

theorem State.appendDrop_eq {s : State} (h : s.DropOk) (hf : s.drop.flap = .opened) (e : DropEntry) :
    s.appendDrop e = s.withDrop (s.dropWith e) := by
  obtain ⟨-, -, hflap⟩ := h
  obtain ⟨hm, hlen, hdoor⟩ := hflap.mp hf
  unfold State.appendDrop State.recomputeFlap State.dropWith
  simp only [State.withDrop_drop, State.withDrop_mode, List.length_append, List.length_singleton]
  have hfl : flapFor s.mode (s.drop.entries.length + 1) s.drop.staffDoor
      = if s.drop.entries.length = 47 then .locked else .opened := by
    unfold flapFor
    by_cases h47 : s.drop.entries.length = 47
    · rw [if_pos h47, if_neg (by omega)]
    · rw [if_neg h47, if_pos ⟨hm, by omega, hdoor⟩]
  rw [hfl]
  rfl

theorem State.enterFull_eq {s v : State} {e : DropEntry} (h : v.drop = s.dropWith e) :
    v.enterFull s.present = v.noted s.fullNotice := by
  have hlen : v.drop.entries.length = 48 ↔ s.drop.entries.length = 47 := by
    rw [h]
    simp [State.dropWith]
  unfold State.enterFull State.fullNotice
  simp only [hlen]
  split <;> rfl

theorem State.chute_locked {s : State} (h : s.drop.flap = .locked) (tag : Option Nat) :
    s.chute tag = s.noted [{ kind := .dropForeign, minute := s.present, tag := tag, detailA := 2
                             detailB := s.drop.entries.length }] := by
  unfold State.chute
  dsimp only
  rw [if_pos h]
  rfl

/-- A foreign item's entry, with its notice (R106). -/
theorem State.foreignEntry_eq {s : State} (h : s.DropOk) (hf : s.drop.flap = .opened) (tag : Option Nat)
    (reason : Nat) : ((s.appendDrop { tag := tag, key := none, minute := s.present, contract := none }).enterForeign
        s.present tag reason).enterFull s.present
      = { s.noted ({ kind := .dropForeign, minute := s.present, tag := tag, detailA := reason
                     detailB := s.drop.entries.length + 1 } :: s.fullNotice) with
          drop := s.dropWith { tag := tag, key := none, minute := s.present, contract := none } } := by
  rw [State.appendDrop_eq h hf, State.enterFull_eq (s := s) rfl, State.enterForeign]
  have hlen : (s.withDrop (s.dropWith ⟨tag, none, s.present, none⟩)).drop.entries.length
      = s.drop.entries.length + 1 := by simp [State.dropWith]
  rw [hlen]
  rfl

theorem State.chute_unread {s : State} (h : s.DropOk) (hf : s.drop.flap = .opened) : s.chute none
    = { s.noted ({ kind := .dropForeign, minute := s.present, tag := none, detailA := 1
                   detailB := s.drop.entries.length + 1 } :: s.fullNotice) with
        drop := s.dropWith { tag := none, key := none, minute := s.present, contract := none } } := by
  rw [← State.foreignEntry_eq h hf]
  unfold State.chute
  rw [hf]
  rfl

theorem State.chute_unknown {s : State} (h : s.DropOk) (hf : s.drop.flap = .opened) {x : Nat}
    (hheld : ∀ e ∈ s.drop.entries, e.tag ≠ some x) (hk : s.keyOfTag x = none) : s.chute (some x)
    = { s.noted ({ kind := .dropForeign, minute := s.present, tag := some x, detailA := 0
                   detailB := s.drop.entries.length + 1 } :: s.fullNotice) with
        drop := s.dropWith { tag := some x, key := none, minute := s.present, contract := none } } := by
  rw [← State.foreignEntry_eq h hf]
  unfold State.chute
  dsimp only
  rw [if_neg (by rw [hf]; decide), if_neg (by simpa using hheld), hk]

/-- A key's read at an open flap (R104, R105). -/
theorem State.chute_key {s : State} (hf : s.drop.flap = .opened) {x : Nat}
    (hheld : ∀ e ∈ s.drop.entries, e.tag ≠ some x) {k : KeyId} (hk : s.keyOfTag x = some k) :
    s.chute (some x) = (s.dropKey x k s.present).enterFull s.present := by
  unfold State.chute
  dsimp only
  rw [if_neg (by rw [hf]; decide), if_neg (by simpa using hheld), hk]

/-! ### A key that goes to DROP (R2, R104, R105) -/

/-- The record of a key in the drop box (R104, R105). -/
def KeyRecord.dropped (r : KeyRecord) : KeyRecord := { r with location := .drop, mark := .unchecked }

/-- A write of the key's location and one of its mark, in one. -/
theorem State.modifyKey_dropped {s : State} {k : KeyId} {r : KeyRecord} (h : s.key k = some r) :
    ((s.modifyKey k fun r => { r with location := .drop }).modifyKey k fun r => { r with mark := .unchecked })
      = s.withKeys { s.keys with places := s.keys.places.set k (some r.dropped) } := by
  have hp : (s.keys.places.modify k (Option.map fun r => { r with location := .drop })).modify k
      (Option.map fun r => { r with mark := .unchecked }) = s.keys.places.set k (some r.dropped) := by
    have hg : s.keys.places.get k = some r := h
    refine Table.ext_get fun j => ?_
    by_cases e : k = j
    · subst e
      rw [Table.get_modify_self, Table.get_modify_self, Table.get_set_self, hg]
      rfl
    · rw [Table.get_modify_ne _ _ e, Table.get_modify_ne _ _ e, Table.get_set_ne _ _ e]
  rw [← hp]
  rfl

theorem State.keyDropped_outside {s : State} {k : KeyId} {r : KeyRecord} (h : s.key k = some r)
    (hl : ∀ n, r.location ≠ .compartment n) :
    s.keyDropped k = s.withKeys { s.keys with places := s.keys.places.set k (some r.dropped) } := by
  refine Eq.trans ?_ (State.modifyKey_dropped h)
  have hmove : s.moveKey k .drop = s.modifyKey k fun r => { r with location := .drop } := by
    rw [State.moveKey, h]
    dsimp only
    cases e : r.location with
    | compartment n => exact absurd e (hl n)
    | out | drop | staffHand | missing => rfl
  rw [State.keyDropped, hmove]

theorem State.keyDropped_inside {s : State} {k : KeyId} {r : KeyRecord} (h : s.key k = some r) {n : CompId}
    (hl : r.location = .compartment n) : s.keyDropped k
      = (s.modifyComp n fun c => { c with contents := c.contents.filter (· != Item.key k) }).withKeys
        { s.keys with places := s.keys.places.set k (some r.dropped) } := by
  have hk : (s.modifyComp n fun c => { c with contents := c.contents.filter (· != Item.key k) }).key k = some r := h
  have hm := State.modifyKey_dropped hk
  rw [State.keyDropped, State.moveKey, h]
  dsimp only
  rw [hl]
  exact hm

theorem State.dropKey_cases {s : State} {k : KeyId} {r : KeyRecord} (h : s.key k = some r) (x : Nat) (m : Option Nat) :
    (∀ c, r.location = .out c → s.dropKey x k m
        = (s.appendDrop { tag := some x, key := some k, minute := m, contract := some c }).dropReturn k c m)
      ∧ (r.location = .staffHand ∨ r.location = .missing → s.dropKey x k m
        = (s.appendDrop { tag := some x, key := some k, minute := m, contract := none }).keyDropped k)
      ∧ ∀ n, r.location = .compartment n → s.dropKey x k m
        = (s.appendDrop { tag := some x, key := some k, minute := m, contract := none }).dropOther k
          (.compartment n) := by
  unfold State.dropKey
  rw [h, Option.map_some]
  refine ⟨fun c e => by rw [e], fun e => ?_, fun n e => by rw [e]⟩
  obtain e | e := e <;> rw [e] <;> rfl

/-! ### A return given up (R79, R80) -/

theorem State.returnComp_some {s : State} {x : Nat} {n : CompId} (h : s.returnComp x = some n) :
    (s.comp n).reservation = some x ∧ ∃ k o, (s.comp n).release = some ⟨.ret x k, o⟩ := by
  have hf := Table.get_of_find h
  rw [show s.compartments.table.get n = s.comp n from rfl, Bool.and_eq_true, beq_iff_eq] at hf
  obtain ⟨hres, hf⟩ := hf
  refine ⟨hres, ?_⟩
  cases hr : (s.comp n).release with
  | none => rw [hr] at hf; simp at hf
  | some r =>
    obtain ⟨p, o⟩ := r
    rw [hr] at hf
    cases p with
    | ret y k =>
      obtain rfl : y = x := by simpa using hf
      exact ⟨k, o, rfl⟩
    | pickup | staff | link => simp at hf

/-- The cancel of the return of a contract that is no longer in RETURNING: it reaches its release, or clears the
reservation, or there is none; the compartments and the kiosk alone change (R79, R80). -/
theorem State.cancelReturn_cases {s : State} {x : Nat} (hlat : s.LatchOk)
    (hx : s.contractState x ≠ some .returning) :
    (s.returnComp x = none ∧ s.cancelReturn x = s)
      ∨ ∃ n y, s.returnComp x = some n ∧
        (((s.comp n).door = .waiting ∨ (s.comp n).door = .unlatched) ∧ ReleaseDropped s (s.cancelReturn x) n
            ∧ s.cancelReturn x = (s.withCompartments y).withKiosk (s.kioskAfter n)
          ∨ (s.comp n).door ≠ .waiting ∧ (s.comp n).door ≠ .unlatched
            ∧ s.cancelReturn x = s.modifyComp n fun c => { c with reservation := none }) := by
  cases hn : s.returnComp x with
  | none => exact .inl ⟨rfl, by rw [State.cancelReturn, hn]⟩
  | some n =>
    obtain ⟨-, k, o, hr⟩ := State.returnComp_some hn
    obtain ⟨hno, hw, hu⟩ := s.cancelRelease_cases n n
    right
    cases hc : s.cancelRelease n n with
    | none =>
      refine ⟨n, s.compartments, rfl, .inr ⟨fun h => ?_, fun h => ?_, ?_⟩⟩
      · rw [hw h] at hc; cases hc
      · rw [hu h] at hc; cases hc
      · simp only [State.cancelReturn, hn, hc]
    | some t =>
      have ht : s.cancelReturn x = t := by simp only [State.cancelReturn, hn, hc]
      obtain ⟨y, hy⟩ := State.cancelRelease_told hc hr
      rw [State.tellEnded_return (s := s.withCompartments y) n hx] at hy
      refine ⟨n, y, rfl, .inl ⟨?_, ht ▸ State.cancelRelease_dropped hlat hc, ht.trans hy⟩⟩
      by_contra hd
      obtain ⟨h1, h2⟩ := not_or.mp hd
      rw [hno h1 h2] at hc
      cases hc

theorem State.returnComp_of {s : State} {x : Nat} {n : CompId} {k : KeyId} (h : (s.comp n).reservation = some x)
    (hr : (s.comp n).release.map Release.purpose = some (.ret x k))
    (hone : ∀ m, m ≠ n → (s.comp m).reservation ≠ some x) : s.returnComp x = some n := by
  cases hf : s.returnComp x with
  | none =>
    have := Table.find_eq_none.mp hf n
    rw [show s.compartments.table.get n = s.comp n from rfl, h, hr] at this
    simp at this
  | some m =>
    by_contra hne
    exact hone m (fun e => hne (by rw [e])) (State.returnComp_some hf).1

/-- The same records but for key `k`'s and what is not asked: what `ReturnGivenUp` and `ReleaseDropped` read. -/
structure SameCabinet (s t : State) : Prop where
  compartments : t.compartments = s.compartments
  scanner : t.scanner = s.scanner
  store : t.store = s.store
  kiosk : t.kiosk = s.kiosk
  mode : t.mode = s.mode

theorem SameCabinet.dropped {s u v t : State} {n : CompId} (h : SameCabinet s u) (g : ReleaseDropped u v n)
    (ht : t.compartments = v.compartments) : ReleaseDropped s t n := by
  unfold ReleaseDropped Regranted State.comp at g ⊢
  rw [h.compartments, h.scanner, h.store] at g
  rw [ht]
  exact g

theorem State.LatchOk.of_eq {s u : State} (hs : s.LatchOk) (h : u.compartments = s.compartments) : u.LatchOk := by
  unfold State.LatchOk State.priorityAt State.comp at hs ⊢
  rw [h]
  exact hs

theorem SameCabinet.latchOk {s u : State} (h : SameCabinet s u) (hs : s.LatchOk) : u.LatchOk := hs.of_eq h.compartments

theorem State.cancelReturn_givenUp {s u v : State} {x : Nat} {k : KeyId} (h : SameCabinet s u) (hlat : s.LatchOk)
    (hx : u.contractState x ≠ some .returning) (hkept : ListKept s v)
    (hc : v.compartments = (u.cancelReturn x).compartments) (hk : v.kiosk = (u.cancelReturn x).kiosk) :
    ReturnGivenUp s v x k := by
  have hcomp : ∀ n, u.comp n = s.comp n := fun n => by rw [State.comp, h.compartments]; rfl
  have hcases := State.cancelReturn_cases (h.latchOk hlat) hx
  refine ⟨hkept, fun hno => ?_, fun n hres hrel hone => ?_⟩
  · obtain ⟨-, he⟩ | ⟨n, y, hn, -⟩ := hcases
    · rw [hc, hk, he]
      exact ⟨h.compartments, h.kiosk⟩
    · have hres := (State.returnComp_some hn).1
      rw [hcomp] at hres
      exact absurd hres (hno n)
  · have hof : u.returnComp x = some n := State.returnComp_of (k := k) (by rw [hcomp]; exact hres)
      (by rw [hcomp]; exact hrel) fun m hm => by rw [hcomp]; exact hone m hm
    obtain ⟨hno, -⟩ | ⟨m, y, hm, hcase⟩ := hcases
    · rw [hof] at hno; cases hno
    · obtain rfl := Option.some.inj (hof.symm.trans hm)
      rw [hcomp] at hcase
      refine ⟨fun hd => ?_, fun h1 h2 => ?_⟩
      · obtain ⟨-, hdrop, he⟩ | ⟨h1, h2, -⟩ := hcase
        · refine ⟨h.dropped hdrop hc, ?_⟩
          rw [hk, he]
          change u.kioskAfter n = _
          unfold State.kioskAfter State.idlePrompt
          rw [h.kiosk, h.mode]
        · exact (hd.elim h1 h2).elim
      · obtain ⟨hd, -⟩ | ⟨-, -, he⟩ := hcase
        · exact (hd.elim h1 h2).elim
        · rw [hc, hk, he]
          refine ⟨?_, h.kiosk⟩
          rw [← h.compartments, ← hcomp]
          rfl

theorem State.cancelReturn_frame {s : State} {x : Nat} (hlat : s.LatchOk) (hx : s.contractState x ≠ some .returning) :
    ∃ y z, s.cancelReturn x = (s.withCompartments y).withKiosk z := by
  obtain ⟨-, he⟩ | ⟨n, y, -, ⟨-, -, he⟩ | ⟨-, -, he⟩⟩ := State.cancelReturn_cases hlat hx
  · exact ⟨s.compartments, s.kiosk, he⟩
  · exact ⟨y, _, he⟩
  · exact ⟨(s.modifyComp n fun c => { c with reservation := none }).compartments, s.kiosk, he⟩

/-! ### A drop return (R104) -/

theorem KeyRecord.dropped_location (r : KeyRecord) : ∀ n, r.dropped.location ≠ .compartment n := fun n e => by cases e

/-- The state of a drop return: its closure, its entry, the return given up and the key in DROP (R79, R80, R104). -/
theorem State.dropReturn_eq {s : State} {k : KeyId} {r : KeyRecord} {sl : Slot} {c : Contract} {final : Tier}
    {e : DropEntry} (hlat : s.LatchOk) (hb : s.Booked fun _ => True) (hk : s.key k = some r) (hsl : s.slot sl = some c)
    (hout : r.location = .out c.number) (hf : FinalTier (s.policy r.group) c s.present final) :
    let p := s.policy r.group
    let u : State := { (s.withDrop (s.dropWith e)).noted [returnDone p c .drop s.present final none] with
      contracts := { s.contracts with
        slots := s.contracts.slots.set sl (some (closedAs p c .drop s.present final)) } }
    u.contractState c.number ≠ some .returning
      ∧ ∃ x, (s.withDrop (s.dropWith e)).dropReturn k c.number s.present = (u.cancelReturn c.number).withKeys x
        ∧ ∀ t : State, t.keys = x → Reexamined { s with contracts := u.contracts } t k r.dropped := by
  intro p u
  have hn : (s.withDrop (s.dropWith e)).Numbered := hb.index.numbered
  obtain ⟨i, d, hd, hdn, hdo, hdk⟩ := hb.rented.out k c.number (by rw [State.loc, hk, Option.map_some, hout])
  obtain rfl : i = sl := hb.index.1 i sl d c hd hsl hdn
  obtain rfl : d = c := Option.some.inj (hd.symm.trans hsl)
  have hpol : (s.withDrop (s.dropWith e)).policyOf d = p := by
    rw [State.policyOf, hdk]
    change (match s.key k with | some k => s.policy k.group | none => _) = _
    rw [hk]
  have hclose : (s.withDrop (s.dropWith e)).closeContract d.number .drop s.present none = u := by
    rw [State.closeContract_eq (final := final) hn hsl hdo (by rw [hpol]; exact hf), hpol]
    rfl
  have hx : u.contractState d.number ≠ some .returning := by
    rw [← hclose]
    exact State.closeContract_notReturning _ _ _ _ _
  refine ⟨hx, ?_⟩
  have hulat : u.LatchOk := SameCabinet.latchOk (s := s) ⟨rfl, rfl, rfl, rfl, rfl⟩ hlat
  obtain ⟨y, z, he⟩ := State.cancelReturn_frame hulat hx
  have hk2 : (u.cancelReturn d.number).key k = some r := by rw [he]; exact hk
  have hdrop := State.keyDropped_outside hk2 fun n => by rw [hout]; simp
  refine ⟨(((u.cancelReturn d.number).keyDropped k).reexamine s.joinMinute k).keys, ?_, fun t ht => ?_⟩
  · rw [State.dropReturn, hclose, State.reexamine_frame]
    rw [hdrop]
    rfl
  · have hk3 : ((u.cancelReturn d.number).keyDropped k).key k = some r.dropped := by
      rw [hdrop]; exact Table.get_set_self _ _ _
    have hm : s.joinMinute = ((u.cancelReturn d.number).keyDropped k).joinMinute := by rw [hdrop, he]; rfl
    rw [hm] at ht
    refine (State.reexamine_reexamined hk3).congr (MayBeListed.congr (fun n e => absurd e (r.dropped_location n)) ?_)
      ?_ ?_ (fun j hj => ?_) ht <;> rw [hdrop, he]
    · rfl
    · rfl
    · rfl
    · exact Table.get_set_ne _ _ (Ne.symm hj)

theorem State.SweepGoesOn.of_scanner {s v : State} (h : s.SweepGoesOn) (hv : v.scanner = s.scanner) :
    v.SweepGoesOn := by
  unfold State.SweepGoesOn at h ⊢
  rwa [hv]

/-- A chute read of a key that is OUT (R104). -/
theorem State.dropReturn_finish {s : State} {x : Nat} {k : KeyId} {r : KeyRecord} {sl : Slot} {c : Contract}
    {final : Tier} (hdrop : s.DropOk) (hf : s.drop.flap = .opened) (hlat : s.LatchOk) (hscan : s.ScanOk)
    (hb : s.Booked fun _ => True) (hk : s.key k = some r) (hsl : s.slot sl = some c)
    (hout : r.location = .out c.number) (hfinal : FinalTier (s.policy r.group) c s.present final) {t : State}
    (ht : ((s.dropKey x k s.present).enterFull s.present).finish = t) :
    Settled { s.noted (returnDone (s.policy r.group) c .drop s.present final none :: s.fullNotice) with
        drop := s.dropWith ⟨some x, some k, s.present, some c.number⟩
        contracts := { s.contracts with
          slots := s.contracts.slots.set sl (some (closedAs (s.policy r.group) c .drop s.present final)) }
        keys := t.keys, compartments := t.compartments, kiosk := t.kiosk
        scanner := { s.scanner with list := t.scanner.list } } t
      ∧ Reexamined { s with contracts := t.contracts } t k r.dropped
      ∧ ReturnGivenUp s t c.number k := by
  obtain ⟨hx, y, he, hre⟩ := State.dropReturn_eq (e := ⟨some x, some k, s.present, some c.number⟩) hlat hb hk hsl hout
    hfinal
  generalize hu : ({ (s.withDrop (s.dropWith ⟨some x, some k, s.present, some c.number⟩)).noted
      [returnDone (s.policy r.group) c .drop s.present final none] with contracts := { s.contracts with
        slots := s.contracts.slots.set sl (some (closedAs (s.policy r.group) c .drop s.present final)) } } : State) = u
    at hx he hre
  have hcab : SameCabinet s u := by rw [← hu]; exact ⟨rfl, rfl, rfl, rfl, rfl⟩
  obtain ⟨a, b, hfr⟩ := State.cancelReturn_frame (hcab.latchOk hlat) hx
  have hv : (s.dropKey x k s.present).enterFull s.present
      = ((u.cancelReturn c.number).withKeys y).noted s.fullNotice := by
    rw [((State.dropKey_cases hk x s.present).1 _ hout), State.appendDrop_eq hdrop hf, he]
    refine State.enterFull_eq (e := ⟨some x, some k, s.present, some c.number⟩) ?_
    rw [hfr, ← hu]
    rfl
  rw [hv] at ht
  have hgo : (((u.cancelReturn c.number).withKeys y).noted s.fullNotice).SweepGoesOn :=
    hscan.sweepGoesOn.of_scanner (by rw [hfr, ← hu]; rfl)
  obtain ⟨hs, hkept⟩ := State.finish_settled hgo
  rw [ht] at hs hkept
  obtain ⟨h1, h2, h3, h4, -, -⟩ := hs.records
  have hcon : t.contracts = u.contracts := by rw [h3, hfr]; rfl
  refine ⟨?_, ?_, State.cancelReturn_givenUp hcab hlat hx ?_ h2 h4⟩
  · rw [h1, h2, h4]
    rw [hfr, ← hu] at hs ⊢
    exact hs
  · rw [hcon]
    exact hre t h1
  · rw [hfr, ← hu] at hkept
    exact hkept

/-- A chute read of a key in STAFF_HAND or MISSING (R105). -/
theorem State.dropLoose_finish {s : State} {x : Nat} {k : KeyId} {r : KeyRecord} (hdrop : s.DropOk)
    (hf : s.drop.flap = .opened) (hscan : s.ScanOk) (hk : s.key k = some r)
    (hl : r.location = .staffHand ∨ r.location = .missing) :
    Settled { s.noted s.fullNotice with
        drop := s.dropWith ⟨some x, some k, s.present, none⟩
        keys := { s.keys with places := s.keys.places.set k (some r.dropped) } }
      ((s.dropKey x k s.present).enterFull s.present).finish := by
  have hk0 : (s.withDrop (s.dropWith ⟨some x, some k, s.present, none⟩)).key k = some r := hk
  rw [((State.dropKey_cases hk x s.present).2.1 hl), State.appendDrop_eq hdrop hf,
    State.keyDropped_outside hk0 fun n => by obtain e | e := hl <;> rw [e] <;> simp,
    State.enterFull_eq (s := s) (e := ⟨some x, some k, s.present, none⟩) rfl]
  exact State.finish_still hscan rfl fun _ => rfl

end Sys2Proof.Machine
end

section
/-! SUPPORT. O44: the chute read of a key that its compartment's contents list (R3, R72, R73, R105). -/

namespace Sys2Proof.Machine

/-! ### A promise withdrawn (R3, R72, R73) -/

theorem State.pickupComp_some {s : State} {x : Nat} {n : CompId} (h : s.pickupComp x = some n) :
    ∃ k o, (s.comp n).release = some ⟨.pickup x k, o⟩ := by
  have hf := Table.get_of_find h
  rw [show s.compartments.table.get n = s.comp n from rfl] at hf
  cases hr : (s.comp n).release with
  | none => rw [hr] at hf; simp at hf
  | some r =>
    obtain ⟨p, o⟩ := r
    rw [hr] at hf
    cases p with
    | pickup y k =>
      obtain rfl : y = x := by simpa using hf
      exact ⟨k, o, rfl⟩
    | ret | staff | link => simp at hf

theorem State.pickupComp_of {s : State} {x : Nat} {n : CompId} {k : KeyId} {o : Origin}
    (h : (s.comp n).release = some ⟨.pickup x k, o⟩)
    (hone : ∀ m k' o', (s.comp m).release = some ⟨.pickup x k', o'⟩ → m = n) : s.pickupComp x = some n := by
  cases hf : s.pickupComp x with
  | none =>
    have := Table.find_eq_none.mp hf n
    rw [show s.compartments.table.get n = s.comp n from rfl, h] at this
    simp at this
  | some m =>
    obtain ⟨k', o', hm⟩ := State.pickupComp_some hf
    rw [hone m k' o' hm]

theorem State.withdrawPromise_none {s : State} {k : KeyId} {r : KeyRecord} (h : s.key k = some r)
    (hp : r.promisedTo = none) : s.withdrawPromise k none = s := by
  rw [State.withdrawPromise, h]
  simp only [Option.bind_some, hp]

/-- With a promise its mark is cleared, and the cancel of its pickup, when there is one, reaches its release or not. -/
theorem State.withdrawPromise_some {s : State} {k : KeyId} {r : KeyRecord} {x : Nat} (h : s.key k = some r)
    (hp : r.promisedTo = some x) :
    ((∀ n, (s.clearPromise k).pickupComp x = some n → (s.clearPromise k).cancelRelease n n = none)
        ∧ s.withdrawPromise k none = s.clearPromise k)
      ∨ ∃ n, (s.clearPromise k).pickupComp x = some n
        ∧ (s.clearPromise k).cancelRelease n n = some (s.withdrawPromise k none) := by
  have hclear : (s.modifyKey k fun r => { r with promisedTo := none }) = s.clearPromise k := rfl
  cases hn : (s.clearPromise k).pickupComp x with
  | none =>
    refine .inl ⟨fun n e => (by cases e), ?_⟩
    rw [State.withdrawPromise, h]
    simp only [Option.bind_some, hp, hclear, hn]
  | some n =>
    have hw : s.withdrawPromise k none = ((s.clearPromise k).cancelRelease n n).getD (s.clearPromise k) := by
      rw [State.withdrawPromise, h]
      simp only [Option.bind_some, hp, hclear, hn, Option.getD_none]
    cases hc : (s.clearPromise k).cancelRelease n n with
    | none =>
      rw [hc] at hw
      exact .inl ⟨fun m e => by cases e; exact hc, hw⟩
    | some t =>
      rw [hc] at hw
      exact .inr ⟨n, rfl, hc.trans (congrArg some hw.symm)⟩

/-- What it leaves of a key outside the compartments, and of the scanner and the drop box. -/
theorem State.withdrawPromise_outside {s : State} {k : KeyId} {r : KeyRecord} (h : s.key k = some r)
    (hl : ∀ n, r.location ≠ .compartment n) :
    (s.withdrawPromise k none).key k = some { r with promisedTo := none }
      ∧ (s.withdrawPromise k none).scanner = s.scanner ∧ (s.withdrawPromise k none).drop = s.drop := by
  have hclear : (s.clearPromise k).key k = some { r with promisedTo := none } := by
    rw [State.clearPromise, State.modifyKey_key_self, h]
    rfl
  cases hp : r.promisedTo with
  | none =>
    rw [State.withdrawPromise_none h hp]
    exact ⟨by rw [h, ← hp], rfl, rfl⟩
  | some x =>
    obtain ⟨-, e⟩ | ⟨n, hn, hc⟩ := State.withdrawPromise_some h hp
    · rw [e]
      exact ⟨hclear, rfl, rfl⟩
    · obtain ⟨j, o, hr⟩ := State.pickupComp_some hn
      obtain ⟨y, hy⟩ := State.cancelRelease_told hc hr
      refine ⟨?_, ?_, ?_⟩
      · rw [hy]
        exact State.tellEnded_key_outside (s := (s.clearPromise k).withCompartments y) hclear hl rfl _ _ _ _
      · rw [hy, State.tellEnded_frame]
        rfl
      · rw [hy, State.tellEnded_frame]
        rfl

/-! ### The read, up to the promise (R2, R103, R105) -/

/-- Key `k` taken from the contents of compartment `n`. -/
def State.withoutKey (s : State) (n : CompId) (k : KeyId) : State :=
  s.withCompartments { s.compartments with table := s.compartments.table.set n { s.comp n with
    contents := (s.comp n).contents.filter (· != Item.key k) } }

/-- The same with a SWEEP entry at the tail of the scan list, unless the compartment holds one. -/
def State.queuedWithout (s : State) (n : CompId) (k : KeyId) : State :=
  (s.withoutKey n k).withScanner { s.scanner with
    list := s.scanner.list ++ if s.scanner.list.any (·.comp == n) then [] else [⟨n, .sweep, .nothing, false⟩] }

/-- The entry has joined the drop list, the key is in DROP and its compartment's scan is queued. -/
def State.fallen (s : State) (x : Nat) (k : KeyId) (n : CompId) : State :=
  ((s.withDrop (s.dropWith ⟨some x, some k, s.present, none⟩)).keyDropped k).requestSweep n

section
variable {s : State} {k : KeyId} {r : KeyRecord} {n : CompId}

theorem State.withoutKey_comp (s : State) (n : CompId) (k : KeyId) (m : CompId) : (s.withoutKey n k).comp m
    = { s.comp m with contents :=
        if n = m then (s.comp m).contents.filter (· != Item.key k) else (s.comp m).contents } := by
  change (Table.set _ _ _).get m = _
  rw [Table.get_set]
  split
  · next e => rw [← e]
  · rfl

theorem State.fallen_queued (hk : s.key k = some r) (hl : r.location = .compartment n) (x : Nat) :
    SweepQueued (s.withoutKey n k) (s.fallen x k n) (if s.scanner.list.any (·.comp == n) then [] else [n])
      ∧ ∃ l tb, s.fallen x k n = { s with
          drop := s.dropWith ⟨some x, some k, s.present, none⟩
          keys := { s.keys with places := s.keys.places.set k (some r.dropped) }
          scanner := { s.scanner with list := l }, compartments := { s.compartments with table := tb } } := by
  have hk0 : (s.withDrop (s.dropWith ⟨some x, some k, s.present, none⟩)).key k = some r := hk
  unfold State.fallen
  rw [State.keyDropped_inside hk0 hl]
  obtain ⟨hq, l, tb, he⟩ := State.requestSweep_spec (((s.withDrop
    (s.dropWith ⟨some x, some k, s.present, none⟩)).modifyComp
      n fun c => { c with contents := c.contents.filter (· != Item.key k) }).withKeys
      { s.keys with places := s.keys.places.set k (some r.dropped) }) n
  refine ⟨hq, l, tb, ?_⟩
  exact he

theorem State.fallen_key (hk : s.key k = some r) (hl : r.location = .compartment n) (x : Nat) :
    (s.fallen x k n).key k = some r.dropped := by
  obtain ⟨-, l, tb, he⟩ := State.fallen_queued hk hl x
  rw [he]
  exact Table.get_set_self _ _ _

theorem State.fallen_moved (s : State) (x : Nat) (k : KeyId) (n : CompId) : Moved s (s.fallen x k n) k .drop :=
  (Moved.after (s := s) (t := s.withDrop (s.dropWith ⟨some x, some k, s.present, none⟩)) (.of_eq rfl rfl)
    (State.keyDropped_moved _ k)).before (State.requestSweep_still _ n)

/-- A read of a key in a compartment, before the event ends (R105, R107). -/
theorem State.dropInside_eq (hdrop : s.DropOk) (hf : s.drop.flap = .opened) (hk : s.key k = some r)
    (hl : r.location = .compartment n) (x : Nat) : (s.dropKey x k s.present).enterFull s.present
      = (((s.fallen x k n).withdrawPromise k none).reexamineAll s.joinMinute
          (k :: keysOf (((s.fallen x k n).withdrawPromise k none).comp n).contents)).noted s.fullNotice := by
  have hw : (s.dropKey x k s.present) = ((s.fallen x k n).withdrawPromise k none).reexamineAll s.joinMinute
      (k :: keysOf (((s.fallen x k n).withdrawPromise k none).comp n).contents) := by
    rw [(State.dropKey_cases hk x s.present).2.2 n hl, State.appendDrop_eq hdrop hf]
    rfl
  rw [hw]
  refine State.enterFull_eq (e := ⟨some x, some k, s.present, none⟩) ?_
  obtain ⟨y, hy⟩ := State.reexamineAll_frame ((s.fallen x k n).withdrawPromise k none) s.joinMinute
    (k :: keysOf (((s.fallen x k n).withdrawPromise k none).comp n).contents)
  rw [hy]
  obtain ⟨-, l, tb, he⟩ := State.fallen_queued hk hl x
  refine (State.withdrawPromise_outside (State.fallen_key hk hl x) r.dropped_location).2.2.trans ?_
  rw [he]

/-! ### The end of the event -/

theorem ListKept.holds {s t : State} (h : ListKept s t) (n : CompId) : t.scanner.holds n = s.scanner.holds n := by
  have unread : ∀ l : List ScanEntry,
      (l.any fun e => e.comp == n) = (l.map ScanEntry.unread).any fun e => e.comp == n := fun l => by
    rw [List.any_map]; rfl
  unfold Scanner.holds
  rw [unread, h.1, ← unread]

/-- The event's end, from the state in which the promise is withdrawn. -/
theorem State.dropInside_finish (hdrop : s.DropOk) (hf : s.drop.flap = .opened) (hscan : s.ScanOk)
    (hk : s.key k = some r) (hl : r.location = .compartment n) {x : Nat} {u t : State}
    (hu : (s.fallen x k n).withdrawPromise k none = u)
    (ht : ((s.dropKey x k s.present).enterFull s.present).finish = t) :
    ∃ y, u.reexamineAll s.joinMinute (k :: keysOf (u.comp n).contents) = u.withKeys y
      ∧ Settled { u.noted s.fullNotice with keys := y, scanner := { u.scanner with list := t.scanner.list } } t
      ∧ ListKept (s.fallen x k n) t := by
  obtain ⟨y, hy⟩ := u.reexamineAll_frame s.joinMinute (k :: keysOf (u.comp n).contents)
  have hsc := (State.withdrawPromise_outside (State.fallen_key hk hl x) r.dropped_location).2.1
  obtain ⟨hq, l, tb, he⟩ := State.fallen_queued hk hl x
  have hw : (s.fallen x k n).SweepGoesOn := State.SweepGoesOn.queued (s := s.withoutKey n k) hscan.sweepGoesOn hq
    (by rw [he]; rfl)
  rw [State.dropInside_eq hdrop hf hk hl, hu, hy] at ht
  rw [hu] at hsc
  obtain ⟨hs, hkept⟩ := State.finish_settled (v := (u.withKeys y).noted s.fullNotice) (hw.of_scanner hsc)
  rw [ht] at hs hkept
  refine ⟨y, hy, hs, ?_⟩
  unfold ListKept at hkept ⊢
  rw [← hsc]
  exact hkept

/-- What every such read does: the key's record, the other keys' places, the drop box, the contents and the scan. -/
theorem State.dropInside_places (hdrop : s.DropOk) (hf : s.drop.flap = .opened) (hscan : s.ScanOk)
    (hk : s.key k = some r) (hl : r.location = .compartment n) {x : Nat} {t : State}
    (ht : ((s.dropKey x k s.present).enterFull s.present).finish = t) :
    t.key k = some { r.dropped with promisedTo := none }
      ∧ (∀ j, j ≠ k → (t.key j).map KeyRecord.location = (s.key j).map KeyRecord.location)
      ∧ t.drop = s.dropWith ⟨some x, some k, s.present, none⟩
      ∧ (t.comp n).contents = (s.comp n).contents.filter (· != .key k)
      ∧ ∃ e ∈ t.scanner.list, e.comp = n := by
  obtain ⟨y, hy, hs, hkept⟩ := State.dropInside_finish hdrop hf hscan hk hl rfl ht
  obtain ⟨h1, h2, -, -, -, h6⟩ := hs.records
  obtain ⟨hkey, -, hbox⟩ := State.withdrawPromise_outside (State.fallen_key hk hl x) r.dropped_location
  have hmoved : Moved s (((s.fallen x k n).withdrawPromise k none).reexamineAll s.joinMinute
      (k :: keysOf (((s.fallen x k n).withdrawPromise k none).comp n).contents)) k .drop :=
    (s.fallen_moved x k n).before ((State.withdrawPromise_still _ k none).trans (State.reexamineAll_still _ _ _))
  have hkeys := State.reexamineAll_key_outside hkey r.dropped_location s.joinMinute
    (k :: keysOf (((s.fallen x k n).withdrawPromise k none).comp n).contents)
  rw [hy] at hmoved hkeys
  have hkt : ∀ j, t.key j = State.key (State.withKeys ((s.fallen x k n).withdrawPromise k none) y) j := fun j => by
    rw [State.key, h1]
    rfl
  have hct : ∀ m, t.comp m = ((s.fallen x k n).withdrawPromise k none).comp m := fun m => by rw [State.comp, h2]; rfl
  refine ⟨(hkt k).trans hkeys, fun j hj => ?_, h6.trans (hbox.trans ?_), ?_, ?_⟩
  · rw [hkt]
    exact (hmoved.loc j).trans (if_neg hj)
  · obtain ⟨-, l, tb, he⟩ := State.fallen_queued hk hl x
    rw [he]
  · rw [hct]
    refine (hmoved.contents n).trans (if_pos ⟨?_, by simp⟩)
    rw [State.loc, hk, Option.map_some, hl]
  · have hh : t.scanner.holds n = true := by
      rw [hkept.holds, (State.fallen_queued hk hl x).1.holds]
      by_cases h : s.scanner.list.any (·.comp == n) = true
      · exact .inl h
      · exact .inr (by rw [if_neg h]; exact List.mem_singleton_self n)
    obtain ⟨e, he, hen⟩ := List.any_eq_true.mp hh
    exact ⟨e, he, by simpa using hen⟩

end
end Sys2Proof.Machine
end

section
/-! SUPPORT. O44: the pickup in flight for a key that was read in the chute (R72, R73, R105). -/

namespace Sys2Proof.Table

theorem set_set {α : Type} {n : Nat} (t : Table α n) (i : Fin n) (a b : α) : (t.set i a).set i b = t.set i b := by
  refine ext_get fun j => ?_
  rw [get_set, get_set, get_set]
  split <;> rfl

end Sys2Proof.Table

namespace Sys2Proof.Machine

/-- A key whose record, outside the compartments, was written and that was taken from its list is re-examined. -/
theorem Reexamined.of_leave {s t : State} {k : KeyId} {r : KeyRecord} (hl : ∀ n, r.location ≠ .compartment n)
    (ht : t.keys = ({ s.keys with places := s.keys.places.set k (some r) } : KeyTable).leave r.group k) :
    Reexamined s t k r := by
  have hno : ¬ MayBeListed s k r := fun ⟨⟨n, hn, _⟩, _⟩ => hl n hn
  have hlists : ∀ g, t.keys.lists.get g
      = if g = r.group then (s.keys.lists.get g).filter (· != k) else s.keys.lists.get g := fun g => by
    rw [ht, KeyTable.get_leave]
  have hkey : ∀ j, t.key j = (s.keys.places.set k (some r)).get j := fun j => by rw [State.key, ht]; rfl
  refine ⟨fun _ => ⟨?_, ?_⟩, fun h => absurd h hno, fun h => absurd h hno, fun j hj => ?_, fun g hg => ?_⟩
  · rw [hkey, Table.get_set_self]
  · rw [hlists, if_pos rfl]
  · rw [hkey, Table.get_set_ne _ _ (Ne.symm hj)]
    rfl
  · rw [hlists, if_neg hg]

section
variable {s : State} {k : KeyId} {r : KeyRecord} {n : CompId}

/-! ### The compartment of the key (R2, R17) -/

/-- The request for a scan writes a door at most. -/
theorem State.fallen_comp (hk : s.key k = some r) (hl : r.location = .compartment n) (x : Nat) (m : CompId) :
    (s.fallen x k n).comp m = { (s.withoutKey n k).comp m with door := .scanning }
      ∨ (s.fallen x k n).comp m = (s.withoutKey n k).comp m := by
  obtain ⟨-, -, hc⟩ := (State.fallen_queued hk hl x).1
  rw [hc]
  exact ite_eq_or_eq _ _ _

theorem State.fallen_release (hk : s.key k = some r) (hl : r.location = .compartment n) (x : Nat) (m : CompId) :
    ((s.fallen x k n).comp m).release = (s.comp m).release := by
  obtain e | e := State.fallen_comp hk hl x m <;> rw [e, State.withoutKey_comp]

theorem State.fallen_door (hk : s.key k = some r) (hl : r.location = .compartment n) (x : Nat) {d : DoorState}
    (hd : (s.comp n).door ≠ d) (h : d ≠ .scanning) : ((s.fallen x k n).comp n).door ≠ d := by
  obtain e | e := State.fallen_comp hk hl x n
  · rw [e]
    exact Ne.symm h
  · rwa [e, State.withoutKey_comp]

/-- Behind a door that is not LOCKED the request for a scan moves no door (R17, R41). -/
theorem State.fallen_compartments (hk : s.key k = some r) (hl : r.location = .compartment n)
    (hd : (s.comp n).door ≠ .locked) (x : Nat) :
    (s.fallen x k n).compartments = (s.withoutKey n k).compartments := by
  obtain ⟨⟨-, -, hc⟩, l, tb, he⟩ := State.fallen_queued hk hl x
  have ht : (s.fallen x k n).compartments.table = (s.withoutKey n k).compartments.table := Table.ext_get fun m => by
    refine (hc m).trans (if_neg fun ⟨hm, hdm⟩ => hd ?_)
    obtain rfl : m = n := by
      split at hm
      · cases hm
      · exact List.mem_singleton.mp hm
    rwa [State.withoutKey_comp] at hdm
  rw [he] at ht ⊢
  change tb = _ at ht
  rw [ht]
  rfl

theorem State.withoutKey_latchOk (h : s.LatchOk) (n : CompId) (k : KeyId) : (s.withoutKey n k).LatchOk := by
  have hd : ∀ m, ((s.withoutKey n k).comp m).door = (s.comp m).door := fun m => by rw [State.withoutKey_comp]
  have hw : ∀ m, ((s.withoutKey n k).comp m).window = (s.comp m).window := fun m => by rw [State.withoutKey_comp]
  have hp : (s.withoutKey n k).priorityAt = s.priorityAt := funext fun m => by
    unfold State.priorityAt
    rw [State.withoutKey_comp]
  unfold State.LatchOk at h ⊢
  simp only [hd, hw, hp]
  exact h

/-- The promise cleared. -/
theorem State.fallen_clearPromise (hk : s.key k = some r) (hl : r.location = .compartment n) (x : Nat) :
    ∃ l tb, (s.fallen x k n).clearPromise k = { s with
      drop := s.dropWith ⟨some x, some k, s.present, none⟩
      keys := { s.keys with places := s.keys.places.set k (some { r.dropped with promisedTo := none }) }
      scanner := { s.scanner with list := l }, compartments := { s.compartments with table := tb } } := by
  obtain ⟨-, l, tb, he⟩ := State.fallen_queued hk hl x
  refine ⟨l, tb, ?_⟩
  rw [State.clearPromise, State.modifyKey_eq (State.fallen_key hk hl x), he]
  rw [← Table.set_set s.keys.places k (some r.dropped) (some { r.dropped with promisedTo := none })]
  rfl

/-- A key that was alone in its compartment is the only one to be re-examined (R6, R105). -/
theorem State.fallen_alone (hk : s.key k = some r) (hl : r.location = .compartment n)
    (h1 : (s.comp n).contents = [.key k]) (x : Nat) {u : State} (hu : (s.fallen x k n).withdrawPromise k none = u) :
    u.reexamineAll s.joinMinute (k :: keysOf (u.comp n).contents) = u.withKeys (u.keys.leave r.group k) := by
  have hempty : (u.comp n).contents = [] := by
    rw [← hu]
    refine (((s.fallen_moved x k n).before (State.withdrawPromise_still _ k none)).contents n).trans ?_
    rw [if_pos ⟨by rw [State.loc, hk, Option.map_some, hl], by simp⟩, h1]
    simp
  have hkey := (State.withdrawPromise_outside (State.fallen_key hk hl x) r.dropped_location).1
  rw [hu] at hkey
  rw [hempty]
  exact State.reexamine_outside hkey r.dropped_location s.joinMinute

/-! ### No pickup to cancel (R73, R105) -/

theorem State.pickups_alone (hb : s.Booked fun _ => True) {x : Nat} {j : KeyId} {o : Origin}
    (h : (s.comp n).release = some ⟨.pickup x j, o⟩) :
    ∀ m j' o', (s.comp m).release = some ⟨.pickup x j', o'⟩ → m = n := fun m j' o' hm =>
  hb.rented.alone n m x j j' trivial (Compartment.pickup?_eq_some.mpr ⟨o, h⟩)
    (Compartment.pickup?_eq_some.mpr ⟨o', hm⟩)

theorem State.fallen_pickupComp (hb : s.Booked fun _ => True) (hk : s.key k = some r)
    (hl : r.location = .compartment n) {c : Nat} {o : Origin} (h : (s.comp n).release = some ⟨.pickup c k, o⟩)
    (x : Nat) : ((s.fallen x k n).clearPromise k).pickupComp c = some n :=
  State.pickupComp_of (s := (s.fallen x k n).clearPromise k) ((State.fallen_release hk hl x n).trans h)
    fun m j o hm => State.pickups_alone hb h m j o ((State.fallen_release hk hl x m).symm.trans hm)

theorem State.fallen_unpromised (hb : s.Booked fun _ => True) (hk : s.key k = some r)
    (hl : r.location = .compartment n) (x : Nat)
    (hp : r.promisedTo = none ∨ ∃ c, r.promisedTo = some c ∧ (∃ o, (s.comp n).release = some ⟨.pickup c k, o⟩)
      ∧ ¬ ((s.comp n).door = .waiting ∨ (s.comp n).door = .unlatched)) :
    (s.fallen x k n).withdrawPromise k none = (s.fallen x k n).clearPromise k := by
  have hkey := State.fallen_key hk hl x
  obtain hno | ⟨c, hc, ⟨o, hr⟩, hd⟩ := hp
  · rw [State.withdrawPromise_none hkey hno, State.clearPromise_none hkey hno]
  · obtain ⟨-, he⟩ | ⟨m, hm, hcancel⟩ := State.withdrawPromise_some hkey hc
    · exact he
    · obtain rfl := Option.some.inj ((State.fallen_pickupComp hb hk hl hr x).symm.trans hm)
      obtain ⟨hw, hun⟩ := not_or.mp hd
      rw [(State.cancelRelease_cases ((s.fallen x k n).clearPromise k) n n).1 (State.fallen_door hk hl x hw (by decide))
        (State.fallen_door hk hl x hun (by decide))] at hcancel
      cases hcancel

/-- A read of a key in a compartment that reaches no release before its door opened (R73, R105). -/
theorem State.dropInside_unpromised (hdrop : s.DropOk) (hf : s.drop.flap = .opened) (hscan : s.ScanOk)
    (hb : s.Booked fun _ => True) (hk : s.key k = some r) (hl : r.location = .compartment n) {x : Nat} {t : State}
    (ht : ((s.dropKey x k s.present).enterFull s.present).finish = t)
    (hp : r.promisedTo = none ∨ ∃ c, r.promisedTo = some c ∧ (∃ o, (s.comp n).release = some ⟨.pickup c k, o⟩)
      ∧ ¬ ((s.comp n).door = .waiting ∨ (s.comp n).door = .unlatched)) :
    Settled { s.noted s.fullNotice with
        drop := s.dropWith ⟨some x, some k, s.present, none⟩, keys := t.keys
        compartments := { s.compartments with table := t.compartments.table }
        scanner := { s.scanner with list := t.scanner.list } } t
      ∧ SweepQueued (s.withoutKey n k) t (if s.scanner.list.any (·.comp == n) then [] else [n])
      ∧ ((s.comp n).contents = [.key k] →
        Reexamined { s with compartments := t.compartments } t k { r.dropped with promisedTo := none }) := by
  have hu := State.fallen_unpromised hb hk hl x hp
  obtain ⟨y, hy, hs, hkept⟩ := State.dropInside_finish hdrop hf hscan hk hl hu ht
  obtain ⟨l, tb, he⟩ := State.fallen_clearPromise hk hl x
  obtain ⟨h1, h2, -⟩ := hs.records
  refine ⟨?_, (State.fallen_queued hk hl x).1.kept hkept h2, fun hone => .of_leave r.dropped_location ?_⟩
  · rw [h1, h2]
    rw [he] at hs ⊢
    exact hs
  · rw [State.fallen_alone hk hl hone x hu] at hy
    refine h1.trans ((congrArg State.keys hy).symm.trans ?_)
    change ((s.fallen x k n).clearPromise k).keys.leave _ _ = _
    rw [he]
    rfl

/-! ### The pickup in flight is cancelled (R72, R105) -/

theorem ReleaseDropped.congr {s t u v : State} (h : ReleaseDropped u v n) (hc : u.compartments = s.compartments)
    (hl : u.scanner.list.any (·.comp == n) = s.scanner.list.any (·.comp == n)) (hs : u.store = s.store)
    (ht : t.compartments = v.compartments) : ReleaseDropped s t n := by
  unfold ReleaseDropped Regranted State.comp at h ⊢
  rw [hc, hl, hs] at h
  rw [ht]
  exact h

/-- The scan list of the state in which the key is in DROP is the manual's, but for a read that may have begun. -/
theorem State.fallen_listed (hk : s.key k = some r) (hl : r.location = .compartment n) (x : Nat) :
    ListKept (s.queuedWithout n k) (s.fallen x k n) := by
  obtain ⟨h1, h2, -⟩ := (State.fallen_queued hk hl x).1
  have hlist : (s.queuedWithout n k).scanner.list = s.scanner.list
    ++ if s.scanner.list.any (·.comp == n) then [] else [⟨n, .sweep, .nothing, false⟩] := rfl
  refine ⟨?_, fun e he hr => ?_⟩
  · rw [h1, hlist, List.map_append]
    congr 1
    split <;> rfl
  · rw [hlist, List.mem_append] at he
    obtain he | he := he
    · exact h2 e he hr
    · split at he
      · cases he
      · rw [List.mem_singleton.mp he] at hr
        cases hr

theorem ListKept.trans {s t u : State} (h : ListKept s t) (g : ListKept t u) : ListKept s u :=
  ⟨g.1.trans h.1, fun e he hr => g.2 e (h.2 e he hr) hr⟩

/-- A read of a key whose pickup waits for its door: the release is cancelled and the contract falls back. -/
theorem State.fallen_promised (hb : s.Booked fun _ => True) (hk : s.key k = some r) (hl : r.location = .compartment n)
    {sl : Slot} {d : Contract} (hsl : s.slot sl = some d) (hp : r.promisedTo = some d.number) {o : Origin}
    (hr : (s.comp n).release = some ⟨.pickup d.number k, o⟩)
    (hd : (s.comp n).door = .waiting ∨ (s.comp n).door = .unlatched) (x : Nat) {u : State}
    (hu : (s.fallen x k n).withdrawPromise k none = u) :
    ((s.fallen x k n).clearPromise k).cancelRelease n n = some u
      ∧ ∃ l y, u = { s.noted (handoutFailed s.present n k d 2) with
      drop := s.dropWith ⟨some x, some k, s.present, none⟩
      keys := ({ s.keys with
        places := s.keys.places.set k (some { r.dropped with promisedTo := none }) } : KeyTable).leave r.group k
      kiosk := s.kioskAfter n, scanner := { s.scanner with list := l }, compartments := y
      contracts := { s.contracts with slots := s.contracts.slots.set sl (some (fellBack d)) } } := by
  have hkey := State.fallen_key hk hl x
  have hcomp := State.fallen_pickupComp hb hk hl hr x
  have hlocked : (s.comp n).door ≠ .locked := by obtain e | e := hd <;> rw [e] <;> decide
  have hdoor : ((s.fallen x k n).comp n).door = (s.comp n).door := by
    rw [State.comp, State.fallen_compartments hk hl hlocked]
    exact (congrArg Compartment.door (State.withoutKey_comp s n k n)).trans rfl
  obtain ⟨i, c, hc, hnum, hst, -⟩ := hb.rented.pickups n d.number k trivial (Compartment.pickup?_eq_some.mpr ⟨o, hr⟩)
  obtain rfl := hb.index.numbered i sl c d hc hsl hnum
  obtain rfl := Option.some.inj (hc.symm.trans hsl)
  have hcancel : ((s.fallen x k n).clearPromise k).cancelRelease n n = some u := by
    obtain ⟨hno, -⟩ | ⟨m, hm, hcancel⟩ := State.withdrawPromise_some hkey hp
    · obtain ⟨-, hw, hun⟩ := State.cancelRelease_cases ((s.fallen x k n).clearPromise k) n n
      have := hno n hcomp
      obtain e | e := hd
      · rw [hw (hdoor.trans e)] at this
        cases this
      · rw [hun (hdoor.trans e)] at this
        cases this
    · obtain rfl := Option.some.inj (hcomp.symm.trans hm)
      rw [hcancel, hu]
  refine ⟨hcancel, ?_⟩
  obtain ⟨y, hy⟩ := State.cancelRelease_told hcancel ((State.fallen_release hk hl x n).trans hr)
  obtain ⟨l, tb, he⟩ := State.fallen_clearPromise hk hl x
  have hkey' : ((s.fallen x k n).clearPromise k).key k = some { r.dropped with promisedTo := none } := by
    rw [he]
    exact Table.get_set_self _ _ _
  have hnum' : (((s.fallen x k n).clearPromise k).withCompartments y).Numbered := by
    rw [he]
    exact hb.index.numbered
  have hc' : (((s.fallen x k n).clearPromise k).withCompartments y).slot i = some c := by
    rw [he]
    exact hc
  refine ⟨l, y, hy.trans ((State.tellEnded_pickup hnum' hc' hst hkey' r.dropped_location rfl n).trans ?_)⟩
  rw [he]
  rfl

/-- The whole event of such a read (R72, R105, R107). -/
theorem State.dropInside_promised (hdrop : s.DropOk) (hf : s.drop.flap = .opened) (hlat : s.LatchOk) (hscan : s.ScanOk)
    (hb : s.Booked fun _ => True) (hk : s.key k = some r) (hl : r.location = .compartment n) {x : Nat} {t : State}
    (ht : ((s.dropKey x k s.present).enterFull s.present).finish = t) {sl : Slot} {d : Contract}
    (hsl : s.slot sl = some d) (hp : r.promisedTo = some d.number)
    (hr : ∃ o, (s.comp n).release = some ⟨.pickup d.number k, o⟩)
    (hd : (s.comp n).door = .waiting ∨ (s.comp n).door = .unlatched) :
    Settled { s.noted (handoutFailed s.present n k d 2 ++ s.fullNotice) with
        drop := s.dropWith ⟨some x, some k, s.present, none⟩, keys := t.keys, kiosk := s.kioskAfter n
        contracts := { s.contracts with slots := s.contracts.slots.set sl (some (fellBack d)) }
        compartments := t.compartments, scanner := { s.scanner with list := t.scanner.list } } t
      ∧ ReleaseDropped (s.queuedWithout n k) t n ∧ ListKept (s.queuedWithout n k) t
      ∧ ((s.comp n).contents = [.key k] →
        Reexamined { s with contracts := t.contracts, compartments := t.compartments } t k
          { r.dropped with promisedTo := none }) := by
  obtain ⟨o, hr⟩ := hr
  have hlocked : (s.comp n).door ≠ .locked := by obtain e | e := hd <;> rw [e] <;> decide
  obtain ⟨u, hu⟩ : ∃ u, (s.fallen x k n).withdrawPromise k none = u := ⟨_, rfl⟩
  obtain ⟨hcancel, l, c, he⟩ := State.fallen_promised hb hk hl hsl hp hr hd x hu
  obtain ⟨y, hy, hs, hkept⟩ := State.dropInside_finish hdrop hf hscan hk hl hu ht
  obtain ⟨h1, h2, -⟩ := hs.records
  have hcab := State.fallen_compartments hk hl hlocked x
  have hlat' : ((s.fallen x k n).clearPromise k).LatchOk :=
    (State.withoutKey_latchOk hlat n k).of_eq hcab
  refine ⟨?_, ?_, (State.fallen_listed hk hl x).trans hkept, fun hone => .of_leave r.dropped_location ?_⟩
  · rw [h1, h2, State.noted_append]
    rw [he] at hs ⊢
    exact hs
  · refine (State.cancelRelease_dropped hlat' hcancel).congr (s := s.queuedWithout n k) hcab
      ((State.fallen_listed hk hl x).holds n) ?_ h2
    obtain ⟨-, l, tb, e⟩ := State.fallen_queued hk hl x
    change (s.fallen x k n).store = s.store
    rw [e]
  · rw [State.fallen_alone hk hl hone x hu] at hy
    refine h1.trans ((congrArg State.keys hy).symm.trans ?_)
    change u.keys.leave _ _ = _
    rw [he]
    exact KeyTable.leave_leave _ _ _

end
end Sys2Proof.Machine
end

section
/-! SUPPORT. O44: the read of a tag in the return chute (R103-R107). -/

namespace Sys2Proof.Machine

/-- Settles O44: the first case of R103 that applies, and for a key its location's; a key in a compartment takes its
promise with it, which reaches the release in flight or not. -/
theorem chuteReadsEnterTheDropList : Obligations.ChuteReadsEnterTheDropList := by
  intro s tag hp hdrop hcab hcon hloc
  obtain ⟨hlat, hscan⟩ := hcab
  dsimp only
  have hnext := fun h : ¬ s.repeatedRead tag = true => (execChuteRead_next hp tag).trans
    (congrArg _ (if_neg h))
  refine ⟨fun hf => ⟨_, hnext fun h => ?_, ?_⟩, fun hf => ⟨fun htag => ⟨_, hnext fun h => ?_, ?_⟩, fun x htag =>
    ⟨fun hheld => ?_, fun hheld => ?_⟩⟩⟩
  · rw [(State.repeatedRead_iff.mp h).1] at hf
    cases hf
  · rw [State.chute_locked hf]
    exact State.finish_still hscan rfl fun _ => rfl
  · obtain ⟨-, x, hx, -⟩ := State.repeatedRead_iff.mp h
    rw [htag] at hx
    cases hx
  · subst htag
    rw [State.chute_unread hdrop hf]
    exact State.finish_still hscan rfl fun _ => rfl
  · rw [execChuteRead_next hp, if_pos (State.repeatedRead_iff.mpr ⟨hf, x, htag, hheld⟩)]
  · subst htag
    have hrep : ¬ s.repeatedRead (some x) = true := fun h => by
      obtain ⟨-, y, hy, e, he, hey⟩ := State.repeatedRead_iff.mp h
      exact hheld e he (hey.trans hy.symm)
    refine ⟨fun hno => ⟨_, hnext hrep, ?_⟩, fun k r hk hx => ?_⟩
    · have hnone : s.keyOfTag x = none := Table.find_eq_none.mpr fun j => by
        change (s.key j).any _ = false
        cases hj : s.key j with
        | none => rfl
        | some r => simpa using hno j r hj
      rw [State.chute_unknown hdrop hf hheld hnone]
      exact State.finish_still hscan rfl fun _ => rfl
    · have hof : s.keyOfTag x = some k := by
        rw [State.keyOfTag_eq_some hloc.1, hk, Option.map_some, hx]
      have hn := (hnext hrep).trans (by rw [State.chute_key hf hheld hof])
      refine ⟨fun sl c hsl hout final hfinal => ⟨_, hn, ?_⟩, fun hl => ⟨_, hn, ?_⟩, fun n hl => ⟨_, hn, ?_⟩⟩
      · exact State.dropReturn_finish hdrop hf hlat hscan (State.booked_iff.mp hcon) hk hsl hout hfinal rfl
      · exact State.dropLoose_finish hdrop hf hscan hk hl
      · obtain ⟨hkey, hother, hbox, hcontents, hentry⟩ := State.dropInside_places hdrop hf hscan hk hl rfl
        refine ⟨hkey, hother, hbox, hcontents, hentry, fun hpromise => ?_, fun sl d hsl hpromise hpickup hshut => ?_⟩
        · exact State.dropInside_unpromised hdrop hf hscan (State.booked_iff.mp hcon) hk hl rfl hpromise
        · exact State.dropInside_promised hdrop hf hlat hscan (State.booked_iff.mp hcon) hk hl rfl hsl hpromise hpickup
            hshut

end Sys2Proof.Machine
end

section
/-! SUPPORT. The latch arbiter's law through what can happen to one compartment: it is left as it stands, its request is
taken, leaves the queue or is granted, or its channel is given up (R20-R22, R32). -/

namespace Sys2Proof.Machine

/-! ### A channel given up (R22) -/

/-- The arbiter after compartment `n` has given up its channel, and its record is written by `f`. -/
theorem State.freed_regranted {s : State} {n : CompId} (hlat : s.LatchOk) (hd : (s.comp n).door = .unlatched)
    (f : Compartment → Compartment) : Regranted s ((s.freeChannel n).modifyComp n f).arbitrate n
      ∧ ((s.freeChannel n).modifyComp n f).arbitrate.comp n = f { s.comp n with window := none } := by
  obtain ⟨hfree, hother, hqueue, hc1, hc2, -⟩ := s.freeChannel_spec n
  obtain ⟨r1, r2, r3, r4, r5⟩ := State.regrant (u := (s.freeChannel n).modifyComp n f) hlat hd hqueue rfl hc1 hc2
    fun m hm => by rw [State.modifyComp_comp_ne _ _ (Ne.symm hm), hother m hm]
  refine ⟨⟨r1, r2, r3, r5⟩, ?_⟩
  rw [r4, State.modifyComp_comp_self, hfree]

/-- The state after the end of a window, before the scan list is looked at (R24). -/
def State.windowEnded (s : State) (n : CompId) : State :=
  ((s.freeChannel n).modifyComp n fun c => { c with door := s.lockedDoor n }).arbitrate.endRelease n .expired

theorem State.windowEnded_dropped {s : State} {n : CompId} (hlat : s.LatchOk) (hd : (s.comp n).door = .unlatched) :
    ReleaseDropped s (s.windowEnded n) n := by
  obtain ⟨⟨r1, r2, r3, r4⟩, hn⟩ := State.freed_regranted hlat hd fun c => { c with door := s.lockedDoor n }
  unfold State.windowEnded
  generalize ((s.freeChannel n).modifyComp n fun c => { c with door := s.lockedDoor n }).arbitrate = u at *
  have hc := (u.endRelease_compartments n .expired n).1
  have hself : (u.endRelease n .expired).comp n = (u.comp n).withoutRelease := by
    rw [State.comp, hc]; exact Table.get_modify_self _ _ _
  have hother : ∀ m, m ≠ n → (u.endRelease n .expired).comp m = u.comp m := fun m hm => by
    rw [State.comp, hc]; exact Table.get_modify_ne _ _ (Ne.symm hm)
  refine ⟨?_, fun hw => ?_, fun _ => ⟨?_, ?_, ?_, fun m hm => (hother m hm).trans (r4 m hm)⟩⟩
  · rw [hself, hn]; rfl
  · rw [hd] at hw; cases hw
  · rw [hc]; exact r1
  · rw [hc]; exact r2
  · rw [hc]; exact r3

/-! ### The arbiter's law -/

/-- A door whose release holds a channel or waits for one. -/
def DoorState.latched (d : DoorState) : Prop := d = .waiting ∨ d = .unlatched

/-- `d` stands as `c` does for the arbiter. -/
structure Held (c d : Compartment) : Prop where
  unlatched : d.door = .unlatched ↔ c.door = .unlatched
  waiting : d.door = .waiting ↔ c.door = .waiting
  window : d.window.isSome = c.window.isSome
  release : c.door = .waiting → d.release = c.release

theorem Held.refl (c : Compartment) : Held c c := ⟨.rfl, .rfl, rfl, fun _ => rfl⟩

/-- Neither held a channel nor waited, before and after. -/
theorem Held.outside {c d : Compartment} (hc : ¬ c.door.latched) (hd : ¬ d.door.latched)
    (hw : d.window.isSome = c.window.isSome) : Held c d := by
  obtain ⟨c1, c2⟩ := not_or.mp hc
  obtain ⟨d1, d2⟩ := not_or.mp hd
  exact ⟨iff_of_false d2 c2, iff_of_false d1 c1, hw, fun h => absurd h c1⟩

theorem State.LatchOk.of_held {s t : State} (h : s.LatchOk) (hq : t.compartments.queue = s.compartments.queue)
    (h1 : t.compartments.channel1 = s.compartments.channel1) (h2 : t.compartments.channel2 = s.compartments.channel2)
    (hc : ∀ n, Held (s.comp n) (t.comp n)) : t.LatchOk := by
  obtain ⟨hun, hwin, hone, hwait, hnd, hlen, hprio, hfull⟩ := h
  unfold State.LatchOk
  rw [hq, h1, h2]
  refine ⟨fun n => (hc n).unlatched.trans (hun n), fun n => ?_, hone, fun n => (hwait n).trans (hc n).waiting.symm, hnd,
    hlen, hprio.imp_of_mem fun {a b} ha hb hab => ?_, hfull⟩
  · rw [(hc n).window, (hc n).unlatched]; exact hwin n
  · have same : ∀ m ∈ s.compartments.queue, t.priorityAt m = s.priorityAt m := fun m hm => by
      rw [State.priorityAt, (hc m).release ((hwait m).mp hm)]; rfl
    rw [same a ha, same b hb]
    exact hab

theorem State.LatchOk.window_none {s : State} (h : s.LatchOk) {n : CompId} (hd : (s.comp n).door ≠ .unlatched) :
    (s.comp n).window = none := by
  obtain ⟨-, hwin, -⟩ := h
  simpa using mt (hwin n).mp hd

theorem State.LatchOk.not_queued {s : State} (h : s.LatchOk) {n : CompId} (hd : (s.comp n).door ≠ .waiting) :
    n ∉ s.compartments.queue := by
  obtain ⟨-, -, -, hwait, -⟩ := h
  exact fun hm => hd ((hwait n).mp hm)

/-- Compartment `n` gave up its channel, which the head of the queue was granted (R22). -/
theorem State.LatchOk.regranted {s t : State} {n : CompId} (h : s.LatchOk) (hd : (s.comp n).door = .unlatched)
    (hr : Regranted s t n) (hn : ¬ (t.comp n).door.latched) (hw : (t.comp n).window = none) : t.LatchOk := by
  obtain ⟨hnw, hnu⟩ := not_or.mp hn
  have hnq : n ∉ s.compartments.queue := h.not_queued (by rw [hd]; decide)
  obtain ⟨hun, hwin, hone, hwait, hnd, hlen, hprio, hfull⟩ := h
  obtain ⟨hq, h1, h2, hm⟩ := hr
  have hhead : ∀ m, s.compartments.queue.head? = some m → m ∈ s.compartments.queue := fun m => List.mem_of_mem_head?
  have hhn : s.compartments.queue.head? ≠ some n := fun e => hnq (hhead n e)
  have hlost : ∀ m, s.compartments.queue.head? = some m → (s.comp m).door = .waiting := fun m e => (hwait m).mp (hhead m e)
  have hfree := (hun n).mp hd
  refine ⟨fun m => ?_, fun m => ?_, fun m e1 e2 => ?_, fun m => ?_, ?_, ?_, ?_, fun hnone => ?_⟩
  · rw [h1, h2]
    by_cases e : m = n
    · subst e
      refine iff_of_false hnu ?_
      have out : ∀ c : Option CompId, (if c = some m then s.compartments.queue.head? else c) ≠ some m := by
        intro c
        split
        · exact hhn
        · next hc => exact hc
      exact fun e => e.elim (out _) (out _)
    · rw [hm m e]
      by_cases hj : s.compartments.queue.head? = some m
      · rw [if_pos hj]
        refine iff_of_true rfl ?_
        obtain hf | hf := hfree
        · exact .inl (by rw [if_pos hf, hj])
        · exact .inr (by rw [if_pos hf, hj])
      · rw [if_neg hj, hun m]
        have keep : ∀ c : Option CompId, (if c = some n then s.compartments.queue.head? else c) = some m ↔ c = some m := by
          intro c
          split
          · next hc => rw [hc]; exact iff_of_false hj fun e' => e (Option.some.inj e').symm
          · rfl
        rw [keep, keep]
  · by_cases e : m = n
    · subst e
      rw [hw]
      exact iff_of_false (by simp) hnu
    · rw [hm m e]
      split
      · exact iff_of_true rfl rfl
      · exact hwin m
  · rw [h1] at e1
    rw [h2] at e2
    split at e1 <;> split at e2
    · next a b => exact hone n a b
    · have := (hun m).mpr (.inr e2)
      rw [hlost m e1] at this
      cases this
    · have := (hun m).mpr (.inl e1)
      rw [hlost m e2] at this
      cases this
    · exact hone m e1 e2
  · rw [hq]
    by_cases e : m = n
    · subst e
      exact iff_of_false (fun hmem => hnq (List.mem_of_mem_tail hmem)) hnw
    · rw [hm m e]
      cases hqs : s.compartments.queue with
      | nil =>
        rw [hqs] at hwait
        simpa using hwait m
      | cons j rest =>
        rw [hqs] at hwait hnd
        obtain ⟨hj, -⟩ := List.nodup_cons.mp hnd
        by_cases ej : j = m
        · subst ej
          rw [List.head?_cons, if_pos rfl]
          exact iff_of_false hj (by simp)
        · rw [List.head?_cons, if_neg fun e' => ej (Option.some.inj e'), ← hwait m, List.tail_cons, List.mem_cons]
          exact (or_iff_right (Ne.symm ej)).symm
  · rw [hq]
    exact hnd.sublist (List.tail_sublist _)
  · rw [hq, List.length_tail]
    omega
  · rw [hq]
    refine (hprio.sublist (List.tail_sublist _)).imp_of_mem fun {a b} ha hb hab => ?_
    have same : ∀ m ∈ s.compartments.queue.tail, t.priorityAt m = s.priorityAt m := fun m hmem => by
      rw [State.priorityAt, hm m fun e => hnq (e ▸ List.mem_of_mem_tail hmem)]
      split <;> rfl
    rw [same a ha, same b hb]
    exact hab
  · cases hqs : s.compartments.queue with
    | nil => rw [hq, hqs]; rfl
    | cons j rest =>
      have hbusy : s.compartments.channel1 ≠ none ∧ s.compartments.channel2 ≠ none :=
        not_or.mp fun e => by have := hfull e; rw [hqs] at this; cases this
      rw [h1, h2, hqs, List.head?_cons] at hnone
      obtain e | e := hnone
      · split at e
        · cases e
        · exact absurd e hbusy.1
      · split at e
        · cases e
        · exact absurd e hbusy.2

/-- The request of compartment `n` left the queue (R24, R25, R30). -/
theorem State.LatchOk.dequeued {s t : State} {n : CompId} (h : s.LatchOk) (hd : (s.comp n).door = .waiting)
    (hq : t.compartments.queue = s.compartments.queue.filter (· != n))
    (h1 : t.compartments.channel1 = s.compartments.channel1) (h2 : t.compartments.channel2 = s.compartments.channel2)
    (hm : ∀ m, m ≠ n → t.comp m = s.comp m) (hn : ¬ (t.comp n).door.latched) (hw : (t.comp n).window = none) :
    t.LatchOk := by
  obtain ⟨hnw, hnu⟩ := not_or.mp hn
  obtain ⟨hun, hwin, hone, hwait, hnd, hlen, hprio, hfull⟩ := h
  have hmem : ∀ m, m ∈ t.compartments.queue ↔ m ∈ s.compartments.queue ∧ m ≠ n := fun m => by
    rw [hq, List.mem_filter, bne_iff_ne]
  refine ⟨fun m => ?_, fun m => ?_, fun m => ?_, fun m => ?_, ?_, ?_, ?_, fun hnone => ?_⟩
  · rw [h1, h2]
    by_cases e : m = n
    · subst e
      exact iff_of_false hnu fun hc => by
        have := (hun m).mpr hc
        rw [hd] at this
        cases this
    · rw [hm m e]; exact hun m
  · by_cases e : m = n
    · subst e
      rw [hw]
      exact iff_of_false (by simp) hnu
    · rw [hm m e]; exact hwin m
  · rw [h1, h2]; exact hone m
  · rw [hmem]
    by_cases e : m = n
    · subst e
      exact iff_of_false (fun hc => hc.2 rfl) hnw
    · rw [hm m e, ← hwait m]
      exact and_iff_left e
  · rw [hq]; exact hnd.filter _
  · rw [hq]
    exact (List.length_filter_le _ _).trans hlen
  · rw [hq]
    refine (hprio.filter _).imp_of_mem fun {a b} ha hb hab => ?_
    have same : ∀ m ∈ s.compartments.queue.filter (· != n), t.priorityAt m = s.priorityAt m := fun m hm' => by
      rw [State.priorityAt, hm m ((hmem m).mp (hq ▸ hm')).2]; rfl
    rw [same a ha, same b hb]
    exact hab
  · rw [h1, h2] at hnone
    rw [hq, hfull hnone]
    rfl

/-- The release of compartment `n` ended unopened (R24, R30). -/
theorem State.LatchOk.dropped {s t : State} {n : CompId} (h : s.LatchOk) (hd : (s.comp n).door.latched)
    (hr : ReleaseDropped s t n) : t.LatchOk := by
  obtain ⟨hn, hwaiting, hunlatched⟩ := hr
  have hdoor : ¬ (t.comp n).door.latched := by
    rw [hn]
    unfold DoorState.latched
    dsimp only
    split <;> simp
  have hw : (t.comp n).window = none := by rw [hn]
  obtain hd | hd := hd
  · obtain ⟨hq, h1, h2, hm⟩ := hwaiting hd
    exact h.dequeued hd hq h1 h2 hm hdoor hw
  · exact h.regranted hd (hunlatched hd) hdoor hw

/-- Compartment `n` was granted a channel that was free: the queue was and stays empty (R22). -/
theorem State.LatchOk.granted {s t : State} {n : CompId} (h : s.LatchOk) (hd : (s.comp n).door = .locked)
    (hfree : s.compartments.channel1 = none ∨ s.compartments.channel2 = none)
    (hq : t.compartments.queue = s.compartments.queue) (hm : ∀ m, m ≠ n → t.comp m = s.comp m)
    (hdoor : (t.comp n).door = .unlatched) (hw : (t.comp n).window.isSome = true)
    (hch : ∀ m, t.compartments.channel1 = some m ∨ t.compartments.channel2 = some m
      ↔ m = n ∨ s.compartments.channel1 = some m ∨ s.compartments.channel2 = some m)
    (hone : ∀ m, t.compartments.channel1 = some m → t.compartments.channel2 ≠ some m) : t.LatchOk := by
  obtain ⟨hun, hwin, -, hwait, -, -, -, hfull⟩ := h
  have hempty := hfull hfree
  rw [hempty] at hq hwait
  refine ⟨fun m => ?_, fun m => ?_, hone, fun m => ?_, by rw [hq]; exact List.nodup_nil, by rw [hq]; simp,
    by rw [hq]; exact .nil, fun _ => hq⟩
  · rw [hch]
    by_cases e : m = n
    · subst e; exact iff_of_true hdoor (.inl rfl)
    · rw [hm m e, hun m]; exact (or_iff_right e).symm
  · by_cases e : m = n
    · subst e; exact iff_of_true hw hdoor
    · rw [hm m e]; exact hwin m
  · rw [hq]
    by_cases e : m = n
    · subst e; rw [hdoor]; simp
    · rw [hm m e]; exact hwait m

/-- A release request for a LOCKED compartment was granted, or joined its class of the queue (R20-R22). -/
theorem State.LatchOk.taken {s t : State} {n : CompId} {r : Release} (h : s.LatchOk) (hd : (s.comp n).door = .locked)
    (hlen' : s.compartments.queue.length < 16) (hr : ReleaseTaken s t n r) : t.LatchOk := by
  have hnq : n ∉ s.compartments.queue := h.not_queued (by rw [hd]; decide)
  have hnwin : (s.comp n).window = none := h.window_none (by rw [hd]; decide)
  obtain ⟨hun, hwin, hone, hwait, hnd, hlen, hprio, hfull⟩ := id h
  obtain ⟨hm, hfirst, hsecond, hwaits⟩ := hr
  have hnc := mt (hun n).mpr (by rw [hd]; decide)
  obtain ⟨hn1, hn2⟩ := not_or.mp hnc
  by_cases c1 : s.compartments.channel1 = none
  · obtain ⟨hn, e1, e2, e3⟩ := hfirst c1
    refine h.granted hd (.inl c1) e3 hm (by rw [hn]) (by rw [hn]; rfl) (fun m => ?_) fun m e => ?_
    · rw [e1, e2, c1]
      simp [eq_comm]
    · rw [e1] at e
      rw [e2, ← Option.some.inj e]
      exact hn2
  by_cases c2 : s.compartments.channel2 = none
  · obtain ⟨hn, e1, e2, e3⟩ := hsecond c1 c2
    refine h.granted hd (.inr c2) e3 hm (by rw [hn]) (by rw [hn]; rfl) (fun m => ?_) fun m e => ?_
    · rw [e1, e2, c2]
      simp [eq_comm, or_comm]
    · rw [e1] at e
      rw [e2]
      intro e'
      rw [← Option.some.inj e'] at e
      exact hn1 e
  obtain ⟨hn, e1, e2, hq⟩ := hwaits c1 c2
  have hself : t.priorityAt n = r.priority := by rw [State.priorityAt, hn]; rfl
  have hsame : ∀ m ∈ s.compartments.queue, t.priorityAt m = s.priorityAt m := fun m hmem => by
    rw [State.priorityAt, hm m fun e => hnq (e ▸ hmem)]; rfl
  have hperm : t.compartments.queue.Perm (n :: s.compartments.queue) := by
    rw [hq]
    split
    · rw [List.append_assoc, List.singleton_append]
      exact List.perm_middle.trans ((List.filter_append_perm _ _).cons n)
    · exact List.perm_append_comm
  have ahead : r.priority = true → ∀ a ∈ s.compartments.queue.filter s.priorityAt ++ [n], t.priorityAt a = true :=
    fun hp a ha => by
      obtain ha | ha := List.mem_append.mp ha
      · obtain ⟨ha, hpa⟩ := List.mem_filter.mp ha
        rw [hsame a ha, hpa]
      · rw [List.mem_singleton.mp ha, hself, hp]
  have behind : ∀ b ∈ s.compartments.queue.filter (fun m => !s.priorityAt m), ¬ t.priorityAt b = true := fun b hb => by
    obtain ⟨hb, hpb⟩ := List.mem_filter.mp hb
    rw [hsame b hb]
    simpa using hpb
  refine ⟨fun m => ?_, fun m => ?_, fun m => ?_, fun m => ?_, ?_, ?_, ?_, fun hnone => ?_⟩
  · rw [e1, e2]
    by_cases e : m = n
    · subst e; rw [hn]; exact iff_of_false (by simp) hnc
    · rw [hm m e]; exact hun m
  · by_cases e : m = n
    · subst e; rw [hn]; simp [hnwin]
    · rw [hm m e]; exact hwin m
  · rw [e1, e2]; exact hone m
  · rw [hperm.mem_iff, List.mem_cons]
    by_cases e : m = n
    · subst e; rw [hn]; exact iff_of_true (.inl rfl) rfl
    · rw [hm m e, ← hwait m]; exact or_iff_right e
  · exact hperm.nodup_iff.mpr (List.nodup_cons.mpr ⟨hnq, hnd⟩)
  · rw [hperm.length_eq, List.length_cons]; omega
  · rw [hq]
    split
    · next hp =>
      refine List.pairwise_append.mpr ⟨?_, ?_, fun a ha b _ _ => ?_⟩
      · exact List.pairwise_of_forall_mem_list fun a ha b _ _ => ahead hp a ha
      · exact List.pairwise_of_forall_mem_list fun a _ b hb hb' => absurd hb' (behind b hb)
      · exact ahead hp a ha
    · next hp =>
      refine List.pairwise_append.mpr ⟨hprio.imp_of_mem fun {a b} ha hb hab => ?_, by simp, fun a _ b hb hb' => ?_⟩
      · rw [hsame a ha, hsame b hb]; exact hab
      · rw [List.mem_singleton.mp hb, hself] at hb'
        exact absurd hb' hp
  · rw [e1, e2] at hnone
    exact (hnone.elim c1 c2).elim

end Sys2Proof.Machine
end

section
/-! SUPPORT. The scan list's law within an event, before the next read begins (`Scanned`), and what restores the whole
of it at the event's end (R17, R40-R45). -/

namespace Sys2Proof.Machine

/-- The cabinet's law but for the read that may have to begin and the sweep that may have ended, which the end of an
event sees to (R43, R45). While compartment `x` is reconciled its entry has left the list and its door is not yet
LOCKED (R43, R52). -/
structure State.Scanned (s : State) (x : Option CompId) : Prop where
  latch : s.LatchOk
  nodup : (s.scanner.list.map ScanEntry.comp).Nodup
  order : s.scanner.list.Pairwise fun a b => a.cls = .sweep → b.cls = .sweep
  unlocked : ∀ e ∈ s.scanner.list, (s.comp e.comp).door ≠ .locked
  listed : ∀ n, (s.comp n).door = .scanning → x ≠ some n → ∃ e ∈ s.scanner.list, e.comp = n
  one : (s.scanner.list.filter ScanEntry.reading).length ≤ 1
  readable : ∀ e ∈ s.scanner.list, e.reading = true → (s.comp e.comp).door.readable = true
  apart : ∀ n, x = some n → (s.comp n).door.readable = true ∧ ∀ e ∈ s.scanner.list, e.comp ≠ n

theorem State.CabinetOk.scanned {s : State} (h : s.CabinetOk) : s.Scanned none := by
  obtain ⟨hlat, h1, h2, h3, h4, h5, h6, -, -⟩ := h
  exact ⟨hlat, h1, h2, h3, fun n hn _ => h4 n hn, h5, h6, fun n hn => by cases hn⟩

theorem State.Scanned.cabinetOk {s : State} (h : s.Scanned none)
    (hreads : (∃ e ∈ s.scanner.list, (s.comp e.comp).door.readable = true) → ∃ e ∈ s.scanner.list, e.reading = true)
    (hsweep : s.SweepGoesOn) : s.CabinetOk :=
  ⟨h.latch, h.nodup, h.order, h.unlocked, fun n hn => h.listed n hn (by simp), h.one, h.readable, hreads, hsweep⟩

/-! ### The end of an event (R42, R43, R45) -/

theorem mem_of_markFirst {p : CompId → Bool} {l : List ScanEntry} {e : ScanEntry} (h : e ∈ markFirst p l)
    (hr : e.reading = true) : e ∈ l ∨ p e.comp = true := by
  induction l with
  | nil => exact .inl h
  | cons x xs ih =>
    unfold markFirst at h
    split at h
    · next hx =>
      obtain rfl | h := List.mem_cons.mp h
      · exact .inr hx
      · exact .inl (List.mem_cons_of_mem _ h)
    · obtain rfl | h := List.mem_cons.mp h
      · exact .inl List.mem_cons_self
      · exact (ih h).imp (List.mem_cons_of_mem _) id

/-- Of a list with no read one entry at most is marked, and one is where one can be. -/
theorem markFirst_marks {p : CompId → Bool} {l : List ScanEntry} (h : ∀ e ∈ l, e.reading = false) :
    ((markFirst p l).filter ScanEntry.reading).length ≤ 1
      ∧ ((∃ e ∈ l, p e.comp = true) → ∃ e ∈ markFirst p l, e.reading = true) := by
  induction l with
  | nil => exact ⟨by simp [markFirst], fun ⟨e, he, _⟩ => by cases he⟩
  | cons x xs ih =>
    have hxs : ∀ e ∈ xs, e.reading = false := fun e he => h e (List.mem_cons_of_mem _ he)
    obtain ⟨h1, h2⟩ := ih hxs
    unfold markFirst
    split
    · refine ⟨?_, fun _ => ⟨_, List.mem_cons_self, rfl⟩⟩
      rw [List.filter_cons_of_pos rfl, List.filter_eq_nil_iff.mpr fun e he => by simp [hxs e he]]
      rfl
    · next hx =>
      refine ⟨?_, ?_⟩
      · rwa [List.filter_cons_of_neg (by simp [h x List.mem_cons_self])]
      · rintro ⟨e, he, hp⟩
        obtain rfl | he := List.mem_cons.mp he
        · exact absurd hp hx
        · obtain ⟨e', he', hr⟩ := h2 ⟨e, he, hp⟩
          exact ⟨e', List.mem_cons_of_mem _ he', hr⟩

theorem ListKept.mem {s t : State} (h : ListKept s t) {e : ScanEntry} (he : e ∈ t.scanner.list) :
    ∃ e' ∈ s.scanner.list, e'.comp = e.comp := by
  have hm := List.mem_map_of_mem (f := ScanEntry.unread) he
  rw [h.1] at hm
  obtain ⟨e', he', hu⟩ := List.mem_map.mp hm
  exact ⟨e', he', (congrArg ScanEntry.comp hu : e'.unread.comp = e.unread.comp)⟩

theorem ListKept.mem_left {s t : State} (h : ListKept s t) {e : ScanEntry} (he : e ∈ s.scanner.list) :
    ∃ e' ∈ t.scanner.list, e'.comp = e.comp := by
  have hm := List.mem_map_of_mem (f := ScanEntry.unread) he
  rw [← h.1] at hm
  obtain ⟨e', he', hu⟩ := List.mem_map.mp hm
  exact ⟨e', he', (congrArg ScanEntry.comp hu : e'.unread.comp = e.unread.comp)⟩

/-- The next read begins: the law holds but for a sweep that may have ended (R42). -/
theorem State.Scanned.startRead {s : State} (h : s.Scanned none) : s.startRead.Scanned none
    ∧ ((∃ e ∈ s.startRead.scanner.list, (s.startRead.comp e.comp).door.readable = true)
      → ∃ e ∈ s.startRead.scanner.list, e.reading = true) := by
  obtain ⟨hkept, hframe⟩ := s.startRead_kept
  have hcomp : ∀ n, s.startRead.comp n = s.comp n := fun n => by rw [hframe]; rfl
  have hcs : s.startRead.compartments = s.compartments := by rw [hframe]
  have comps : ∀ l : List ScanEntry, l.map ScanEntry.comp = (l.map ScanEntry.unread).map ScanEntry.comp :=
    fun l => by rw [List.map_map]; rfl
  have classes : ∀ l : List ScanEntry, (l.Pairwise fun a b => a.cls = .sweep → b.cls = .sweep)
      ↔ (l.map ScanEntry.unread).Pairwise fun a b => a.cls = .sweep → b.cls = .sweep :=
    fun l => by rw [List.pairwise_map]; rfl
  have marks : (s.startRead.scanner.list.filter ScanEntry.reading).length ≤ 1
      ∧ (∀ e ∈ s.startRead.scanner.list, e.reading = true → (s.comp e.comp).door.readable = true)
      ∧ ((∃ e ∈ s.scanner.list, (s.comp e.comp).door.readable = true)
        → ∃ e ∈ s.startRead.scanner.list, e.reading = true) := by
    by_cases hr : s.scanner.list.any (·.reading) = true
    · rw [State.startRead, if_pos hr]
      exact ⟨h.one, h.readable, fun _ => List.any_eq_true.mp hr⟩
    · have hno : ∀ e ∈ s.scanner.list, e.reading = false := by simpa using hr
      rw [State.startRead, if_neg hr]
      obtain ⟨h1, h2⟩ := markFirst_marks (p := fun n => (s.comp n).door.readable) hno
      refine ⟨h1, fun e he her => ?_, h2⟩
      obtain hm | hm := mem_of_markFirst he her
      · rw [hno e hm] at her; cases her
      · exact hm
  obtain ⟨hone, hreadable, hreads⟩ := marks
  refine ⟨⟨h.latch.of_eq hcs, ?_, ?_, fun e he => ?_, fun n hn _ => ?_, hone, fun e he hr => ?_, fun n hn => by cases hn⟩,
    ?_⟩
  · rw [comps, hkept.1, ← comps]; exact h.nodup
  · rw [classes, hkept.1, ← classes]; exact h.order
  · obtain ⟨e', he', hu⟩ := hkept.mem he
    rw [hcomp, ← hu]
    exact h.unlocked e' he'
  · rw [hcomp] at hn
    obtain ⟨e, he, rfl⟩ := h.listed n hn (by simp)
    obtain ⟨e', he', hu⟩ := hkept.mem_left he
    exact ⟨e', he', hu⟩
  · rw [hcomp]; exact hreadable e he hr
  · rintro ⟨e, he, hr⟩
    rw [hcomp] at hr
    obtain ⟨e', he', hu⟩ := hkept.mem he
    rw [← hu] at hr
    exact hreads ⟨e', he', hr⟩

/-- The compartments, and the scan list but for the sweep in progress, are the same. -/
structure SameLocks (s t : State) : Prop where
  compartments : t.compartments = s.compartments
  list : t.scanner.list = s.scanner.list

theorem State.Scanned.of_locks {s t : State} {x : Option CompId} (h : s.Scanned x) (g : SameLocks s t) : t.Scanned x := by
  have hcomp : ∀ n, t.comp n = s.comp n := fun n => by rw [State.comp, g.compartments]; rfl
  obtain ⟨h1, h2, h3, h4, h5, h6, h7, h8⟩ := h
  refine ⟨h1.of_eq g.compartments, ?_, ?_, ?_, ?_, ?_, ?_, ?_⟩ <;> simp only [hcomp, g.list] <;> assumption

/-- The sweep condition and the next read restore the whole law (R42, R43, R45). -/
theorem State.Scanned.scanStep {s : State} (h : s.Scanned none) : s.scanStep.CabinetOk := by
  have hsweep : SameLocks s s.sweepCheck := by
    rw [State.sweepCheck_eq]
    split <;> exact ⟨rfl, rfl⟩
  obtain ⟨h1, h2⟩ := (h.of_locks hsweep).startRead
  refine h1.cabinetOk h2 ?_
  obtain ⟨hkept, hframe⟩ := s.sweepCheck.startRead_kept
  intro hs
  change s.sweepCheck.startRead.scanner.sweeping = true at hs
  refine hkept.sweep_iff.mpr ?_
  rw [hframe] at hs
  have hs : s.sweepCheck.scanner.sweeping = true := hs
  rw [State.sweepCheck_eq] at hs ⊢
  split at hs
  · cases hs
  · next hno =>
    rw [if_neg hno]
    simpa [hs] using hno

/-! ### Doors that move (R17) -/

/-- A door state `d` that compartment `n` may take while the scan list stays as it is: the one it has, or, from one in
which it is not read, one that does not ask for an entry, or the one the scan list gives a closed door. -/
def State.DoorMove (s : State) (n : CompId) (d : DoorState) : Prop :=
  d = (s.comp n).door ∨ (s.comp n).door.readable = false ∧ (d ≠ .locked ∧ d ≠ .scanning ∨ d = s.lockedDoor n)

theorem Scanner.holds_iff {sc : Scanner} {n : CompId} : sc.holds n = true ↔ ∃ e ∈ sc.list, e.comp = n := by
  simp [Scanner.holds]

theorem State.lockedDoor_scanning {s : State} {n : CompId} (h : s.lockedDoor n = .scanning) :
    ∃ e ∈ s.scanner.list, e.comp = n := by
  unfold State.lockedDoor at h
  split at h
  · next hh => exact Scanner.holds_iff.mp hh
  · cases h

theorem State.lockedDoor_locked {s : State} {n : CompId} (h : s.lockedDoor n = .locked) :
    ∀ e ∈ s.scanner.list, e.comp ≠ n := by
  unfold State.lockedDoor at h
  split at h
  · cases h
  · next hh => exact fun e he hn => hh (Scanner.holds_iff.mpr ⟨e, he, hn⟩)

theorem State.Scanned.of_doors {s t : State} {x : Option CompId} (h : s.Scanned x) (hl : t.LatchOk)
    (hs : t.scanner.list = s.scanner.list) (hd : ∀ n, s.DoorMove n (t.comp n).door) : t.Scanned x := by
  obtain ⟨-, hnd, hord, hun, hli, hone, hre, hap⟩ := h
  have stays : ∀ n, (s.comp n).door.readable = true → (t.comp n).door = (s.comp n).door := fun n hr =>
    (hd n).resolve_right fun hno => by rw [hr] at hno; cases hno.1
  refine ⟨hl, hs ▸ hnd, hs ▸ hord, fun e he => ?_, fun n hn hx => ?_, hs ▸ hone, fun e he hr => ?_, fun n hn => ?_⟩
  · rw [hs] at he
    obtain hsame | ⟨-, hfree | hlock⟩ := hd e.comp
    · rw [hsame]; exact hun e he
    · exact hfree.1
    · rw [hlock]; exact fun hlocked => s.lockedDoor_locked hlocked e he rfl
  · rw [hs]
    obtain hsame | ⟨-, hfree | hlock⟩ := hd n
    · exact hli n (hsame ▸ hn) hx
    · exact absurd hn hfree.2
    · exact State.lockedDoor_scanning (hlock ▸ hn)
  · rw [hs] at he
    have hr' := hre e he hr
    rw [stays _ hr']
    exact hr'
  · obtain ⟨hr, hno⟩ := hap n hn
    rw [stays n hr, hs]
    exact ⟨hr, hno⟩

/-- Where no door becomes readable, a read need not begin (R42). -/
theorem State.CabinetOk.of_unread {s t : State} (h : s.CabinetOk) (ht : t.Scanned none) (hs : t.scanner = s.scanner)
    (hd : ∀ n, (t.comp n).door.readable = true → (s.comp n).door.readable = true) : t.CabinetOk := by
  obtain ⟨-, -, -, -, -, -, -, hreads, hsweep⟩ := h
  refine ht.cabinetOk ?_ (State.SweepGoesOn.of_scanner hsweep hs)
  rw [hs]
  rintro ⟨e, he, hr⟩
  exact hreads ⟨e, he, hd _ hr⟩

end Sys2Proof.Machine
end

section
/-! SUPPORT. The law within an event through the operations of the cabinet: releases taken, ended and opened, doors that
open and close, and scan requests (R20-R31, R40-R45). -/

namespace Sys2Proof.Machine

/-! ### Operations that disturb neither doors nor scan list -/

/-- The scan list, the queue, the channels and every door and release are the same, and the same windows run. -/
structure Undisturbed (s t : State) : Prop where
  scanner : t.scanner = s.scanner
  queue : t.compartments.queue = s.compartments.queue
  channel1 : t.compartments.channel1 = s.compartments.channel1
  channel2 : t.compartments.channel2 = s.compartments.channel2
  door : ∀ n, (t.comp n).door = (s.comp n).door
  window : ∀ n, (t.comp n).window.isSome = (s.comp n).window.isSome
  release : ∀ n, (t.comp n).release = (s.comp n).release

theorem Undisturbed.of_eq {s t : State} (hc : t.compartments = s.compartments) (hs : t.scanner = s.scanner) :
    Undisturbed s t := by
  have hcomp : ∀ n, t.comp n = s.comp n := fun n => by rw [State.comp, hc]; rfl
  refine ⟨hs, ?_, ?_, ?_, ?_, ?_, ?_⟩ <;> simp only [hcomp, hc, implies_true]

theorem Undisturbed.refl (s : State) : Undisturbed s s := .of_eq rfl rfl

theorem Undisturbed.trans {s t u : State} (h : Undisturbed s t) (g : Undisturbed t u) : Undisturbed s u :=
  ⟨g.scanner.trans h.scanner, g.queue.trans h.queue, g.channel1.trans h.channel1, g.channel2.trans h.channel2,
    fun n => (g.door n).trans (h.door n), fun n => (g.window n).trans (h.window n),
    fun n => (g.release n).trans (h.release n)⟩

theorem Undisturbed.foldl {α : Type} {f : State → α → State} (hf : ∀ s a, Undisturbed s (f s a)) (l : List α)
    (s : State) : Undisturbed s (l.foldl f s) := by
  induction l generalizing s with
  | nil => exact .refl s
  | cons a l ih => exact (hf s a).trans (ih _)

theorem Undisturbed.modifyComp {s : State} {n : CompId} {f : Compartment → Compartment}
    (hd : (f (s.comp n)).door = (s.comp n).door) (hw : (f (s.comp n)).window.isSome = (s.comp n).window.isSome)
    (hr : (f (s.comp n)).release = (s.comp n).release) : Undisturbed s (s.modifyComp n f) := by
  have split : ∀ {α : Type} (g : Compartment → α), g (f (s.comp n)) = g (s.comp n) →
      ∀ m, g ((s.modifyComp n f).comp m) = g (s.comp m) := fun g hg m => by
    by_cases e : n = m
    · subst e; rw [State.modifyComp_comp_self]; exact hg
    · rw [State.modifyComp_comp_ne _ _ e]
  exact ⟨rfl, rfl, rfl, rfl, split _ hd, split (·.window.isSome) hw, split _ hr⟩

theorem Undisturbed.latchOk {s t : State} (g : Undisturbed s t) (h : s.LatchOk) : t.LatchOk :=
  h.of_held g.queue g.channel1 g.channel2 fun n =>
    ⟨by rw [g.door], by rw [g.door], g.window n, fun _ => g.release n⟩

theorem State.Scanned.undisturbed {s t : State} {x : Option CompId} (h : s.Scanned x) (g : Undisturbed s t) :
    t.Scanned x :=
  h.of_doors (g.latchOk h.latch) (by rw [g.scanner]) fun n => .inl (g.door n)

theorem State.CabinetOk.undisturbed {s t : State} (h : s.CabinetOk) (g : Undisturbed s t) : t.CabinetOk :=
  h.of_unread (h.scanned.undisturbed g) g.scanner fun n hn => g.door n ▸ hn

/-- A change of every compartment that touches neither door nor release, and stops or starts no window. -/
theorem Undisturbed.map {s t : State} {f : Compartment → Compartment}
    (hf : ∀ c, (f c).door = c.door ∧ (f c).window.isSome = c.window.isSome ∧ (f c).release = c.release)
    (ht : t.compartments = { s.compartments with table := s.compartments.table.map f }) (hs : t.scanner = s.scanner) :
    Undisturbed s t := by
  have hc : ∀ n, t.comp n = f (s.comp n) := fun n => by rw [State.comp, ht]; exact Table.get_map _ _ _
  refine ⟨hs, by rw [ht], by rw [ht], by rw [ht], fun n => ?_, fun n => ?_, fun n => ?_⟩ <;> rw [hc]
  · exact (hf _).1
  · exact (hf _).2.1
  · exact (hf _).2.2

theorem State.reexamine_undisturbed (s : State) (m : Nat) (k : KeyId) : Undisturbed s (s.reexamine m k) := by
  rw [s.reexamine_frame]
  exact .of_eq rfl rfl

theorem State.reexamineAll_undisturbed (s : State) (m : Nat) (ks : List KeyId) :
    Undisturbed s (s.reexamineAll m ks) := by
  obtain ⟨x, hx⟩ := s.reexamineAll_frame m ks
  rw [hx]
  exact .of_eq rfl rfl

theorem State.enter_undisturbed (s : State) (b : NoticeBody) : Undisturbed s (s.enter b) := .of_eq rfl rfl

theorem State.moveKey_undisturbed (s : State) (k : KeyId) (l : Location) : Undisturbed s (s.moveKey k l) := by
  cases h : s.key k with
  | none => rw [State.moveKey_none h]; exact .refl s
  | some r =>
    obtain ⟨u, hu, ⟨m, -, -, rfl⟩ | ⟨-, rfl | rfl⟩⟩ := State.moveKey_cases h l <;> rw [hu]
    · exact (Undisturbed.modifyComp (n := m) rfl rfl rfl).trans (.of_eq rfl rfl)
    · exact .of_eq rfl rfl
    · exact .of_eq rfl rfl

theorem State.modifyContract_undisturbed (s : State) (x : Nat) (f : Contract → Contract) :
    Undisturbed s (s.modifyContract x f) := by
  rw [State.modifyContract_frame]
  exact .of_eq rfl rfl

theorem State.closeContract_undisturbed (s : State) (x : Nat) (r : Route) (m : Option Nat) (n : Option CompId) :
    Undisturbed s (s.closeContract x r m n) := by
  rw [State.closeContract_frame]
  exact .of_eq rfl rfl

/-! ### Releases (R20-R24, R30) -/

/-- Compartment `n` gave up its channel, and its door took a state the scan list allows. -/
theorem State.Scanned.regranted {s t : State} {x : Option CompId} {n : CompId} (h : s.Scanned x)
    (hd : (s.comp n).door = .unlatched) (hr : Regranted s t n) (hs : t.scanner.list = s.scanner.list)
    (hmove : s.DoorMove n (t.comp n).door) (hn : ¬ (t.comp n).door.latched) (hw : (t.comp n).window = none) :
    t.Scanned x := by
  have hwait := h.latch.2.2.2.1
  refine h.of_doors (h.latch.regranted hd hr hn hw) hs fun m => ?_
  by_cases e : m = n
  · subst e; exact hmove
  · rw [hr.2.2.2 m e]
    split
    · next hj =>
      have hm : (s.comp m).door = .waiting := (hwait m).mp (List.mem_of_mem_head? hj)
      exact .inr ⟨by rw [hm]; rfl, .inl ⟨by simp, by simp⟩⟩
    · exact .inl rfl

theorem State.Scanned.dropped {s t : State} {x : Option CompId} {n : CompId} (h : s.Scanned x)
    (hd : (s.comp n).door.latched) (hr : ReleaseDropped s t n) (hs : t.scanner.list = s.scanner.list) :
    t.Scanned x := by
  have hunread : (s.comp n).door.readable = false := by obtain e | e := hd <;> rw [e] <;> rfl
  have hlocked : (t.comp n).door = s.lockedDoor n := by rw [hr.1]; rfl
  refine h.of_doors (h.latch.dropped hd hr) hs fun m => ?_
  by_cases e : m = n
  · subst e; exact .inr ⟨hunread, .inr hlocked⟩
  · obtain hd | hd := hd
    · obtain ⟨-, -, -, hm⟩ := hr.2.1 hd
      exact .inl (by rw [hm m e])
    · obtain ⟨-, -, -, hm⟩ := hr.2.2 hd
      rw [hm m e]
      split
      · next hj =>
        have hm : (s.comp m).door = .waiting := (h.latch.2.2.2.1 m).mp (List.mem_of_mem_head? hj)
        exact .inr ⟨by rw [hm]; rfl, .inl ⟨by simp, by simp⟩⟩
      · exact .inl rfl

theorem State.endRelease_scanner (s : State) (n : CompId) (o : ReleaseOutcome) (named : CompId) :
    (s.endRelease n o named).scanner = s.scanner := (s.endRelease_compartments n o named).2.1

theorem State.arbitrate_scanner (s : State) : s.arbitrate.scanner = s.scanner := by
  obtain ⟨x, hx⟩ := s.arbitrate_frame
  rw [hx]
  rfl

theorem State.windowEnded_scanner (s : State) (n : CompId) : (s.windowEnded n).scanner = s.scanner := by
  rw [State.windowEnded, State.endRelease_scanner, State.arbitrate_scanner]
  rfl

theorem State.cancelRelease_scanner {s t : State} {n named : CompId} (h : s.cancelRelease n named = some t) :
    t.scanner = s.scanner ∧ (s.comp n).door.latched := by
  obtain ⟨hno, hw, hu⟩ := s.cancelRelease_cases n named
  by_cases h1 : (s.comp n).door = .waiting
  · obtain rfl := Option.some.inj ((hw h1).symm.trans h)
    exact ⟨State.endRelease_scanner _ _ _ _, .inl h1⟩
  · by_cases h2 : (s.comp n).door = .unlatched
    · obtain rfl := Option.some.inj ((hu h2).symm.trans h)
      exact ⟨(State.endRelease_scanner _ _ _ _).trans (State.arbitrate_scanner _), .inr h2⟩
    · rw [hno h1 h2] at h; cases h

theorem State.Scanned.windowEnded {s : State} {n : CompId} (h : s.Scanned none) (hd : (s.comp n).door = .unlatched) :
    (s.windowEnded n).Scanned none :=
  h.dropped (.inr hd) (State.windowEnded_dropped h.latch hd) (by rw [State.windowEnded_scanner])

theorem State.Scanned.cancelRelease {s t : State} {x : Option CompId} {n named : CompId} (h : s.Scanned x)
    (ht : s.cancelRelease n named = some t) : t.Scanned x := by
  obtain ⟨hs, hd⟩ := State.cancelRelease_scanner ht
  exact h.dropped hd (State.cancelRelease_dropped h.latch ht) (by rw [hs])

theorem State.Scanned.cancelReturn {s : State} {x : Option CompId} (h : s.Scanned x) (number : Nat) :
    (s.cancelReturn number).Scanned x := by
  unfold State.cancelReturn
  split
  · exact h
  · split
    · next ht => exact h.cancelRelease ht
    · exact h.undisturbed (.modifyComp rfl rfl rfl)

theorem State.Scanned.withdrawPromise {s : State} {x : Option CompId} (h : s.Scanned x) (k : KeyId)
    (scanned : Option CompId) : (s.withdrawPromise k scanned).Scanned x := by
  have hk : ∀ f, (s.modifyKey k f).Scanned x := fun f => h.undisturbed (.of_eq rfl rfl)
  unfold State.withdrawPromise
  split
  · exact h
  dsimp only
  split
  · exact hk _
  · next m _ =>
    cases hc : State.cancelRelease _ m (scanned.getD m) with
    | none => exact hk _
    | some t => exact (hk _).cancelRelease hc

/-- A release that is taken makes no door readable (R20). -/
theorem State.CabinetOk.requestRelease {s t : State} {n : CompId} {r : Release} (h : s.CabinetOk)
    (ht : s.requestRelease n r = .ok t) : t.CabinetOk := by
  have hlen : s.compartments.queue.length < 16 := by
    by_contra hl
    obtain ⟨hw, hf, -⟩ := s.requestRelease_refused n r
    by_cases hc : (s.comp n).service = .inService ∧ (s.comp n).door = .locked
    · rw [hf hc (by omega)] at ht; cases ht
    · rw [hw hc] at ht; cases ht
  have hr := State.requestRelease_taken h.1 ht
  obtain ⟨hd, he⟩ := State.requestRelease_ok ht
  have hs : t.scanner = s.scanner := by rw [he, State.arbitrate_scanner]; rfl
  have hdoor : (t.comp n).door.latched := by
    obtain ⟨-, h1, h2, h3⟩ := hr
    by_cases c1 : s.compartments.channel1 = none
    · obtain ⟨hn, -⟩ := h1 c1
      exact .inr (by rw [hn])
    by_cases c2 : s.compartments.channel2 = none
    · obtain ⟨hn, -⟩ := h2 c1 c2
      exact .inr (by rw [hn])
    · obtain ⟨hn, -⟩ := h3 c1 c2
      exact .inl (by rw [hn])
  have hother : ∀ m, m ≠ n → t.comp m = s.comp m := hr.1
  refine h.of_unread (h.scanned.of_doors (h.1.taken hd hlen hr) (by rw [hs]) fun m => ?_) hs fun m hm => ?_
  · by_cases e : m = n
    · subst e
      refine .inr ⟨by rw [hd]; rfl, .inl ?_⟩
      obtain e | e := hdoor <;> rw [e] <;> simp
    · exact .inl (by rw [hother m e])
  · by_cases e : m = n
    · subst e
      obtain e | e := hdoor <;> rw [e] at hm <;> cases hm
    · rwa [hother m e] at hm

/-- The end of the release of a door that is neither held nor waited for (R18, R19). -/
theorem State.Scanned.endRelease {s : State} {x : Option CompId} {n : CompId} (h : s.Scanned x)
    (hd : ¬ (s.comp n).door.latched) (o : ReleaseOutcome) (named : CompId) : (s.endRelease n o named).Scanned x := by
  obtain ⟨hc, hs, -⟩ := s.endRelease_compartments n o named
  have hcomp : ∀ m, (s.endRelease n o named).comp m = if m = n then (s.comp n).withoutRelease else s.comp m :=
    fun m => by
      rw [State.comp, hc]
      split
      · next e => subst e; exact Table.get_modify_self _ _ _
      · next e => exact Table.get_modify_ne _ _ (Ne.symm e)
  have held : ∀ m, Held (s.comp m) ((s.endRelease n o named).comp m) ∧
      ((s.endRelease n o named).comp m).door = (s.comp m).door := fun m => by
    rw [hcomp]
    split
    · next e => subst e; exact ⟨.outside hd hd rfl, rfl⟩
    · exact ⟨.refl _, rfl⟩
  exact h.of_doors (h.latch.of_held (by rw [hc]) (by rw [hc]) (by rw [hc]) fun m => (held m).1) (by rw [hs])
    fun m => .inl (held m).2

/-! ### Doors that open (R23, R25) -/

theorem State.tellOpened_locks (s : State) (n : CompId) (r : Release) : Undisturbed s (s.tellOpened n r) := by
  unfold State.tellOpened
  split <;> exact .of_eq rfl rfl

theorem State.Scanned.openUnder {s : State} {n : CompId} (h : s.Scanned none) (hd : (s.comp n).door = .unlatched) :
    (s.openUnder n).Scanned none := by
  have hu : ∀ c : Nat, (((s.freeChannel n).modifyComp n fun c' =>
      { c' with door := .opened, hold := some c }).arbitrate).Scanned none := fun c => by
    obtain ⟨hr, hn⟩ := State.freed_regranted h.latch hd fun c' => { c' with door := .opened, hold := some c }
    refine h.regranted hd hr (by rw [State.arbitrate_scanner]; rfl) ?_ ?_ ?_ <;> rw [hn]
    · exact .inr ⟨by rw [hd]; rfl, .inl ⟨by simp, by simp⟩⟩
    · simp [DoorState.latched]
  unfold State.openUnder
  dsimp only
  split
  · exact (hu _).undisturbed (State.tellOpened_locks _ _ _)
  · exact hu _

/-- The entry of compartment `n` has left the list: its door asks for none, or it is the compartment to be reconciled. -/
theorem State.Scanned.without {s t : State} {x : Option CompId} {n : CompId} (h : s.Scanned none) (hl : t.LatchOk)
    (hs : t.scanner.list = s.scanner.without n) (hm : ∀ m, m ≠ n → (t.comp m).door = (s.comp m).door)
    (hx : x = none ∧ (t.comp n).door ≠ .scanning ∨ x = some n ∧ (t.comp n).door.readable = true) : t.Scanned x := by
  have hmem : ∀ e, e ∈ t.scanner.list ↔ e ∈ s.scanner.list ∧ e.comp ≠ n := fun e => by
    rw [hs, Scanner.without, List.mem_filter, bne_iff_ne]
  have hsub : t.scanner.list.Sublist s.scanner.list := hs ▸ List.filter_sublist
  refine ⟨hl, h.nodup.sublist (hsub.map _), h.order.sublist hsub, fun e he => ?_, fun m hd hne => ?_,
    (hsub.filter _).length_le.trans h.one, fun e he hr => ?_, fun m hxm => ?_⟩
  · obtain ⟨he, hn⟩ := (hmem e).mp he
    rw [hm _ hn]
    exact h.unlocked e he
  · have hmn : m ≠ n := by
      rintro rfl
      obtain ⟨-, hno⟩ | ⟨hxs, -⟩ := hx
      · exact hno hd
      · exact hne hxs
    rw [hm m hmn] at hd
    obtain ⟨e, he, rfl⟩ := h.listed m hd (by simp)
    exact ⟨e, (hmem e).mpr ⟨he, hmn⟩, rfl⟩
  · obtain ⟨he, hn⟩ := (hmem e).mp he
    rw [hm _ hn]
    exact h.readable e he hr
  · obtain ⟨hxn, -⟩ | ⟨hxs, hread⟩ := hx
    · rw [hxn] at hxm; cases hxm
    · obtain rfl : n = m := Option.some.inj (hxs.symm.trans hxm)
      exact ⟨hread, fun e he => ((hmem e).mp he).2⟩

/-- The record of a forced opening, with its flag and its notice, before its entry or its request is dropped. -/
theorem State.forced_record (s : State) (n : CompId) (b : NoticeBody) :
    (((s.modifyComp n fun c => { c with door := .forcedOpen, forced := true }).enter b).comp n)
        = { s.comp n with door := .forcedOpen, forced := true }
      ∧ ∀ m, m ≠ n →
        (((s.modifyComp n fun c => { c with door := .forcedOpen, forced := true }).enter b).comp m) = s.comp m :=
  ⟨State.modifyComp_comp_self _ _ _, fun _ hm => State.modifyComp_comp_ne _ _ (Ne.symm hm)⟩

/-- A door that opens without a grant: its entry leaves the list, or its request the queue (R25). -/
theorem State.Scanned.forceOpen {s : State} {n : CompId} (h : s.Scanned none) (hd : (s.comp n).door = .locked
    ∨ (s.comp n).door = .waiting ∨ (s.comp n).door = .scanning ∨ (s.comp n).door = .unknown) :
    (s.forceOpen n).Scanned none := by
  have hwin : (s.comp n).window = none := h.latch.window_none (by obtain e | e | e | e := hd <;> rw [e] <;> decide)
  unfold State.forceOpen
  dsimp only
  generalize ({ kind := .forcedDoor, minute := s.present, comp := some n
                contract := (s.comp n).release.bind fun r => r.purpose.contract? } : NoticeBody) = b
  obtain ⟨hself, hother⟩ := s.forced_record n b
  have hbasis : ∀ u, u = (s.modifyComp n fun c => { c with door := .forcedOpen, forced := true }).enter b →
      u.scanner = s.scanner ∧ u.compartments.queue = s.compartments.queue
        ∧ u.compartments.channel1 = s.compartments.channel1 ∧ u.compartments.channel2 = s.compartments.channel2 := by
    rintro _ rfl
    exact ⟨rfl, rfl, rfl, rfl⟩
  generalize hu : (s.modifyComp n fun c => { c with door := .forcedOpen, forced := true }).enter b = u at *
  obtain ⟨hscan, hq, h1, h2⟩ := hbasis u rfl
  have hnot : ¬ (u.comp n).door.latched := by rw [hself]; simp [DoorState.latched]
  have hdoors : ∀ m, m ≠ n → (u.comp m).door = (s.comp m).door := fun m hm => by rw [hother m hm]
  have free : ¬ (s.comp n).door.latched → u.LatchOk := fun hno =>
    h.latch.of_held hq h1 h2 fun m => by
      by_cases e : m = n
      · subst e
        exact .outside hno hnot (by rw [hself])
      · rw [hother m e]; exact .refl _
  have unlisted : ¬ (s.comp n).door.latched → (u.withdrawEntry n).Scanned none := fun hno =>
    h.without ((free hno).of_eq rfl) (by rw [← hscan]; rfl) hdoors
      (.inl ⟨rfl, fun e => by rw [show (u.withdrawEntry n).comp n = u.comp n from rfl, hself] at e; cases e⟩)
  obtain hd | hd | hd | hd := hd <;> rw [hd] <;> dsimp only
  · refine h.of_doors (free (by rw [hd]; simp [DoorState.latched])) (congrArg _ hscan) fun m => ?_
    by_cases e : m = n
    · subst e
      exact .inr ⟨by rw [hd]; rfl, .inl (by rw [hself]; simp)⟩
    · exact .inl (hdoors m e)
  · have hw : (u.comp n).window = none := by rw [hself]; exact hwin
    have hl : (u.withCompartments { u.compartments with
        queue := u.compartments.queue.filter (· != n) }).LatchOk :=
      h.latch.dequeued hd (by rw [← hq]; rfl) h1 h2 hother hnot hw
    have hopen : (u.withCompartments { u.compartments with
        queue := u.compartments.queue.filter (· != n) }).Scanned none := by
      refine h.of_doors hl (congrArg _ hscan) fun m => ?_
      by_cases e : m = n
      · subst e
        refine .inr ⟨by rw [hd]; rfl, .inl ?_⟩
        change (u.comp m).door ≠ .locked ∧ (u.comp m).door ≠ .scanning
        rw [hself]; simp
      · exact .inl (hdoors m e)
    exact hopen.endRelease hnot .cancelled n
  · exact unlisted (by rw [hd]; simp [DoorState.latched])
  · exact unlisted (by rw [hd]; simp [DoorState.latched])

end Sys2Proof.Machine
end

section
/-! SUPPORT. The law within an event through scan requests, closings and a read's reconciliation (R28, R40-R53). -/

namespace Sys2Proof.Machine

/-! ### Entries that join the list (R28, R41) -/

theorem Scanner.mem_without {sc : Scanner} {n : CompId} {e : ScanEntry} :
    e ∈ sc.without n ↔ e ∈ sc.list ∧ e.comp ≠ n := by
  rw [Scanner.without, List.mem_filter, bne_iff_ne]

/-- Compartment `n` gets an unread entry, in the place of one it may have held. -/
theorem State.Scanned.entered {s t : State} {x : Option CompId} {n : CompId} {e : ScanEntry} (h : s.Scanned x)
    (hx : x ≠ some n) (hl : t.LatchOk) (hperm : t.scanner.list.Perm (e :: s.scanner.without n)) (hcomp : e.comp = n)
    (hread : e.reading = false) (hord : t.scanner.list.Pairwise fun a b => a.cls = .sweep → b.cls = .sweep)
    (hdoor : (t.comp n).door ≠ .locked) (hm : ∀ m, m ≠ n → (t.comp m).door = (s.comp m).door) : t.Scanned x := by
  have hmem : ∀ a, a ∈ t.scanner.list ↔ a = e ∨ a ∈ s.scanner.list ∧ a.comp ≠ n := fun a => by
    rw [hperm.mem_iff, List.mem_cons, Scanner.mem_without]
  have hsub : (s.scanner.without n).Sublist s.scanner.list := List.filter_sublist
  refine ⟨hl, ?_, hord, fun a ha => ?_, fun m hd hne => ?_, ?_, fun a ha hr => ?_, fun m hxm => ?_⟩
  · rw [(hperm.map _).nodup_iff, List.map_cons, List.nodup_cons, hcomp]
    refine ⟨fun hn => ?_, h.nodup.sublist (hsub.map _)⟩
    obtain ⟨a, ha, hac⟩ := List.mem_map.mp hn
    exact (Scanner.mem_without.mp ha).2 hac
  · obtain rfl | ⟨ha, hac⟩ := (hmem a).mp ha
    · rw [hcomp]; exact hdoor
    · rw [hm _ hac]; exact h.unlocked a ha
  · by_cases hmn : m = n
    · exact ⟨e, (hmem e).mpr (.inl rfl), hcomp.trans hmn.symm⟩
    · rw [hm m hmn] at hd
      obtain ⟨a, ha, rfl⟩ := h.listed m hd hne
      exact ⟨a, (hmem a).mpr (.inr ⟨ha, hmn⟩), rfl⟩
  · rw [(hperm.filter _).length_eq, List.filter_cons_of_neg (by simp [hread])]
    exact (hsub.filter _).length_le.trans h.one
  · obtain rfl | ⟨ha, hac⟩ := (hmem a).mp ha
    · rw [hread] at hr; cases hr
    · rw [hm _ hac]; exact h.readable a ha hr
  · obtain ⟨hr, hno⟩ := h.apart m hxm
    have hmn : m ≠ n := fun e => hx (e ▸ hxm)
    refine ⟨by rwa [hm m hmn], fun a ha => ?_⟩
    obtain rfl | ⟨ha, -⟩ := (hmem a).mp ha
    · rw [hcomp]; exact Ne.symm hmn
    · exact hno a ha

theorem Scanner.without_eq {sc : Scanner} {n : CompId} (h : sc.holds n = false) : sc.without n = sc.list := by
  refine List.filter_eq_self.mpr fun e he => ?_
  have : ¬ ∃ e ∈ sc.list, e.comp = n := fun hc => by rw [Scanner.holds_iff.mpr hc] at h; cases h
  simpa using fun hn => this ⟨e, he, hn⟩

/-- A SWEEP request for any compartment but the one being reconciled (R41). -/
theorem State.Scanned.requestSweep {s : State} {x : Option CompId} {n : CompId} (h : s.Scanned x) (hx : x ≠ some n) :
    (s.requestSweep n).Scanned x := by
  unfold State.requestSweep
  split
  · exact h
  next hno =>
  have hno : s.scanner.holds n = false := by simpa using hno
  dsimp only
  -- the list with the new entry
  generalize ht : (if (s.comp n).door = .locked then
      (s.withScanner { s.scanner with list := s.scanner.list ++ [⟨n, .sweep, .nothing, false⟩] }).modifyComp n
        fun c => { c with door := .scanning }
    else s.withScanner { s.scanner with list := s.scanner.list ++ [⟨n, .sweep, .nothing, false⟩] }) = t
  have hlist : t.scanner.list = s.scanner.list ++ [⟨n, .sweep, .nothing, false⟩] := by
    subst ht; split <;> rfl
  have hother : ∀ m, m ≠ n → t.comp m = s.comp m := fun m hm => by
    subst ht
    split
    · exact State.modifyComp_comp_ne _ _ (Ne.symm hm)
    · rfl
  have hself : (t.comp n).door ≠ .locked ∧ Held (s.comp n) (t.comp n) := by
    subst ht
    split
    · next hd =>
      rw [State.modifyComp_comp_self]
      exact ⟨by simp, .outside (by rw [hd]; simp [DoorState.latched]) (by simp [DoorState.latched]) rfl⟩
    · next hd => exact ⟨hd, .refl _⟩
  have hbasis : t.compartments.queue = s.compartments.queue ∧ t.compartments.channel1 = s.compartments.channel1
      ∧ t.compartments.channel2 = s.compartments.channel2 := by
    subst ht; split <;> exact ⟨rfl, rfl, rfl⟩
  obtain ⟨hq, h1, h2⟩ := hbasis
  refine h.entered (e := ⟨n, .sweep, .nothing, false⟩) hx (h.latch.of_held hq h1 h2 fun m => ?_) ?_ rfl rfl ?_ hself.1
    fun m hm => by rw [hother m hm]
  · by_cases e : m = n
    · subst e; exact hself.2
    · rw [hother m e]; exact .refl _
  · rw [hlist, Scanner.without_eq hno]
    exact List.perm_append_comm
  · rw [hlist]
    exact List.pairwise_append.mpr ⟨h.order, List.pairwise_singleton _ _, fun a _ b hb _ => by
      rw [List.mem_singleton.mp hb]⟩

theorem State.Scanned.requestSweeps {s : State} (h : s.Scanned none) (l : List CompId) :
    (l.foldl State.requestSweep s).Scanned none := by
  induction l generalizing s with
  | nil => exact h
  | cons n l ih => exact ih (h.requestSweep (by simp))

theorem State.Scanned.sweepAll {s : State} (h : s.Scanned none) : s.sweepAll.Scanned none := by
  unfold State.sweepAll
  exact (h.requestSweeps _).of_locks ⟨rfl, rfl⟩

/-- A closing: an entry at the tail of the DOOR class (R28, R41). -/
theorem State.Scanned.closeDoor {s : State} {n : CompId} (h : s.Scanned none)
    (hd : (s.comp n).door = .opened ∨ (s.comp n).door = .leftOpen ∨ (s.comp n).door = .forcedOpen) :
    (s.closeDoor n).Scanned none := by
  have hno : ¬ (s.comp n).door.latched := by obtain e | e | e := hd <;> rw [e] <;> simp [DoorState.latched]
  have hself : (s.closeDoor n).comp n = { s.comp n with door := .scanning, hold := none } :=
    State.modifyComp_comp_self _ _ _
  have hother : ∀ m, m ≠ n → (s.closeDoor n).comp m = s.comp m := fun m hm =>
    State.modifyComp_comp_ne _ _ (Ne.symm hm)
  have hlist : (s.closeDoor n).scanner.list = (s.scanner.without n).filter (·.cls == .door)
      ++ [⟨n, .door, (s.comp n).carriedAtClosing, false⟩] ++ (s.scanner.without n).filter (·.cls == .sweep) := rfl
  refine h.entered (by simp) (h.latch.of_held rfl rfl rfl fun m => ?_)
    (e := ⟨n, .door, (s.comp n).carriedAtClosing, false⟩) ?_ rfl rfl ?_ (by rw [hself]; simp)
    fun m hm => by rw [hother m hm]
  · by_cases e : m = n
    · subst e
      rw [hself]
      exact .outside hno (by simp [DoorState.latched]) rfl
    · rw [hother m e]; exact .refl _
  · have hcls : (s.scanner.without n).filter (·.cls == .sweep)
        = (s.scanner.without n).filter fun e => !(e.cls == .door) := by
      congr 1
      funext e
      cases e.cls <;> rfl
    rw [hlist, hcls, List.append_assoc, List.singleton_append]
    exact List.perm_middle.trans ((List.filter_append_perm _ _).cons _)
  · rw [hlist, List.append_assoc, List.pairwise_append]
    have hsweep : ∀ e ∈ (s.scanner.without n).filter (·.cls == .sweep), e.cls = .sweep := fun e he => by
      simpa using (List.mem_filter.mp he).2
    refine ⟨?_, ?_, ?_⟩
    · refine List.pairwise_of_forall_mem_list fun a ha b _ ha' => ?_
      have : a.cls = .door := by simpa using (List.mem_filter.mp ha).2
      rw [this] at ha'; cases ha'
    · exact List.pairwise_cons.mpr ⟨fun b hb _ => hsweep b hb,
        List.pairwise_of_forall_mem_list fun a _ b hb _ => hsweep b hb⟩
    · intro a ha b _ ha'
      have : a.cls = .door := by simpa using (List.mem_filter.mp ha).2
      rw [this] at ha'; cases ha'

/-- The hold's end (R27). -/
theorem State.CabinetOk.leftOpen {s : State} {n : CompId} (h : s.CabinetOk) (hd : (s.comp n).door = .opened) :
    (s.modifyComp n fun c => { c with door := .leftOpen, hold := none }).CabinetOk := by
  have hself : (s.modifyComp n fun c => { c with door := .leftOpen, hold := none }).comp n
      = { s.comp n with door := .leftOpen, hold := none } := State.modifyComp_comp_self _ _ _
  have hother : ∀ m, m ≠ n → (s.modifyComp n fun c => { c with door := .leftOpen, hold := none }).comp m = s.comp m :=
    fun m hm => State.modifyComp_comp_ne _ _ (Ne.symm hm)
  refine h.of_unread (h.scanned.of_doors (h.1.of_held rfl rfl rfl fun m => ?_) rfl fun m => ?_) rfl fun m hm => ?_
  all_goals by_cases e : m = n
  · subst e
    rw [hself]
    exact .outside (by rw [hd]; simp [DoorState.latched]) (by simp [DoorState.latched]) rfl
  · rw [hother m e]; exact .refl _
  · subst e
    exact .inr ⟨by rw [hd]; rfl, .inl (by rw [hself]; simp)⟩
  · exact .inl (by rw [hother m e])
  · subst e
    rw [hself] at hm; cases hm
  · rwa [hother m e] at hm

end Sys2Proof.Machine
end

section
/-! SUPPORT. The cabinet's law through a read's reconciliation, the drop box, the key and the contract messages
(R31, R43-R53, R61-R80, R103-R108). -/

namespace Sys2Proof.Machine

/-! ### Writes outside the cabinet -/

theorem State.modifyKey_undisturbed (s : State) (k : KeyId) (f : KeyRecord → KeyRecord) :
    Undisturbed s (s.modifyKey k f) := .of_eq rfl rfl

theorem State.modifySlot_undisturbed (s : State) (sl : Slot) (f : Contract → Contract) :
    Undisturbed s (s.modifySlot sl f) := .of_eq rfl rfl

theorem State.withContracts_undisturbed (s : State) (x : ContractTable) : Undisturbed s (s.withContracts x) :=
  .of_eq rfl rfl

theorem State.withKeys_undisturbed (s : State) (x : KeyTable) : Undisturbed s (s.withKeys x) := .of_eq rfl rfl

theorem State.dropCode_undisturbed (s : State) (sl : Slot) : Undisturbed s (s.dropCode sl) := .of_eq rfl rfl

/-! ### Service (R31) -/

theorem State.Scanned.outOfService {s : State} {x : Option CompId} (h : s.Scanned x) (n : CompId) :
    (s.outOfService n).Scanned x := by
  unfold State.outOfService
  split
  · exact h
  · exact (h.undisturbed (.modifyComp rfl rfl rfl)).undisturbed (State.reexamineAll_undisturbed _ _ _)

theorem State.Scanned.backInService {s : State} (h : s.Scanned none) (n : CompId) :
    (s.backInService n).Scanned none := by
  unfold State.backInService
  split
  · exact h
  · exact (h.undisturbed (.modifyComp rfl rfl rfl)).requestSweep (by simp)

/-! ### A read's reconciliation (R46-R53) -/

theorem State.handoutDone_undisturbed (s : State) (i : ScanInput) (x : Nat) (k : KeyId) :
    Undisturbed s (s.handoutDone i x k) := by
  unfold State.handoutDone
  split
  · exact .refl s
  next sl _ =>
  dsimp only
  have h : Undisturbed s ((((s.modifySlot sl fun c =>
      { c with state := .out, handoutMinute := i.minute }).dropCode sl).moveKey k (.out x)).enter
        { kind := .handoutDone, minute := i.minute, comp := some i.comp, key := some k, contract := some x }) :=
    (((s.modifySlot_undisturbed sl _).trans (State.dropCode_undisturbed _ _)).trans
      (State.moveKey_undisturbed _ _ _)).trans (State.enter_undisturbed _ _)
  split
  · split
    · exact h
    · exact h.trans (State.reexamine_undisturbed _ _ _)
  · exact h

theorem State.keyGone_undisturbed (s : State) (i : ScanInput) (k : KeyId) : Undisturbed s (s.keyGone i k) := by
  have moved : ∀ l b, Undisturbed s ((s.moveKey k l).enter b) := fun l b =>
    (s.moveKey_undisturbed k l).trans (State.enter_undisturbed _ b)
  unfold State.keyGone
  dsimp only
  split
  · split
    · exact s.handoutDone_undisturbed _ _ _
    · exact moved _ _
  all_goals exact moved _ _

theorem State.step1_undisturbed (s : State) (i : ScanInput) : Undisturbed s (s.step1 i) :=
  .foldl (fun t k => t.keyGone_undisturbed i k) _ s

theorem State.Scanned.keyFound {s : State} {i : ScanInput} (h : s.Scanned (some i.comp)) (log : FoundLog) (k : KeyId) :
    (s.keyFound i log k).1.Scanned (some i.comp) := by
  have moved : ∀ {t : State}, t.Scanned (some i.comp) → (t.moveKey k (.compartment i.comp)).Scanned (some i.comp) :=
    fun ht => ht.undisturbed (State.moveKey_undisturbed _ _ _)
  have closed : ∀ x r, (s.closeContract x r i.minute (some i.comp)).Scanned (some i.comp) := fun x r =>
    h.undisturbed (State.closeContract_undisturbed _ _ _ _ _)
  unfold State.keyFound
  split
  · exact h
  · split
    · exact moved (closed _ _)
    · exact moved ((closed _ _).cancelReturn _)
  · split
    · exact h
    · next hm => exact ((moved h).requestSweep fun e => hm (Option.some.inj e).symm).withdrawPromise _ _
  all_goals exact moved h

theorem State.Scanned.step2 {s : State} {i : ScanInput} (h : s.Scanned (some i.comp)) :
    (s.step2 i).1.Scanned (some i.comp) := by
  have fold : ∀ (l : List KeyId) (p : State × FoundLog), p.1.Scanned (some i.comp) →
      (l.foldl (fun p k => p.1.keyFound i p.2 k) p).1.Scanned (some i.comp) := by
    intro l
    induction l with
    | nil => exact fun _ hp => hp
    | cons k l ih => exact fun p hp => ih _ (hp.keyFound p.2 k)
  exact fold _ _ h

theorem State.step3_undisturbed (s : State) (i : ScanInput) : Undisturbed s (s.step3 i) :=
  .foldl (fun t _ => t.enter_undisturbed _) _ s

theorem State.step5_undisturbed (s : State) (i : ScanInput) : Undisturbed s (s.step5 i) := by
  unfold State.step5
  split
  · rw [State.fallBack_frame]; exact .of_eq rfl rfl
  · exact .refl s

theorem State.step6_undisturbed (s : State) (i : ScanInput) : Undisturbed s (s.step6 i) := by
  unfold State.step6
  split
  · rw [State.returnFailed_frame]; exact .of_eq rfl rfl
  · exact .refl s

theorem State.step8_undisturbed (s : State) (log : FoundLog) : Undisturbed s (s.step8 log) := by
  refine .foldl (fun t p => ?_) _ s
  unfold State.markReturned
  split
  · exact .refl t
  · split
    · exact .of_eq rfl rfl
    · exact .refl t

/-- The compartment that was reconciled is LOCKED again (R52). -/
theorem State.Scanned.locked {s : State} {n : CompId} {f : Compartment → Compartment} (h : s.Scanned (some n))
    (hd : (f (s.comp n)).door = .locked) (hw : (f (s.comp n)).window = (s.comp n).window) :
    (s.modifyComp n f).Scanned none := by
  obtain ⟨hread, hfree⟩ := h.apart n rfl
  have hself : (s.modifyComp n f).comp n = f (s.comp n) := State.modifyComp_comp_self _ _ _
  have hother : ∀ m, m ≠ n → (s.modifyComp n f).comp m = s.comp m := fun m hm =>
    State.modifyComp_comp_ne _ _ (Ne.symm hm)
  have hdoor : ∀ e ∈ s.scanner.list, (s.modifyComp n f).comp e.comp = s.comp e.comp := fun e he => hother _ (hfree e he)
  refine ⟨h.latch.of_held rfl rfl rfl fun m => ?_, h.nodup, h.order, fun e he => ?_, fun m hm _ => ?_, h.one,
    fun e he hr => ?_, fun m hm => by cases hm⟩
  · by_cases e : m = n
    · subst e
      rw [hself]
      refine .outside (fun hl => ?_) (by rw [hd]; simp [DoorState.latched]) (by rw [hw])
      obtain e | e := hl <;> rw [e] at hread <;> cases hread
    · rw [hother m e]; exact .refl _
  · rw [hdoor e he]; exact h.unlocked e he
  · by_cases e : m = n
    · subst e
      rw [hself, hd] at hm; cases hm
    · rw [hother m e] at hm
      exact h.listed m hm fun e' => e (Option.some.inj e').symm
  · rw [hdoor e he]; exact h.readable e he hr

theorem State.Scanned.reconcile {s : State} {i : ScanInput} (h : s.Scanned (some i.comp)) :
    (s.reconcile i).Scanned none := by
  have h4 : (s.sorted i).Scanned (some i.comp) :=
    ((h.undisturbed (s.step1_undisturbed i)).step2.undisturbed (State.step3_undisturbed _ i)).undisturbed
      (.modifyComp rfl rfl rfl)
  have h6 := (h4.undisturbed (State.step5_undisturbed _ i)).undisturbed (State.step6_undisturbed _ i)
  have h7 : (((s.sorted i).step5 i).step6 i |>.step7 i.comp).Scanned none := by
    unfold State.step7
    dsimp only
    split
    · exact (h6.undisturbed (State.modifyKey_undisturbed _ _ _)).locked
        (f := fun c => { c with release := none, reservation := none, door := .locked }) rfl rfl
    · exact h6.locked (f := fun c => { c with release := none, reservation := none, door := .locked }) rfl rfl
  rw [State.reconcile_eq]
  exact (h7.undisturbed (State.step8_undisturbed _ _)).undisturbed (State.reexamineAll_undisturbed _ _ _)

theorem State.Scanned.completeRead {s : State} (h : s.Scanned none) (n : CompId) (tags : List Nat) :
    (s.completeRead n tags).Scanned none := by
  obtain he | ⟨e, he, rfl, hr, hs⟩ := s.completeRead_cases n tags
  · rw [he]; exact h
  · rw [hs]
    have hread : (s.withdrawEntry e.comp).Scanned (some e.comp) :=
      h.without (h.latch.of_eq rfl) rfl (fun _ _ => rfl) (.inr ⟨rfl, h.readable e he hr⟩)
    exact State.Scanned.reconcile
      (i := ⟨e.comp, foundList tags, (s.comp e.comp).contents, s.present, _⟩) hread

/-! ### The drop box (R103-R108) -/

theorem State.keyDropped_undisturbed (s : State) (k : KeyId) : Undisturbed s (s.keyDropped k) :=
  (s.moveKey_undisturbed k .drop).trans (.of_eq rfl rfl)

theorem State.Scanned.dropReturn {s : State} (h : s.Scanned none) (k : KeyId) (x : Nat) (m : Option Nat) :
    (s.dropReturn k x m).Scanned none := by
  unfold State.dropReturn
  exact (((h.undisturbed (State.closeContract_undisturbed _ _ _ _ _)).cancelReturn x).undisturbed
    (State.keyDropped_undisturbed _ _)).undisturbed (State.reexamine_undisturbed _ _ _)

theorem State.Scanned.dropOther {s : State} (h : s.Scanned none) (k : KeyId) (l : Location) :
    (s.dropOther k l).Scanned none := by
  have h1 := h.undisturbed (s.keyDropped_undisturbed k)
  unfold State.dropOther
  dsimp only
  split
  · next m => exact ((h1.requestSweep (by simp)).withdrawPromise _ _).undisturbed (State.reexamineAll_undisturbed _ _ _)
  all_goals exact h1

theorem State.Scanned.dropKey {s : State} (h : s.Scanned none) (tag : Nat) (k : KeyId) (m : Option Nat) :
    (s.dropKey tag k m).Scanned none := by
  have appended : ∀ e, (s.appendDrop e).Scanned none := fun e => h.undisturbed (.of_eq rfl rfl)
  unfold State.dropKey
  split
  · exact h
  · exact (appended _).dropReturn _ _ _
  · exact (appended _).dropOther _ _

theorem State.enterFull_undisturbed (s : State) (m : Option Nat) : Undisturbed s (s.enterFull m) := by
  unfold State.enterFull
  split
  · exact .of_eq rfl rfl
  · exact .refl s

theorem State.Scanned.chute {s : State} (h : s.Scanned none) (tag : Option Nat) : (s.chute tag).Scanned none := by
  have appended : ∀ e m t r, (((s.appendDrop e).enterForeign m t r).enterFull m).Scanned none := fun e m t r =>
    (h.undisturbed (t := (s.appendDrop e).enterForeign m t r) (.of_eq rfl rfl)).undisturbed
      (State.enterFull_undisturbed _ m)
  unfold State.chute
  dsimp only
  split
  · exact h.undisturbed (.of_eq rfl rfl)
  split
  · exact appended _ _ _ _
  split
  · exact h
  split
  · exact appended _ _ _ _
  · exact (h.dropKey _ _ _).undisturbed (State.enterFull_undisturbed _ _)

theorem State.clearDrop_undisturbed (s : State) : Undisturbed s s.clearDrop := by
  obtain ⟨x, hx⟩ := State.takeAllFromDrop_frame s (s.drop.entries.filterMap DropEntry.key)
  unfold State.clearDrop
  rw [hx]
  exact .of_eq rfl rfl

/-! ### Keys (R8-R13) -/

theorem State.Scanned.enrol {s : State} (h : s.Scanned none) (k : KeyId) (tag : Nat) (f : KeyFields) :
    (s.enrol k tag f).Scanned none := by
  unfold State.enrol
  exact (h.undisturbed (State.withKeys_undisturbed _ _)).requestSweeps _

theorem State.editKey_undisturbed (s : State) (k : KeyId) (r : KeyRecord) (f : KeyFields) :
    Undisturbed s (s.editKey k r f) := by
  unfold State.editKey
  dsimp only
  split <;> exact .of_eq rfl rfl

theorem State.holdKey_undisturbed (s : State) (k : KeyId) (r : KeyRecord) (b : Bool) :
    Undisturbed s (s.holdKey k r b) := by
  unfold State.holdKey
  split
  · exact .refl s
  · exact (s.modifyKey_undisturbed k _).trans (State.reexamine_undisturbed _ _ _)

theorem State.checkKey_undisturbed (s : State) (k : KeyId) (r : KeyRecord) : Undisturbed s (s.checkKey k r) := by
  unfold State.checkKey
  split
  · exact .refl s
  · exact (s.modifyKey_undisturbed k _).trans (State.reexamine_undisturbed _ _ _)

/-! ### Contracts (R61-R80, R121-R129) -/

theorem State.reexamineClaim_undisturbed (s : State) (e : Entitlement) : Undisturbed s (s.reexamineClaim e) := by
  unfold State.reexamineClaim
  split
  · exact s.reexamine_undisturbed _ _
  · exact .refl s

theorem State.addCode_undisturbed (s : State) (sl : Slot) (x : Option Nat) : Undisturbed s (s.addCode sl x) := by
  unfold State.addCode
  split <;> exact .of_eq rfl rfl

theorem State.issue_undisturbed (s : State) (sl : Slot) (c : Contract) : Undisturbed s (s.issue sl c) := by
  unfold State.issue
  exact ((s.withContracts_undisturbed _).trans (State.addCode_undisturbed _ _ _)).trans
    (State.reexamineClaim_undisturbed _ _)

theorem State.resetTier_undisturbed (s : State) (sl : Slot) (m : Nat) : Undisturbed s (s.resetTier sl m) := by
  unfold State.resetTier
  split
  · exact .refl s
  · dsimp only
    split <;> exact .of_eq rfl rfl

theorem State.amend_undisturbed (s : State) (sl : Slot) (c : Contract) (a : Amendment) :
    Undisturbed s (s.amend sl c a) := by
  have h : Undisturbed s ((s.modifySlot sl a.applyTo).changeCode sl a.code) := by
    unfold State.changeCode
    split
    · exact .of_eq rfl rfl
    · exact ((s.modifySlot_undisturbed sl _).trans (State.dropCode_undisturbed _ _)).trans
        (State.addCode_undisturbed _ _ _)
  unfold State.amend
  dsimp only
  split
  · exact h.trans (State.resetTier_undisturbed _ _ _)
  · exact h

theorem State.voidTicket_undisturbed (s : State) (sl : Slot) (c : Contract) : Undisturbed s (s.voidTicket sl c) :=
  ((s.modifySlot_undisturbed sl _).trans (State.dropCode_undisturbed _ _)).trans
    (State.reexamineClaim_undisturbed _ _)

theorem State.Scanned.forceClose {s : State} (h : s.Scanned none) (c : Contract) : (s.forceClose c).Scanned none := by
  have h1 := (h.undisturbed (s.closeContract_undisturbed c.number .forceClosed s.present none)).cancelReturn c.number
  unfold State.forceClose
  dsimp only
  split
  · exact (h1.undisturbed (State.moveKey_undisturbed _ _ _)).undisturbed (State.reexamine_undisturbed _ _ _)
  · exact h1

/-- A pickup that starts, or that is undone (R68). -/
theorem State.CabinetOk.startPickup {s t : State} (h : s.CabinetOk) {x : Nat} {k : KeyId} {o : Origin}
    (ht : (∃ n, s.startPickup x k o = .started n t) ∨ s.startPickup x k o = .undone t) : t.CabinetOk := by
  have placed : ∀ g, Undisturbed s ((s.promised x k g).modifyContract x (Contract.toPicking k g)) := fun g =>
    Undisturbed.trans (t := s.promised x k g) (.of_eq rfl rfl) (State.modifyContract_undisturbed _ _ _)
  obtain e | ⟨r, n, -, -, -, ⟨u, hu, e⟩ | e⟩ := s.startPickup_cases x k o <;> rw [e] at ht <;>
    obtain ⟨m, hm⟩ | hm := ht <;> cases hm
  · exact (h.undisturbed (placed _)).requestRelease hu
  · exact h.undisturbed ((((placed _).trans (State.modifyContract_undisturbed _ _ _)).trans
      (State.modifyKey_undisturbed _ k _)).trans (State.reexamine_undisturbed _ _ _))

/-- A tag at the pad takes a return, or is refused with nothing changed (R75, R76). -/
theorem State.CabinetOk.answerTag {s : State} (h : s.CabinetOk) (tag : Nat) : (s.answerTag tag).2.CabinetOk := by
  by_cases ht : ∃ n, (s.answerTag tag).1 = .taken n
  · obtain ⟨n, hn⟩ := ht
    obtain ⟨x, k, u, -, hu, he⟩ := State.answerTag_taken (n := n) (t := (s.answerTag tag).2) (Prod.ext hn rfl)
    rw [he]
    exact (h.requestRelease hu).undisturbed (State.modifyContract_undisturbed _ _ _)
  · have hs : (s.answerTag tag).2 = s := by
      unfold State.answerTag at ht ⊢
      split
      · rfl
      split
      · rfl
      split
      · rfl
      · simp_all
    rw [hs]
    exact h

theorem State.lapse_undisturbed (s : State) (sl : Slot) (m : Nat) : Undisturbed s (s.lapse sl m) := by
  have h : Undisturbed s ((s.modifySlot sl fun c => { c with state := .lapsed }).dropCode sl) := .of_eq rfl rfl
  unfold State.lapse
  split
  · exact .refl s
  · dsimp only
    refine Undisturbed.trans ?_ (State.enter_undisturbed _ _)
    split
    · exact h.trans (State.reexamine_undisturbed _ _ _)
    · exact h

theorem State.tierStep_undisturbed (s : State) (sl : Slot) (m : Nat) : Undisturbed s (s.tierStep sl m) := by
  unfold State.tierStep
  split
  · exact .refl s
  · dsimp only
    split <;> exact .of_eq rfl rfl

theorem State.reminderStep_undisturbed (s : State) (sl : Slot) (m : Nat) : Undisturbed s (s.reminderStep sl m) := by
  unfold State.reminderStep
  split
  · exact .refl s
  · dsimp only
    split
    · exact .refl s
    split
    · exact .of_eq rfl rfl
    split <;> exact .of_eq rfl rfl

theorem State.visitSlot_undisturbed (s : State) (sl : Slot) (m : Nat) : Undisturbed s (s.visitSlot sl m) := by
  unfold State.visitSlot
  split
  · exact .refl s
  · split
    case h_1 | h_2 => exact (s.tierStep_undisturbed sl m).trans (State.reminderStep_undisturbed _ _ _)
    case h_3 | h_4 =>
      split
      · exact s.lapse_undisturbed sl m
      · exact .refl s
    all_goals exact .refl s

/-! ### Flags and timers (R26, R183) -/

theorem State.clearForced_undisturbed (s : State) : Undisturbed s s.clearForced :=
  .map (f := fun c => { c with forced := false }) (fun _ => ⟨rfl, rfl, rfl⟩) rfl rfl

theorem State.countAll_undisturbed (s : State) : Undisturbed s s.countAll :=
  .map (f := Compartment.tick) (fun _ => ⟨rfl, Option.isSome_map, rfl⟩) rfl rfl

end Sys2Proof.Machine
end

section
/-! SUPPORT. What a start leaves of the cabinet: every door as its switch stands, no release, and a SWEEP entry for each
compartment found closed (R38, R39, R44, R55). -/

namespace Sys2Proof.Machine

/-- The entries of the start sweep: the compartments found closed, in number order (R55). -/
def State.closedEntries (s : State) : List ScanEntry :=
  ((fins 192).filter fun n => !s.doorPins.get n).map fun n => ⟨n, .sweep, .nothing, false⟩

/-- The records of a start once the door switches are read: the door and the hold as the switch stands, nothing in
flight and no contents known (R38, R39). -/
theorem State.startTables_switches (s : State) (cold : Bool) (n : CompId) :
    (s.startTables cold).readField.comp n = { (s.startTables cold).readField.comp n with
      door := if s.doorPins.get n then .opened else .unknown
      hold := if s.doorPins.get n then some ((s.startTables cold).store.working.profile.value.hold * 1000) else none
      window := none, release := none, reservation := none, known := false } := by
  have pinned : ∀ (h : Nat) (c : Compartment) (b : Bool), c.hold = none → c.window = none → c.release = none →
      c.reservation = none → c.known = false → c.fromPin h b = { c.fromPin h b with
        door := if b then .opened else .unknown, hold := if b then some (h * 1000) else none
        window := none, release := none, reservation := none, known := false } := by
    rintro h ⟨_, _, _, _, _, _, _, _, _⟩ b rfl rfl rfl rfl rfl
    cases b <;> rfl
  cases cold with
  | true =>
    have hc : (s.startTables true).readField.comp n = Compartment.cold.fromPin
        (s.startTables true).store.working.profile.value.hold (s.doorPins.get n) := by
      change ((Table.replicate 192 Compartment.cold).zipWith (Compartment.fromPin _) s.doorPins).get n = _
      rw [Table.get_zipWith, Table.get_replicate]
    rw [hc]
    exact pinned _ _ _ rfl rfl rfl rfl rfl
  | false =>
    have hc : (s.startTables false).readField.comp n = ({ (s.comp n).atRest with known := false } : Compartment).fromPin
        (s.startTables false).store.working.profile.value.hold (s.doorPins.get n) := by
      change ((((s.compartments.table.map Compartment.atRest).map fun c => { c with known := false }).zipWith
        (Compartment.fromPin _) s.doorPins)).get n = _
      rw [Table.get_zipWith, Table.get_map, Table.get_map]
      rfl
    rw [hc]
    exact pinned _ _ _ rfl rfl rfl rfl rfl

theorem State.startTables_latches (s : State) (cold : Bool) :
    (s.startTables cold).readField.compartments.queue = []
      ∧ (s.startTables cold).readField.compartments.channel1 = none
      ∧ (s.startTables cold).readField.compartments.channel2 = none := by
  cases cold <;> exact ⟨rfl, rfl, rfl⟩

/-- The start sweep queues the compartments found closed and begins the first read (R55). -/
theorem State.startSweep_list (b : State) : b.startSweep.scanner.list
    = markFirst (fun n => (b.comp n).door.readable) b.closedEntries := by
  have hcl : (b.doorPins.places fun isOpen => !isOpen).map (fun n => (⟨n, .sweep, .nothing, false⟩ : ScanEntry))
      = b.closedEntries := by
    rw [Table.places_eq]; rfl
  unfold State.startSweep State.startRead
  rw [hcl, if_neg (by simp [State.closedEntries])]
  rfl

theorem State.closedEntries_eq_nil {s : State} : s.closedEntries = [] ↔ s.doorPins.rows.all id = true := by
  rw [State.closedEntries, List.map_eq_nil_iff, List.filter_eq_nil_iff, Table.rows_eq, List.all_map, List.all_eq_true]
  simp

/-- The start sweep after its notices: still in progress unless no compartment was found closed (R45). -/
theorem State.startNotices_scanner (b : State) {l : List ScanEntry} (hall : (∀ e ∈ l, e.cls ≠ .sweep)
    ↔ b.doorPins.rows.all id = true) (cold m visit : Bool) (entries : Nat) :
    (if visit = true
      then ((b.withScanner { list := l, sweeping := true }).startNotices cold m).enterEmptied .start entries
      else (b.withScanner { list := l, sweeping := true }).startNotices cold m).sweepCheck.scanner
      = { list := l, sweeping := !b.doorPins.rows.all id } := by
  generalize hv : (if visit = true
      then ((b.withScanner { list := l, sweeping := true }).startNotices cold m).enterEmptied .start entries
      else (b.withScanner { list := l, sweeping := true }).startNotices cold m) = v
  have hs : v.scanner = { list := l, sweeping := true } := by
    rw [State.startNotices_eq] at hv
    subst hv
    split <;> rfl
  rw [State.sweepCheck_eq, hs]
  by_cases hp : b.doorPins.rows.all id = true
  · rw [if_pos ⟨rfl, hall.mpr hp⟩, hp]; rfl
  · rw [if_neg fun h => hp (hall.mp h.2), hs, Bool.eq_false_iff.mpr hp]; rfl

/-- A start's scan list: the closed compartments, with the first read begun; the sweep is in progress unless no
compartment was found closed (R45, R55). -/
theorem State.start_scanner (s : State) (cold m : Bool) : (s.start cold m).scanner
    = { list := markFirst (fun n => ((s.start cold m).comp n).door.readable) s.closedEntries
        sweeping := !s.doorPins.rows.all id } := by
  have hcomp : ∀ n, (s.start cold m).comp n = ((s.startTables cold).readField.readStaffDoor cold).comp n :=
    (State.start_same cold m s).comp
  have hpins : ((s.startTables cold).readField.readStaffDoor cold).doorPins = s.doorPins := by
    obtain ⟨fl, d, hd⟩ := (s.startTables cold).readField.readStaffDoor_eq cold
    rw [hd]
    cases cold <;> rfl
  simp only [hcomp]
  clear hcomp
  unfold State.start
  dsimp only
  generalize hu : (if cold = true then s.endFlight.readStore.emptyTables else s.endFlight.readStore.rollBackTables) = u
  obtain rfl : s.startTables cold = u := hu
  generalize (s.startTables cold).readField.readStaffDoor cold = b at hpins
  obtain ⟨l, hsweep, hall⟩ := b.startSweep_eq
  have hl := b.startSweep_list
  rw [hsweep] at hl ⊢
  rw [(State.transmit_same _ _).scanner, (State.attend_same _).scanner]
  refine (State.startNotices_scanner b hall cold m _ _).trans ?_
  rw [hpins, State.closedEntries, ← hpins]
  exact congrArg (Scanner.mk · _) hl

/-- A start leaves every door as its switch stands, and nothing in flight (R38, R39). -/
theorem State.start_comp (s : State) (cold m : Bool) (n : CompId) :
    (s.start cold m).comp n = { (s.start cold m).comp n with
      door := if s.doorPins.get n then .opened else .unknown
      hold := if s.doorPins.get n then some ((s.startTables cold).store.working.profile.value.hold * 1000) else none
      window := none, release := none, reservation := none, known := false } := by
  obtain ⟨-, -, -, hc, -⟩ := s.start_tables cold m _ rfl
  have hcomp : (s.start cold m).comp n = (s.startTables cold).readField.comp n := by rw [State.comp, hc]; rfl
  rw [hcomp]
  exact s.startTables_switches cold n

theorem State.start_latches (s : State) (cold m : Bool) : (s.start cold m).compartments.queue = []
    ∧ (s.start cold m).compartments.channel1 = none ∧ (s.start cold m).compartments.channel2 = none := by
  obtain ⟨-, -, -, hc, -⟩ := s.start_tables cold m _ rfl
  rw [hc]
  exact s.startTables_latches cold

/-- A start makes the cabinet's law anew (R38, R39, R55). -/
theorem State.start_cabinet (s : State) (cold m : Bool) : (s.start cold m).CabinetOk := by
  have hdoor : ∀ n, ((s.start cold m).comp n).door = if s.doorPins.get n then .opened else .unknown := fun n => by
    rw [s.start_comp cold m n]
  have hwindow : ∀ n, ((s.start cold m).comp n).window = none := fun n => by rw [s.start_comp cold m n]
  have hscan := s.start_scanner cold m
  obtain ⟨hq, h1, h2⟩ := s.start_latches cold m
  generalize s.start cold m = t at hdoor hwindow hscan hq h1 h2
  have hunlatched : ∀ n, (t.comp n).door ≠ .unlatched ∧ (t.comp n).door ≠ .waiting ∧ (t.comp n).door ≠ .scanning
      ∧ (t.comp n).door ≠ .locked := fun n => by
    rw [hdoor]; cases s.doorPins.get n <;> simp
  have hlat : t.LatchOk := by
    unfold State.LatchOk
    rw [hq, h1, h2]
    refine ⟨fun n => iff_of_false (hunlatched n).1 (by simp), fun n => ?_, by simp, fun n => ?_, List.nodup_nil, by simp,
      .nil, fun _ => rfl⟩
    · rw [hwindow]; exact iff_of_false (by simp) (hunlatched n).1
    · exact iff_of_false (by simp) (hunlatched n).2.1
  have hunread : ∀ e ∈ s.closedEntries, e.reading = false ∧ e.cls = .sweep := fun e he => by
    obtain ⟨n, -, rfl⟩ := List.mem_map.mp he
    exact ⟨rfl, rfl⟩
  -- the same state before its first read
  have hbefore : (t.withScanner ⟨s.closedEntries, t.scanner.sweeping⟩).Scanned none := by
    refine ⟨hlat.of_eq rfl, ?_, ?_, fun e _ => (hunlatched e.comp).2.2.2, fun n hn => absurd hn (hunlatched n).2.2.1, ?_,
      fun e he hr => ?_, fun n hn => by cases hn⟩
    · change (s.closedEntries.map ScanEntry.comp).Nodup
      rw [State.closedEntries, List.map_map]
      exact (((fins_eq 192).symm ▸ List.nodup_finRange 192).filter _).map fun _ _ h => h
    · exact List.pairwise_of_forall_mem_list fun a _ b hb _ => (hunread b hb).2
    · change (s.closedEntries.filter _).length ≤ 1
      rw [List.filter_eq_nil_iff.mpr fun e he => by simp [(hunread e he).1]]
      exact Nat.zero_le _
    · rw [(hunread e he).1] at hr; cases hr
  obtain ⟨hmarked, hreads⟩ := hbefore.startRead
  have hread : (t.withScanner ⟨s.closedEntries, t.scanner.sweeping⟩).startRead = t := by
    have hsc : t.scanner = ⟨markFirst (fun n => (t.comp n).door.readable) s.closedEntries, t.scanner.sweeping⟩ := by
      rw [hscan]
    unfold State.startRead
    rw [if_neg (by simpa using fun e he => (hunread e he).1)]
    exact congrArg t.withScanner hsc.symm
  rw [hread] at hmarked hreads
  refine hmarked.cabinetOk hreads fun hs => ?_
  rw [hscan] at hs ⊢
  have hne : s.closedEntries ≠ [] := fun he => by
    rw [State.closedEntries_eq_nil.mp he] at hs; cases hs
  obtain ⟨e, he⟩ := List.exists_mem_of_ne_nil _ hne
  have hm := List.mem_map_of_mem (f := ScanEntry.unread) he
  rw [← markFirst_unread fun n => (t.comp n).door.readable] at hm
  obtain ⟨e', he', hu⟩ := List.mem_map.mp hm
  exact ⟨e', he', (congrArg ScanEntry.cls hu : e'.unread.cls = e.unread.cls).trans (hunread e he).2⟩

end Sys2Proof.Machine
end

section
/-! SUPPORT. The ends of events and what each request takes keep the cabinet's law (R43, R160, R172). -/

namespace Sys2Proof.Machine

/-! ### The ends of events -/

theorem Undisturbed.of_same {s t : State} (h : SameBasis s t) : Undisturbed s t := .of_eq h.compartments h.scanner

theorem State.attend_undisturbed (s : State) : Undisturbed s s.attend := .of_same s.attend_same

theorem State.transmit_undisturbed (s : State) (b : Bool) : Undisturbed s (s.transmit b) := .of_same (s.transmit_same b)

theorem State.settle_undisturbed (s : State) : Undisturbed s s.settle :=
  s.attend_undisturbed.trans (s.attend.transmit_undisturbed false)

theorem State.pushReply_undisturbed (s : State) (r : Reply) : Undisturbed s (s.pushReply r) := by
  rw [(s.pushReply_sent r).1]
  exact .of_eq rfl rfl

theorem State.CabinetOk.settle {s : State} (h : s.CabinetOk) : s.settle.CabinetOk := h.undisturbed s.settle_undisturbed

theorem State.Scanned.finish {s : State} (h : s.Scanned none) : s.finish.CabinetOk := h.scanStep.settle

theorem State.Scanned.concluded {s : State} (h : s.Scanned none) : s.concluded.CabinetOk :=
  h.scanStep.undisturbed s.scanStep.attend_undisturbed

/-! ### The handlers -/

/-- What a handler takes keeps the cabinet's law. -/
def Keeps (h : Handler) : Prop := ∀ s u, h s = .ok u → s.CabinetOk → u.state.CabinetOk

/-- A handler that takes nothing of the cabinet. -/
theorem Keeps.quiet {h : Handler} (hh : ∀ s u, h s = .ok u → Undisturbed s u.state) : Keeps h :=
  fun s u hu hs => hs.undisturbed (hh s u hu)

theorem Keeps.expect {h : Handler} (hh : Keeps h) (body : List Byte) (n : Nat) : Keeps (expectLength body n h) := by
  intro s u hu
  unfold expectLength at hu
  split at hu
  · exact hh s u hu
  · cases hu

theorem statusHandler_keeps (body : List Byte) : Keeps (statusHandler body) :=
  .expect (.quiet fun s u hu => by cases hu; exact .of_eq rfl rfl) _ _

theorem setClockHandler_keeps (body : List Byte) : Keeps (setClockHandler body) :=
  .expect (.quiet fun s u hu => by cases hu; exact .of_eq rfl rfl) _ _

theorem setModeHandler_keeps (body : List Byte) : Keeps (setModeHandler body) :=
  .expect (.quiet fun s u hu => by
    dsimp only at hu
    split at hu
    · cases hu
    · cases hu; exact .of_eq rfl rfl) _ _

theorem startHandler_keeps (cold : Bool) (body : List Byte) : Keeps (startHandler cold body) :=
  .expect (.quiet fun s u hu => by
    split at hu
    · cases hu
    · cases hu; exact .of_eq rfl rfl) _ _

theorem timebaseHandler_keeps (body : List Byte) : Keeps (timebaseHandler body) :=
  .expect (.quiet fun s u hu => by
    dsimp only at hu
    split at hu
    · cases hu
    split at hu
    · cases hu
    split at hu
    · cases hu
    · cases hu; exact .of_eq rfl rfl) _ _

theorem keyEnrolHandler_keeps (body : List Byte) : Keeps (keyEnrolHandler body) :=
  .expect (fun s u hu hs => by
    dsimp only at hu
    split at hu
    · cases hu
    split at hu
    · cases hu
    split at hu
    · cases hu
    split at hu
    · cases hu
    · cases hu; exact (hs.scanned.enrol _ _ _).concluded) _ _

theorem keyEditHandler_keeps (body : List Byte) : Keeps (keyEditHandler body) :=
  .expect (.quiet fun s u hu => by
    split at hu
    · cases hu
    split at hu
    · cases hu
    · cases hu; exact s.editKey_undisturbed _ _ _) _ _

theorem keyRemoveHandler_keeps (body : List Byte) : Keeps (keyRemoveHandler body) :=
  .expect (.quiet fun s u hu => by
    split at hu
    · cases hu
    split at hu
    · cases hu
    · cases hu
      exact (s.withKeys_undisturbed _).trans (State.attend_undisturbed _)) _ _

theorem keyQueryHandler_keeps (body : List Byte) : Keeps (keyQueryHandler body) :=
  .quiet fun s u hu => by
    unfold keyQueryHandler at hu
    split at hu
    · cases hu
    dsimp only at hu
    split at hu
    · cases hu
    · cases hu; exact .refl s

theorem keyHoldHandler_keeps (body : List Byte) : Keeps (keyHoldHandler body) :=
  .expect (.quiet fun s u hu => by
    split at hu
    · cases hu
    split at hu
    · cases hu
    · cases hu; exact s.holdKey_undisturbed _ _ _) _ _

theorem keyCheckedHandler_keeps (body : List Byte) : Keeps (keyCheckedHandler body) :=
  .expect (.quiet fun s u hu => by
    split at hu
    · cases hu
    · cases hu; exact s.checkKey_undisturbed _ _) _ _

theorem availQueryHandler_keeps (body : List Byte) : Keeps (availQueryHandler body) :=
  .expect (.quiet fun s u hu => by
    split at hu
    · cases hu; exact .refl s
    split at hu
    · cases hu
    · cases hu; exact .refl s) _ _

theorem issueHandler_keeps (body : List Byte) : Keeps (issueHandler body) :=
  .expect (.quiet fun s u hu => by
    split at hu
    · cases hu
    · cases hu
    split at hu
    · cases hu
    split at hu
    · cases hu
    split at hu
    · cases hu
    split at hu
    · cases hu
    · cases hu; exact s.issue_undisturbed _ _) _ _

theorem amendHandler_keeps (body : List Byte) : Keeps (amendHandler body) :=
  .expect (.quiet fun s u hu => by
    dsimp only at hu
    split at hu
    · cases hu
    split at hu
    · cases hu
    split at hu
    · cases hu
    split at hu
    · cases hu
    split at hu
    · cases hu
    split at hu
    · cases hu
    · cases hu
      exact (s.amend_undisturbed _ _ _).trans (State.attend_undisturbed _)) _ _

theorem State.CabinetOk.counterPickup {s : State} (h : s.CabinetOk) {x : Nat} {k : KeyId} {u : Taken}
    (hu : s.counterPickup x k = .ok u) : u.state.CabinetOk := by
  unfold State.counterPickup at hu
  split at hu
  · next ht => cases hu; exact h.startPickup (.inl ⟨_, ht⟩)
  · next ht => cases hu; exact h.startPickup (.inr ht)
  · cases hu

theorem State.CabinetOk.handoutNamed {s : State} (h : s.CabinetOk) {x : Nat} {k : KeyId} {u : Taken}
    (hu : s.handoutNamed x k = .ok u) : u.state.CabinetOk := by
  unfold State.handoutNamed at hu
  split at hu
  · cases hu
  split at hu
  · cases hu
  split at hu
  · exact h.counterPickup hu
  · cases hu

theorem State.CabinetOk.handoutTicket {s : State} (h : s.CabinetOk) {c : Contract} {named : Option KeyId} {u : Taken}
    (hu : s.handoutTicket c named = .ok u) : u.state.CabinetOk := by
  unfold State.handoutTicket at hu
  split at hu
  · exact h.handoutNamed hu
  · exact h.handoutNamed hu
  · split at hu
    · cases hu
    · exact h.counterPickup hu

theorem handoutHandler_keeps (body : List Byte) : Keeps (handoutHandler body) :=
  .expect (fun s u hu hs => by
    dsimp only at hu
    split at hu
    · cases hu
    split at hu
    · cases hu
    split at hu
    · cases hu
    split at hu
    · cases hu
    · exact hs.handoutTicket hu) _ _

theorem cancelHandler_keeps (body : List Byte) : Keeps (cancelHandler body) :=
  .expect (.quiet fun s u hu => by
    split at hu
    · cases hu
    split at hu
    · cases hu
    · cases hu; exact s.voidTicket_undisturbed _ _) _ _

theorem resumeHandler_keeps (body : List Byte) : Keeps (resumeHandler body) :=
  .expect (.quiet fun s u hu => by
    split at hu
    · cases hu
    split at hu
    · cases hu
    · cases hu; exact s.modifySlot_undisturbed _ _) _ _

theorem forceCloseHandler_keeps (body : List Byte) : Keeps (forceCloseHandler body) :=
  .expect (fun s u hu hs => by
    dsimp only at hu
    split at hu
    · cases hu
    split at hu
    · cases hu; exact (hs.scanned.forceClose _).concluded
    · cases hu) _ _

theorem retireHandler_keeps (body : List Byte) : Keeps (retireHandler body) :=
  .expect (.quiet fun s u hu => by
    split at hu
    · cases hu
    split at hu
    · cases hu; exact s.withContracts_undisturbed _
    · cases hu) _ _

theorem contractQueryHandler_keeps (body : List Byte) : Keeps (contractQueryHandler body) :=
  .expect (.quiet fun s u hu => by
    split at hu
    · cases hu
    · cases hu; exact .refl s) _ _

theorem listLateHandler_keeps (body : List Byte) : Keeps (listLateHandler body) :=
  .expect (.quiet fun s u hu => by
    dsimp only at hu
    split at hu
    · cases hu
    · cases hu; exact .refl s) _ _

theorem openHandler_keeps (body : List Byte) : Keeps (openHandler body) :=
  .expect (fun s u hu hs => by
    split at hu
    · cases hu
    split at hu
    · cases hu
    next ht => cases hu; exact hs.requestRelease ht) _ _

theorem cancelReleaseHandler_keeps (body : List Byte) : Keeps (cancelReleaseHandler body) :=
  .expect (fun s u hu hs => by
    split at hu
    · cases hu
    split at hu
    · cases hu
    next ht => cases hu; exact (hs.scanned.cancelRelease ht).concluded) _ _

theorem serviceHandler_keeps (body : List Byte) : Keeps (serviceHandler body) :=
  .expect (fun s u hu hs => by
    split at hu
    · cases hu
    next n hn =>
    split at hu
    · cases hu
    next out hout =>
    split at hu
    · cases hu
      refine State.Scanned.concluded ?_
      split
      · exact hs.scanned.outOfService n
      · exact hs.scanned.backInService n
    · cases hu) _ _

theorem compartmentQueryHandler_keeps (body : List Byte) : Keeps (compartmentQueryHandler body) :=
  .expect (.quiet fun s u hu => by
    split at hu
    · cases hu
    · cases hu; exact .refl s) _ _

theorem rescanHandler_keeps (body : List Byte) : Keeps (rescanHandler body) :=
  .expect (fun s u hu hs => by
    split at hu
    · cases hu; exact hs.scanned.sweepAll.concluded
    split at hu
    · cases hu
    next n hn =>
    split at hu
    · cases hu; exact (hs.scanned.requestSweep (by simp)).concluded
    · cases hu) _ _

theorem dropQueryHandler_keeps (body : List Byte) : Keeps (dropQueryHandler body) :=
  .expect (.quiet fun s u hu => by cases hu; exact .refl s) _ _

theorem State.emptyDrop_undisturbed (s : State) (r : EmptyReason) : Undisturbed s (s.emptyDrop r) :=
  s.clearDrop_undisturbed.trans (State.enter_undisturbed _ _)

theorem dropEmptiedHandler_keeps (body : List Byte) : Keeps (dropEmptiedHandler body) :=
  .expect (.quiet fun s u hu => by
    cases hu
    exact (s.emptyDrop_undisturbed .message).trans (State.attend_undisturbed _)) _ _

theorem fetchHandler_keeps (body : List Byte) : Keeps (fetchHandler body) :=
  .expect (.quiet fun s u hu => by cases hu; exact .refl s) _ _

theorem State.dropNotices_undisturbed (s : State) (n : Nat) : Undisturbed s (s.dropNotices n) := .of_eq rfl rfl

theorem consumeHandler_keeps (body : List Byte) : Keeps (consumeHandler body) :=
  .expect (.quiet fun s u hu => by
    split at hu
    · cases hu
    · cases hu
      exact (s.dropNotices_undisturbed _).trans (State.attend_undisturbed _)) _ _

theorem attentionQueryHandler_keeps (body : List Byte) : Keeps (attentionQueryHandler body) :=
  .expect (.quiet fun s u hu => by cases hu; exact .refl s) _ _

theorem State.acknowledge_undisturbed {s t : State} {code : Nat} (h : s.acknowledge code = .ok t) : Undisturbed s t := by
  unfold State.acknowledge at h
  split at h <;> cases h
  · exact s.clearForced_undisturbed
  · unfold State.answerCall
    dsimp only
    split <;> exact .of_eq rfl rfl
  · exact .of_eq rfl rfl

theorem acknowledgeHandler_keeps (body : List Byte) : Keeps (acknowledgeHandler body) :=
  .expect (.quiet fun s u hu => by
    dsimp only at hu
    split at hu
    · cases hu
    next h => cases hu; exact (State.acknowledge_undisturbed h).trans (State.attend_undisturbed _)) _ _

theorem State.computeForecast_undisturbed (s : State) (m : Nat) : Undisturbed s (s.computeForecast m) := by
  unfold State.computeForecast
  dsimp only
  split <;> exact .of_eq rfl rfl

theorem forecastQueryHandler_keeps (body : List Byte) : Keeps (forecastQueryHandler body) :=
  .expect (.quiet fun s u hu => by
    dsimp only at hu
    split at hu
    · next m hm =>
      cases hu
      exact (s.computeForecast_undisturbed m).trans (State.attend_undisturbed _)
    · split at hu
      · cases hu; exact .refl s
      · cases hu) _ _

theorem storeReadHandler_keeps (body : List Byte) : Keeps (storeReadHandler body) :=
  .expect (.quiet fun s u hu => by
    split at hu
    · cases hu
    · cases hu; exact .refl s) _ _

theorem storeStageHandler_keeps (body : List Byte) : Keeps (storeStageHandler body) :=
  .quiet fun s u hu => by
    unfold storeStageHandler at hu
    split at hu
    · cases hu
    split at hu
    · cases hu
    split at hu
    · cases hu
    split at hu
    · cases hu
    split at hu
    · cases hu
    split at hu
    · cases hu
    · cases hu; exact .of_eq rfl rfl

theorem storeCommitHandler_keeps (body : List Byte) : Keeps (storeCommitHandler body) :=
  .expect (.quiet fun s u hu => by
    dsimp only at hu
    split at hu
    · cases hu
    split at hu
    · cases hu
    · cases hu; exact .of_eq rfl rfl) _ _

theorem profileLockHandler_keeps (body : List Byte) : Keeps (profileLockHandler body) :=
  .expect (.quiet fun s u hu => by
    split at hu
    · cases hu
    · cases hu; exact .of_eq rfl rfl) _ _

/-- The entry of every kind keeps the cabinet's law. -/
theorem handlerOf_keeps (kind : Byte) (body : List Byte) : Keeps (handlerOf kind body) := by
  unfold handlerOf
  split
  case h_1 => exact statusHandler_keeps body
  case h_2 => exact setClockHandler_keeps body
  case h_3 => exact setModeHandler_keeps body
  case h_4 | h_5 => exact startHandler_keeps _ body
  case h_6 => exact timebaseHandler_keeps body
  case h_7 => exact keyEnrolHandler_keeps body
  case h_8 => exact keyEditHandler_keeps body
  case h_9 => exact keyRemoveHandler_keeps body
  case h_10 => exact keyQueryHandler_keeps body
  case h_11 => exact keyHoldHandler_keeps body
  case h_12 => exact keyCheckedHandler_keeps body
  case h_13 => exact availQueryHandler_keeps body
  case h_14 => exact issueHandler_keeps body
  case h_15 => exact amendHandler_keeps body
  case h_16 => exact handoutHandler_keeps body
  case h_17 => exact cancelHandler_keeps body
  case h_18 => exact resumeHandler_keeps body
  case h_19 => exact forceCloseHandler_keeps body
  case h_20 => exact retireHandler_keeps body
  case h_21 => exact contractQueryHandler_keeps body
  case h_22 => exact listLateHandler_keeps body
  case h_23 => exact openHandler_keeps body
  case h_24 => exact cancelReleaseHandler_keeps body
  case h_25 => exact serviceHandler_keeps body
  case h_26 => exact compartmentQueryHandler_keeps body
  case h_27 => exact rescanHandler_keeps body
  case h_28 => exact dropQueryHandler_keeps body
  case h_29 => exact dropEmptiedHandler_keeps body
  case h_30 => exact fetchHandler_keeps body
  case h_31 => exact consumeHandler_keeps body
  case h_32 => exact attentionQueryHandler_keeps body
  case h_33 => exact acknowledgeHandler_keeps body
  case h_34 => exact forecastQueryHandler_keeps body
  case h_35 => exact storeReadHandler_keeps body
  case h_36 => exact storeStageHandler_keeps body
  case h_37 => exact storeCommitHandler_keeps body
  case h_38 => exact profileLockHandler_keeps body
  case h_39 => intro s u hu; cases hu

/-- A delivered frame: discarded, refused, or what its handler takes (R172). -/
theorem State.CabinetOk.deliver {s : State} (h : s.CabinetOk) {f : Handler} (hf : Keeps f) (kind tg : Byte) :
    (s.deliver kind tg f).CabinetOk := by
  have hend : s.frameEnd.CabinetOk := h.undisturbed (.of_eq rfl rfl)
  unfold State.deliver
  split
  · exact h.undisturbed (.of_eq rfl rfl)
  · split
    · next hu => exact (hf _ _ hu hend).undisturbed (State.pushReply_undisturbed _ _)
    · exact hend.undisturbed (State.pushReply_undisturbed _ _)

end Sys2Proof.Machine
end

section
/-! SUPPORT. The cabinet's law through the events that are not requests, and O56 (R20-R32, R40-R55, R84-R99). -/

namespace Sys2Proof.Machine

/-! ### The line, the store and the clock -/

theorem State.discard_undisturbed (s : State) : Undisturbed s s.discard := .of_eq rfl rfl

theorem State.receiving_undisturbed (s : State) (r : Receiver) : Undisturbed s (s.receiving r) := .of_eq rfl rfl

theorem State.CabinetOk.serve {s : State} (h : s.CabinetOk) (kind tg : Byte) (body : List Byte) :
    (s.serve kind tg body).CabinetOk :=
  h.deliver (handlerOf_keeps kind body) _ tg

theorem State.CabinetOk.completeFrame {s : State} (h : s.CabinetOk) (len kind tg : Byte) (body : List Byte)
    (check : Byte) : (s.completeFrame len kind tg body check).CabinetOk := by
  unfold State.completeFrame
  split
  · exact h.undisturbed s.discard_undisturbed
  · exact h.serve kind tg body

theorem State.CabinetOk.receiveByte {s : State} (h : s.CabinetOk) (b : Byte) : (s.receiveByte b).CabinetOk := by
  have hd := h.undisturbed s.discard_undisturbed
  have hr := fun r => h.undisturbed (s.receiving_undisturbed r)
  unfold State.receiveByte
  split
  · split
    · exact hr _
    · exact h
  · split
    · exact hr _
    · exact hd
  · split
    · exact hr _
    · exact hr _
  · split
    · exact h.completeFrame _ _ _ _ _
    · exact hd
    · exact hd

theorem State.giveUpFrame_undisturbed (s : State) : Undisturbed s s.giveUpFrame := by
  unfold State.giveUpFrame
  split <;> exact .of_eq rfl rfl

theorem State.withLink_undisturbed (s : State) (l : Link) : Undisturbed s (s.withLink l) := .of_eq rfl rfl

theorem State.sendNext_undisturbed (s : State) : Undisturbed s s.sendNext :=
  (s.withLink_undisturbed _).trans (State.transmit_undisturbed _ _)

/-- The end of a frame's sending sends the next frame, or makes the start its reply asked for (R175, R178). -/
theorem State.CabinetOk.frameSent {s : State} (h : s.CabinetOk) : s.frameSent.CabinetOk := by
  unfold State.frameSent
  split
  · exact h
  · exact h.undisturbed s.sendNext_undisturbed
  · split
    · exact h.undisturbed s.sendNext_undisturbed
    · dsimp only
      split
      · exact h.undisturbed ((s.withLink_undisturbed _).trans (State.sendNext_undisturbed _))
      · exact State.start_cabinet _ _ _
      · exact h.undisturbed (((s.withLink_undisturbed _).trans (State.withLink_undisturbed _ _)).trans
          (State.sendNext_undisturbed _))

theorem State.writeCompleted_undisturbed (s : State) (r : StoreRecord) : Undisturbed s (s.writeCompleted r) := by
  have h : Undisturbed s ((s.withStore (s.store.complete r)).badgeCommitted r) := by
    cases r <;> exact .of_eq rfl rfl
  exact (h.trans (State.enter_undisturbed _ _)).trans (State.settle_undisturbed _)

theorem State.advanceClock_undisturbed (s : State) : Undisturbed s s.advanceClock := by
  unfold State.advanceClock
  split <;> exact .of_eq rfl rfl

theorem State.withTimeBase_undisturbed (s : State) (x : TimeBase) : Undisturbed s (s.withTimeBase x) := .of_eq rfl rfl

theorem State.withOverdue_undisturbed (s : State) (x : Overdue) : Undisturbed s (s.withOverdue x) := .of_eq rfl rfl

theorem State.endScan_undisturbed (s : State) : Undisturbed s s.endScan :=
  (s.computeForecast_undisturbed _).trans (State.withOverdue_undisturbed _ _)

theorem State.visit_undisturbed (s : State) : Undisturbed s s.visit := by
  unfold State.visit
  dsimp only
  split
  · split
    · exact .refl s
    next sl _ =>
      have hv := s.visitSlot_undisturbed sl s.overdue.scan.minute
      split
      · exact (hv.trans (State.withOverdue_undisturbed _ _)).trans (State.endScan_undisturbed _)
      · exact hv.trans (State.withOverdue_undisturbed _ _)
  · exact .refl s

/-! ### Doors, windows and scans (R23-R29, R43) -/

theorem State.CabinetOk.doorOpened {s : State} (h : s.CabinetOk) (n : CompId) : (s.doorOpened n).CabinetOk := by
  unfold State.doorOpened
  split
  case h_1 hd => exact (h.scanned.openUnder hd).finish
  case h_2 hd | h_3 hd | h_4 hd | h_5 hd => exact (h.scanned.forceOpen (by simp [hd])).finish
  all_goals exact h

theorem State.CabinetOk.doorClosed {s : State} (h : s.CabinetOk) (n : CompId) : (s.doorClosed n).CabinetOk := by
  unfold State.doorClosed
  split
  case h_1 hd | h_2 hd | h_3 hd => exact (h.scanned.closeDoor (by simp [hd])).finish
  all_goals exact h

theorem State.CabinetOk.expireWindow {s : State} (h : s.CabinetOk) {n : CompId} (hd : (s.comp n).door = .unlatched) :
    (s.expireWindow n).CabinetOk :=
  (h.scanned.windowEnded hd).finish

theorem State.CabinetOk.expireHold {s : State} (h : s.CabinetOk) {n : CompId} (hd : (s.comp n).door = .opened) :
    (s.expireHold n).CabinetOk :=
  ((h.leftOpen hd).undisturbed (State.enter_undisturbed _ _)).settle

/-! ### The drop box and the kiosk (R84-R99, R103-R108) -/

theorem State.CabinetOk.staffDoorClosed {s : State} (h : s.CabinetOk) : s.staffDoorClosed.CabinetOk := by
  unfold State.staffDoorClosed
  split
  · exact (h.undisturbed (Undisturbed.trans (t := s.withDrop { s.drop with staffDoor := .closed }) (.of_eq rfl rfl)
      (State.emptyDrop_undisturbed _ _))).settle
  · exact h

theorem State.staffDoorOpened_undisturbed (s : State) : Undisturbed s s.staffDoorOpened := by
  unfold State.staffDoorOpened
  split <;> exact .of_eq rfl rfl

theorem State.withKiosk_undisturbed (s : State) (k : Kiosk) : Undisturbed s (s.withKiosk k) := .of_eq rfl rfl

/-- An event that shows a prompt, enters a notice and settles. -/
theorem State.denied_undisturbed (s : State) (k : Kiosk) (b : NoticeBody) :
    Undisturbed s ((s.withKiosk k).enter b).settle :=
  ((s.withKiosk_undisturbed k).trans (State.enter_undisturbed _ b)).trans (State.settle_undisturbed _)

theorem State.wrongCode_undisturbed (s : State) : Undisturbed s s.wrongCode := by
  unfold State.wrongCode
  split
  · exact s.denied_undisturbed _ _
  · exact .of_eq rfl rfl

theorem State.CabinetOk.pickupAnswer {s : State} (h : s.CabinetOk) (x : Nat) (k : KeyId) (p : Prompt) :
    ((s.startPickup x k .kiosk).answer s p).2.CabinetOk := by
  unfold PickupStart.answer
  split
  · next ht => exact h.startPickup (.inl ⟨_, ht⟩)
  · next ht => exact h.startPickup (.inr ht)
  · exact h

theorem State.CabinetOk.kioskPickup {s : State} (h : s.CabinetOk) (c : Contract) : (s.kioskPickup c).2.CabinetOk := by
  unfold State.kioskPickup
  split
  · split
    · exact h
    · exact h.pickupAnswer _ _ _
  · split
    · exact h
    · exact h.pickupAnswer _ _ _

/-- The answer to a pickup code starts a pickup or changes nothing (R70, R71). -/
theorem State.CabinetOk.answerCode {s : State} (h : s.CabinetOk) (code : Nat) : (s.answerCode code).2.CabinetOk := by
  unfold State.answerCode
  split
  · exact h
  split
  case h_3 =>
    split
    · exact h
    split
    · exact h
    · exact h.kioskPickup _
  all_goals exact h

theorem State.CabinetOk.submitCode {s : State} (h : s.CabinetOk) : s.submitCode.CabinetOk := by
  unfold State.submitCode
  split
  · exact h.undisturbed (.of_eq rfl rfl)
  split
  · exact h.undisturbed (.of_eq rfl rfl)
  have hc := h.answerCode (digitsNumber s.kiosk.digits)
  split
  · next he => rw [he] at hc; exact hc.undisturbed (State.wrongCode_undisturbed _)
  · next he => rw [he] at hc; exact hc.undisturbed (State.withKiosk_undisturbed _ _)
  · next he => rw [he] at hc; exact hc.undisturbed (State.withKiosk_undisturbed _ _)

theorem State.CabinetOk.staffOpen {s : State} (h : s.CabinetOk) (n : CompId) : (s.staffOpen n).CabinetOk := by
  unfold State.staffOpen
  dsimp only
  split
  · exact h.undisturbed (s.denied_undisturbed _ _)
  split
  · exact h.undisturbed (.of_eq rfl rfl)
  split
  · exact h.undisturbed (.of_eq rfl rfl)
  · next ht => exact (h.requestRelease ht).undisturbed (State.withKiosk_undisturbed _ _)

theorem State.acknowledgeForced_undisturbed (s : State) : Undisturbed s s.acknowledgeForced := by
  unfold State.acknowledgeForced
  dsimp only
  split
  · exact ((s.withKiosk_undisturbed _).trans (State.clearForced_undisturbed _)).trans (State.settle_undisturbed _)
  · exact s.denied_undisturbed _ _

theorem State.CabinetOk.pressOk {s : State} (h : s.CabinetOk) : s.pressOk.CabinetOk := by
  unfold State.pressOk
  split
  case h_2 => exact h.submitCode
  case h_4 =>
    unfold State.staffOk
    split
    · exact h.undisturbed s.acknowledgeForced_undisturbed
    split
    · exact h.undisturbed (.of_eq rfl rfl)
    · exact h.staffOpen _
  all_goals exact h.undisturbed (.of_eq rfl rfl)

theorem State.CabinetOk.returnTag {s : State} (h : s.CabinetOk) (tag : Nat) : (s.returnTag tag).CabinetOk := by
  unfold State.returnTag
  split
  · exact h.undisturbed (.of_eq rfl rfl)
  have ht := h.answerTag tag
  split
  · next he => rw [he] at ht; exact ht.undisturbed (State.withKiosk_undisturbed _ _)
  · next he => rw [he] at ht; exact ht.undisturbed (State.withKiosk_undisturbed _ _)

theorem State.checkTag_undisturbed (s : State) (tag : Nat) : Undisturbed s (s.checkTag tag) := by
  unfold State.checkTag
  dsimp only
  split
  · exact .of_eq rfl rfl
  split
  · exact .of_eq rfl rfl
  split
  · exact s.denied_undisturbed _ _
  · exact (s.withKiosk_undisturbed _).trans (State.checkKey_undisturbed _ _ _)

theorem State.CabinetOk.tagAtPad {s : State} (h : s.CabinetOk) (tag : Nat) : (s.tagAtPad tag).CabinetOk := by
  unfold State.tagAtPad
  split
  case h_1 | h_2 | h_3 => exact h.returnTag tag
  case h_5 => exact h.undisturbed (s.checkTag_undisturbed tag)
  all_goals exact h.undisturbed (.of_eq rfl rfl)

theorem State.presentBadge_undisturbed (s : State) (b : Nat) : Undisturbed s (s.presentBadge b) := by
  have hx : Undisturbed s (s.examineBadge b) := by
    unfold State.examineBadge
    split
    · refine Undisturbed.trans ?_ (State.settle_undisturbed _)
      exact .of_eq rfl rfl
    · exact s.denied_undisturbed _ _
  unfold State.presentBadge
  split
  case h_5 | h_6 => exact .of_eq rfl rfl
  all_goals exact hx

theorem State.raiseCall_undisturbed (s : State) : Undisturbed s s.raiseCall := by
  unfold State.raiseCall
  split <;> exact .of_eq rfl rfl

theorem State.longPress_undisturbed (s : State) : Undisturbed s s.longPress := by
  have hc : ∀ k k' : Kiosk, Undisturbed s ((s.withKiosk k).withKiosk k').raiseCall.settle := fun k k' =>
    ((s.withKiosk_undisturbed k).trans ((s.withKiosk k).withKiosk_undisturbed k')).trans
      ((State.raiseCall_undisturbed _).trans (State.settle_undisturbed _))
  unfold State.longPress
  dsimp only
  split
  case h_1 | h_2 | h_3 => exact hc _ _
  all_goals exact .of_eq rfl rfl

/-! ### Every step -/

theorem State.CabinetOk.of_taken {s u t : State} (h : s.CabinetOk) (ht : s.taken u = .next t) (hu : u.CabinetOk) :
    t.CabinetOk := by
  obtain rfl | rfl := State.taken_next ht
  · exact hu
  · exact h

/-- A switch has moved, and the part took the event. -/
theorem State.CabinetOk.of_pin {s s' u t : State} (h : s.CabinetOk) (hs : SameBasis s s') (ht : s'.taken u = .next t)
    (hu : s'.CabinetOk → u.CabinetOk) : t.CabinetOk :=
  (hs.cabinet h).of_taken ht (hu (hs.cabinet h))

/-- Every command keeps the cabinet's law. -/
theorem exec_keeps {c : Instr} {s t : State} (h : s.CabinetOk) (ht : exec c s = .next t) : t.CabinetOk := by
  have request : ∀ {kind tg : Byte} {f : Handler}, Keeps f → s.request kind tg f = .next t → t.CabinetOk :=
    fun hf hr => h.of_taken hr (h.deliver hf _ _)
  have quiet : ∀ {u : State}, s.taken u = .next t → Undisturbed s u → t.CabinetOk :=
    fun hr hu => h.of_taken hr (h.undisturbed hu)
  cases c
  case status => exact request (statusHandler_keeps _) ht
  case setClock => exact request (setClockHandler_keeps _) ht
  case setMode => exact request (setModeHandler_keeps _) ht
  case restart => exact request (startHandler_keeps _ _) ht
  case purge => exact request (startHandler_keeps _ _) ht
  case timebase => exact request (timebaseHandler_keeps _) ht
  case keyEnrol => exact request (keyEnrolHandler_keeps _) ht
  case keyEdit => exact request (keyEditHandler_keeps _) ht
  case keyRemove => exact request (keyRemoveHandler_keeps _) ht
  case keyQuery => exact request (keyQueryHandler_keeps _) ht
  case keyHold => exact request (keyHoldHandler_keeps _) ht
  case keyChecked => exact request (keyCheckedHandler_keeps _) ht
  case availQuery => exact request (availQueryHandler_keeps _) ht
  case issue => exact request (issueHandler_keeps _) ht
  case amend => exact request (amendHandler_keeps _) ht
  case handout => exact request (handoutHandler_keeps _) ht
  case cancel => exact request (cancelHandler_keeps _) ht
  case resume => exact request (resumeHandler_keeps _) ht
  case forceClose => exact request (forceCloseHandler_keeps _) ht
  case retire => exact request (retireHandler_keeps _) ht
  case contractQuery => exact request (contractQueryHandler_keeps _) ht
  case listLate => exact request (listLateHandler_keeps _) ht
  case openRelease => exact request (openHandler_keeps _) ht
  case cancelRelease => exact request (cancelReleaseHandler_keeps _) ht
  case service => exact request (serviceHandler_keeps _) ht
  case compartmentQuery => exact request (compartmentQueryHandler_keeps _) ht
  case rescan => exact request (rescanHandler_keeps _) ht
  case dropQuery => exact request (dropQueryHandler_keeps _) ht
  case dropEmptied => exact request (dropEmptiedHandler_keeps _) ht
  case fetch => exact request (fetchHandler_keeps _) ht
  case consume => exact request (consumeHandler_keeps _) ht
  case attentionQuery => exact request (attentionQueryHandler_keeps _) ht
  case acknowledge => exact request (acknowledgeHandler_keeps _) ht
  case forecastQuery => exact request (forecastQueryHandler_keeps _) ht
  case storeRead => exact request (storeReadHandler_keeps _) ht
  case storeStage => exact request (storeStageHandler_keeps _) ht
  case storeCommit => exact request (storeCommitHandler_keeps _) ht
  case profileLock => exact request (profileLockHandler_keeps _) ht
  case unknownKind | overrun => exact h.of_taken ht (h.serve _ _ _)
  case frameDiscard => exact h.of_taken ht (h.completeFrame _ _ _ _ _)
  case badLength b | byteReceived b => exact h.of_taken ht (h.receiveByte b)
  case stopBitError | idleTimerExpiry => exact quiet ht s.giveUpFrame_undisturbed
  case frameSent => exact h.of_taken ht h.frameSent
  case powerUp b =>
    cases ht
    exact State.start_cabinet _ _ _
  case storeWriteComplete =>
    refine quiet ht ?_
    split
    · exact s.writeCompleted_undisturbed _
    · exact .refl s
  case minuteEvent =>
    exact quiet ht ((s.withTimeBase_undisturbed _).trans (State.advanceClock_undisturbed _))
  case latenessScanVisit =>
    refine quiet ht ?_
    split
    · exact s.visit_undisturbed.trans (State.settle_undisturbed _)
    · exact .refl s
  case doorOpened n =>
    exact h.of_pin (s' := s.movePin n true) ⟨⟨rfl, rfl, rfl⟩, rfl⟩ ht fun h' => h'.doorOpened n
  case doorClosed n =>
    exact h.of_pin (s' := s.movePin n false) ⟨⟨rfl, rfl, rfl⟩, rfl⟩ ht fun h' => h'.doorClosed n
  case windowExpiry n =>
    refine h.of_taken ht ?_
    split
    · next hd => exact h.expireWindow hd
    · exact h
  case holdExpiry n =>
    refine h.of_taken ht ?_
    split
    · next hd => exact h.expireHold hd
    · exact h
  case scanCompletion f =>
    refine h.of_taken ht ?_
    split
    · exact (h.scanned.completeRead _ _).finish
    · exact h
  case digitKey | clearKey | callButtonPressed | callButtonReleased => exact quiet ht (.of_eq rfl rfl)
  case okKey => exact h.of_taken ht h.pressOk
  case tagAtPad x => exact h.of_taken ht (h.tagAtPad x)
  case badgePresented b => exact quiet ht (s.presentBadge_undisturbed b)
  case longPress => exact quiet ht s.longPress_undisturbed
  case interDigitExpiry | lockoutExpiry | staffTimerExpiry | resultHoldExpiry | briefPromptExpiry =>
    refine quiet ht ?_
    split <;> exact .of_eq rfl rfl
  case chuteRead x =>
    refine h.of_taken ht ?_
    split
    · exact h
    · exact (h.scanned.chute x).finish
  case staffDoorOpened =>
    exact h.of_pin (s' := s.withStaffDoorPin true) ⟨⟨rfl, rfl, rfl⟩, rfl⟩ ht fun h' =>
      h'.undisturbed (State.staffDoorOpened_undisturbed _)
  case staffDoorClosed =>
    exact h.of_pin (s' := s.withStaffDoorPin false) ⟨⟨rfl, rfl, rfl⟩, rfl⟩ ht fun h' => h'.staffDoorClosed
  case pagerPulseEnd => exact quiet ht (.of_eq rfl rfl)
  case powerLoss => exact quiet ht (.of_same s.losePower_same)

theorem State.CabinetOk.tick {s : State} (h : s.CabinetOk) : s.tick.CabinetOk := by
  unfold State.tick
  split
  · split <;> exact h.undisturbed (Undisturbed.trans s.countAll_undisturbed (.of_eq rfl rfl))
  · exact h

/-- Settles O56: what each operation leaves of doors, queue, channels and scan list meets the law up to the read that
may have to begin and the sweep that may have ended, and the end of its event sees to those two. -/
theorem cabinetIsKept : Obligations.CabinetIsKept := by
  intro s t ht h
  unfold step at ht
  split at ht
  · cases ht
    exact h.tick
  · next c rest _ =>
    have hq : SameBasis s (s.withPending rest) := ⟨⟨rfl, rfl, rfl⟩, rfl⟩
    exact exec_keeps (hq.cabinet h) ht

end Sys2Proof.Machine
end

section
/-! SUPPORT. The end of an event after which a sweep may have ended, and O33 and O34: agreeing switch events, closings and
the end of a hold (R27-R29, R41, R45). -/

namespace Sys2Proof.Machine

/-! ### The end of an event that may end a sweep (R43, R45) -/

theorem State.sweepCheck_noted (v : State) : v.sweepCheck = { v.noted (v.sweepNotice v.unknownCount) with
    scanner := ⟨v.scanner.list, v.scanner.sweeping && v.scanner.list.any (·.cls == .sweep)⟩ } := by
  rw [State.sweepCheck_eq, State.sweepNotice]
  by_cases h : v.scanner.sweeping = true ∧ ∀ e ∈ v.scanner.list, e.cls ≠ .sweep
  · obtain ⟨hs, hno⟩ := h
    have hany : (v.scanner.list.any (·.cls == .sweep)) = false := by simpa using hno
    rw [if_pos ⟨hs, hno⟩, if_pos ⟨hs, hno⟩, hany, Bool.and_false]
  · rw [if_neg h, if_neg h]
    have hsw : (v.scanner.sweeping && v.scanner.list.any (·.cls == .sweep)) = v.scanner.sweeping := by
      cases hs : v.scanner.sweeping
      · rfl
      · simpa [hs] using h
    rw [hsw]
    rfl

/-- The sweep condition is tested, with its notice, the next read begins if one can, and the records settle (R43). -/
theorem State.finish_swept {v : State} {c : Nat} (hc : v.unknownCount = c) :
    Settled { v.noted (v.sweepNotice c) with
        scanner := ⟨v.finish.scanner.list, v.scanner.sweeping && v.scanner.list.any (·.cls == .sweep)⟩ } v.finish
      ∧ ListKept v v.finish := by
  have hs : Settled v.scanStep v.finish := v.scanStep.settle_settled
  obtain ⟨-, -, -, -, hsc, -⟩ := hs.records
  obtain ⟨hkept, hframe⟩ := v.sweepCheck.startRead_kept
  change ListKept v.sweepCheck v.scanStep at hkept
  change v.scanStep = _ at hframe
  have hstep : v.scanStep = { v.noted (v.sweepNotice v.unknownCount) with scanner :=
      ⟨v.finish.scanner.list, v.scanner.sweeping && v.scanner.list.any (·.cls == .sweep)⟩ } := by
    rw [show v.finish.scanner.list = v.scanStep.scanner.list by rw [hsc]]
    exact hframe.trans
      (congrArg (fun u : State => u.withScanner ⟨v.scanStep.scanner.list, u.scanner.sweeping⟩) v.sweepCheck_noted)
  subst hc
  refine ⟨hstep ▸ hs, ?_⟩
  unfold ListKept at hkept ⊢
  rw [v.sweepCheck_list] at hkept
  rw [hsc]
  exact hkept

/-- A count of unknown contents looks at nothing but which contents are known (R45). -/
theorem State.unknownCount_of {s v : State} (h : ∀ m, (v.comp m).known = (s.comp m).known) :
    v.unknownCount = (fins 192).countP fun m => !(s.comp m).known := by
  rw [State.unknownCount_eq]
  simp only [h]

theorem State.modifyComp_known {s : State} {n : CompId} {f : Compartment → Compartment} (hf : ∀ c, (f c).known = c.known)
    (m : CompId) : ((s.modifyComp n f).comp m).known = (s.comp m).known := by
  by_cases e : n = m
  · subst e; rw [State.modifyComp_comp_self, hf]
  · rw [State.modifyComp_comp_ne _ _ e]

/-! ### The switch and its event -/

theorem exec_doorOpened {s : State} (hp : s.powered = true) (n : CompId) :
    exec (.doorOpened n) s = .next ((s.movePin n true).doorOpened n) := by
  change (s.movePin n true).taken _ = _
  rw [State.taken, if_pos (show (s.movePin n true).powered = true from hp)]

theorem exec_doorClosed {s : State} (hp : s.powered = true) (n : CompId) :
    exec (.doorClosed n) s = .next ((s.movePin n false).doorClosed n) := by
  change (s.movePin n false).taken _ = _
  rw [State.taken, if_pos (show (s.movePin n false).powered = true from hp)]

/-- Settles O33, by the door state held: an agreeing event leaves what moving the switch left. -/
theorem agreeingSwitchEventsHaveNoEffect : Obligations.AgreeingSwitchEventsHaveNoEffect := by
  intro s n hp
  refine ⟨fun hd => ?_, fun hd => ?_⟩
  · rw [exec_doorOpened hp, State.doorOpened]
    obtain hd | hd | hd := hd <;> rw [show ((s.movePin n true).comp n).door = _ from hd] <;> rfl
  · rw [exec_doorClosed hp, State.doorClosed]
    obtain hd | hd | hd | hd | hd := hd <;> rw [show ((s.movePin n false).comp n).door = _ from hd] <;> rfl

/-! ### Closings (R28) and the end of a hold (R27) -/

theorem Compartment.carriedAtClosing_eq (c : Compartment) : c.carriedAtClosing
    = if c.release.isSome then .release else if c.door = .forcedOpen then .forced else .nothing := by
  unfold Compartment.carriedAtClosing
  cases c.release <;> rfl

theorem State.closeDoor_finish (s : State) (n : CompId) :
    (s.closeDoor n).unknownCount = (fins 192).countP fun m => !(s.comp m).known :=
  State.unknownCount_of (State.modifyComp_known (f := fun c => { c with door := .scanning, hold := none }) fun _ => rfl)

theorem State.doorClosed_open {s : State} {n : CompId} (hd : (s.comp n).door = .opened ∨ (s.comp n).door = .leftOpen
    ∨ (s.comp n).door = .forcedOpen) : s.doorClosed n = (s.closeDoor n).finish := by
  unfold State.doorClosed
  obtain hd | hd | hd := hd <;> rw [hd]

theorem exec_holdExpiry {s : State} (hp : s.powered = true) (n : CompId) :
    exec (.holdExpiry n) s = .next (if (s.comp n).door = .opened then s.expireHold n else s) := by
  change s.taken _ = _
  rw [State.taken, if_pos hp]

/-- Settles O34: a closing queues its entry and finishes with the sweep condition; the hold's end writes the door and
its notice. -/
theorem doorClosesOrStandsOpen : Obligations.DoorClosesOrStandsOpen := by
  intro s n hp _
  refine ⟨fun hd => ⟨_, exec_doorClosed hp n, ?_⟩, fun hd => ⟨_, exec_holdExpiry hp n, ?_⟩, fun hd => ?_⟩
  · rw [State.doorClosed_open (s := s.movePin n false) hd]
    have h := State.finish_swept ((s.movePin n false).closeDoor_finish n)
    rw [← Compartment.carriedAtClosing_eq]
    exact h
  · rw [if_pos hd, State.expireHold]
    rcases (s.comp n).release with _ | ⟨p, o⟩
    · exact State.settle_settled _
    · cases p <;> exact State.settle_settled _
  · rw [exec_holdExpiry hp, if_neg hd]

end Sys2Proof.Machine
end

section
/-! SUPPORT. O31: a door that opens under its release (R22, R23, R90, R94, R95). -/

namespace Sys2Proof.Machine

/-- An event that made no compartment readable and left the scan list begins no read (R42). -/
theorem State.finish_unread {s v : State} (h : s.CabinetOk) (hsc : v.scanner = s.scanner)
    (hd : ∀ n, (v.comp n).door.readable = true → (s.comp n).door.readable = true) : Settled v v.finish := by
  obtain ⟨-, hscan⟩ := h
  have hgo := State.SweepGoesOn.of_scanner hscan.sweepGoesOn hsc
  obtain ⟨-, -, -, -, -, -, hreads, -⟩ := hscan
  have hstill : v.startRead = v := by
    unfold State.startRead
    split
    · rfl
    · next hno =>
      have hnone : ∀ e ∈ v.scanner.list, (v.comp e.comp).door.readable = false := fun e he => by
        by_contra hr
        rw [hsc] at he
        obtain ⟨e', he', hr'⟩ := hreads ⟨e, he, hd _ (by simpa using hr)⟩
        exact hno (List.any_eq_true.mpr ⟨e', hsc ▸ he', hr'⟩)
      rw [markFirst_none hnone]
      rfl
  have hs : Settled v.scanStep v.finish := v.scanStep.settle_settled
  rwa [State.scanStep, hgo.sweepCheck, hstill] at hs

theorem Regranted.of_compartments {s t u : State} {n : CompId} (h : Regranted s t n)
    (hu : u.compartments = t.compartments) : Regranted s u n := by
  unfold Regranted State.comp at h ⊢
  rwa [hu]

/-- A door that opens under its release writes compartments and kiosk: the channel is freed and regranted, the hold runs
and the owner is told (R22, R23, R90, R95). -/
theorem State.openUnder_spec {s : State} {n : CompId} {r : Release} (hlat : s.LatchOk)
    (hd : (s.comp n).door = .unlatched) (hr : (s.comp n).release = some r) :
    (∃ x, s.openUnder n = (s.withCompartments x).tellOpened n r)
      ∧ Regranted s (s.openUnder n) n
      ∧ (s.openUnder n).comp n = { s.comp n with
          door := .opened, window := none, hold := some (s.store.working.profile.value.hold * 1000) } := by
  obtain ⟨hg, hn⟩ := State.freed_regranted hlat hd fun c =>
    { c with door := .opened, hold := some (seconds s.store.working.profile.value.hold) }
  obtain ⟨x, hx⟩ := ((s.freeChannel n).modifyComp n fun c =>
    { c with door := .opened, hold := some (seconds s.store.working.profile.value.hold) }).arbitrate_frame
  have ho : s.openUnder n = State.tellOpened (((s.freeChannel n).modifyComp n fun c =>
      { c with door := .opened, hold := some (seconds s.store.working.profile.value.hold) }).arbitrate) n r := by
    unfold State.openUnder
    rw [hr]
  have hs := State.tellOpened_same (((s.freeChannel n).modifyComp n fun c =>
    { c with door := .opened, hold := some (seconds s.store.working.profile.value.hold) }).arbitrate) n r
  rw [← ho] at hs
  exact ⟨⟨x, by rw [ho, hx]; rfl⟩, hg.of_compartments hs.compartments, by rw [hs.comp, hn]; rfl⟩

/-- Settles O31: no door becomes readable in the event, so its end only settles the records. -/
theorem doorOpensUnderItsRelease : Obligations.DoorOpensUnderItsRelease := by
  intro s n r hp hok hd hr
  have hpin : SameBasis s (s.movePin n true) := ⟨⟨rfl, rfl, rfl⟩, rfl⟩
  have hok' := hpin.cabinet hok
  obtain ⟨⟨x, hx⟩, hg, hn⟩ := State.openUnder_spec (s := s.movePin n true) hok'.1 hd hr
  have hs : Settled ((s.movePin n true).openUnder n) ((s.movePin n true).openUnder n).finish := by
    refine State.finish_unread hok' ?_ fun m hm => ?_
    · rw [hx]
      unfold State.tellOpened
      split <;> rfl
    · by_cases e : m = n
      · subst e
        rw [hn] at hm; cases hm
      · obtain ⟨-, -, -, hother⟩ := hg
        rw [hother m e] at hm
        split at hm
        · cases hm
        · exact hm
  obtain ⟨-, hcs, -⟩ := hs.records
  refine ⟨((s.movePin n true).openUnder n).finish, ?_, ?_, hg.of_compartments hcs, ?_⟩
  · rw [exec_doorOpened hp, State.doorOpened, show ((s.movePin n true).comp n).door = .unlatched from hd]
  · rw [hcs]
    generalize ((s.movePin n true).openUnder n).finish = t at hs
    rw [hx] at hs ⊢
    obtain ⟨p, o⟩ := r
    cases p <;> exact hs
  · rw [State.comp, hcs]
    exact hn

end Sys2Proof.Machine
end

section
/-! SUPPORT. What telling a release's owner does, for every purpose (R72, R77, R90, R95). -/

namespace Sys2Proof.Machine

/-- The outcomes of a release that ended before its door opened (R18). -/
theorem Kiosk.renterOutcome_unopened {s : State} {o : ReleaseOutcome} (ho : o ≠ .opened) (n : CompId) :
    s.kiosk.renterOutcome s.idlePrompt n o = s.kioskAfter n := by
  unfold Kiosk.renterOutcome State.kioskAfter
  cases o with
  | opened => exact absurd rfl ho
  | expired => rfl
  | cancelled => rfl

/-- The contract controller told of a return's end: a contract in RETURNING is OUT again (R77). -/
theorem State.returnFailed_eq {s : State} {sl : Slot} {d : Contract} (hn : s.Numbered) (hsl : s.slot sl = some d)
    (hst : d.state = .returning) (k : KeyId) (n : CompId) (x : FailReason) : s.returnFailed d.number k n x
      = { s.noted [{ kind := .returnFailed, minute := s.present, comp := some n, key := some k
                     contract := some d.number, detailA := x.code }] with
          contracts := { s.contracts with slots := s.contracts.slots.set sl (some { d with state := .out }) } } := by
  have hof : s.slotOf d.number = some sl := (State.slotOf_iff hn).mpr ⟨d, hsl, rfl⟩
  have hstate : s.contractState d.number = some .returning := (State.contractState_iff hn).mpr ⟨sl, d, hsl, rfl, hst⟩
  rw [State.returnFailed, if_pos hstate, State.modifyContract_eq hof, State.modifySlot, State.slots_modify hsl]
  rfl

/-- The contract controller told of a pickup's end: the contract falls back and the key, its promise cleared, is
re-examined (R72). -/
theorem State.pickupFailed_eq {s : State} {sl : Slot} {d : Contract} (hn : s.Numbered) (hsl : s.slot sl = some d)
    (hst : d.state = .picking) (k : KeyId) (n : CompId) (x : FailReason) :
    s.pickupFailed d.number k n x = { s.noted (handoutFailed s.present n k d x.code) with
        contracts := { s.contracts with slots := s.contracts.slots.set sl (some (fellBack d)) }
        keys := (s.pickupFailed d.number k n x).keys }
      ∧ ∀ r, s.key k = some r → Reexamined { s with contracts := (s.pickupFailed d.number k n x).contracts }
        (s.pickupFailed d.number k n x) k { r with promisedTo := none } := by
  have hstate : s.contractState d.number = some .picking := (State.contractState_iff hn).mpr ⟨sl, d, hsl, rfl, hst⟩
  have hp : s.pickupFailed d.number k n x
      = ((s.fallBack d.number k n x).clearPromise k).reexamine s.joinMinute k := by
    rw [State.pickupFailed, if_pos hstate]
  rw [State.fallBack_eq hn hsl hst] at hp
  refine ⟨?_, fun r hr => ?_⟩
  · rw [hp, State.reexamine_frame]
    rfl
  · have hk : (({ s.noted (handoutFailed s.present n k d x.code) with contracts := { s.contracts with
          slots := s.contracts.slots.set sl (some (fellBack d)) } } : State).clearPromise k).key k
        = some { r with promisedTo := none } := by
      rw [State.clearPromise, State.modifyKey_key_self]
      exact congrArg (Option.map _) hr
    rw [hp]
    refine (State.reexamine_reexamined hk).congr (MayBeListed.congr (fun _ _ => ⟨rfl, rfl, rfl⟩) ?_) rfl rfl
      (fun j hj => State.modifyKey_key_ne _ _ (Ne.symm hj)) rfl
    rw [State.reexamine_frame]
    rfl

/-- The owner of a release that ended unopened is told, by the release's purpose (R18). -/
theorem State.tellEnded_told {s : State} {o : ReleaseOutcome} (hn : s.Numbered) (ho : o ≠ .opened) (n : CompId)
    (r : Release) : OwnerTold s (s.tellEnded n r o n) n r o.reason.code := by
  obtain ⟨p, g⟩ := r
  cases p with
  | link => exact rfl
  | staff b => exact rfl
  | ret c k =>
    have hk : s.tellEnded n ⟨.ret c k, g⟩ o n
        = (s.returnFailed c k n o.reason).withKiosk (s.kioskAfter n) := by
      unfold State.tellEnded
      dsimp only
      rw [Kiosk.renterOutcome_unopened ho, State.returnFailed_frame]
      rfl
    rw [hk]
    refine ⟨fun hno => ?_, fun sl d hsl hd hst => ?_⟩
    · rw [State.returnFailed, if_neg fun hc => ?_]
      · rfl
      · obtain ⟨sl, d, hsl, hd, hst⟩ := (State.contractState_iff hn).mp hc
        exact hno sl d hsl hd hst
    · subst hd
      rw [State.returnFailed_eq hn hsl hst]
      rfl
  | pickup c k =>
    have hk : s.tellEnded n ⟨.pickup c k, g⟩ o n
        = (s.pickupFailed c k n o.reason).withKiosk (s.kioskAfter n) := by
      unfold State.tellEnded
      dsimp only
      rw [Kiosk.renterOutcome_unopened ho, State.pickupFailed_frame]
      rfl
    rw [hk]
    rintro sl d hsl rfl hst
    obtain ⟨he, hx⟩ := State.pickupFailed_eq hn hsl hst k n o.reason
    generalize s.pickupFailed d.number k n o.reason = u at he hx
    refine ⟨?_, hx⟩
    rw [he]
    rfl

end Sys2Proof.Machine
end

section
/-! SUPPORT. O32: forced openings (R25, R26, R45). -/

namespace Sys2Proof.Machine

/-- The notice of a forced opening (R25, R156). -/
def State.forcedNotice (s : State) (n : CompId) : NoticeBody :=
  { kind := .forcedDoor, minute := s.present, comp := some n
    contract := (s.comp n).release.bind fun r => r.purpose.contract? }

/-- The compartments once the door of `n` is FORCED_OPEN, with its flag (R25, R26). -/
def State.forcedCompartments (s : State) (n : CompId) : Compartments :=
  { s.compartments with
    table := s.compartments.table.set n { s.comp n with door := .forcedOpen, forced := true } }

/-- A forced opening in LOCKED, SCANNING or UNKNOWN: no entry is left to the compartment (R25, R45). -/
theorem State.forceOpen_unwaited {s : State} {n : CompId} (hscan : s.ScanOk) (hd : (s.comp n).door = .locked
    ∨ (s.comp n).door = .scanning ∨ (s.comp n).door = .unknown) :
    s.forceOpen n = ((s.withCompartments (s.forcedCompartments n)).noted [s.forcedNotice n]).withScanner
      { s.scanner with list := s.scanner.list.filter (·.comp != n) } := by
  obtain ⟨-, -, hunlocked, -⟩ := hscan
  unfold State.forceOpen
  dsimp only
  obtain hd | hd | hd := hd <;> rw [hd]
  · have hno : s.scanner.holds n = false := by
      by_contra hh
      obtain ⟨e, he, rfl⟩ := Scanner.holds_iff.mp (by simpa using hh)
      exact hunlocked e he hd
    have hwith : s.scanner.list.filter (·.comp != n) = s.scanner.list := Scanner.without_eq hno
    rw [hwith]
    rfl
  · rfl
  · rfl

/-- The end of a release: its record is removed and its owner is told (R18). -/
theorem State.endRelease_some {s : State} {n : CompId} {r : Release} (h : (s.comp n).release = some r)
    (o : ReleaseOutcome) (named : CompId) :
    s.endRelease n o named = (s.modifyComp n Compartment.withoutRelease).tellEnded n r o named := by
  unfold State.endRelease
  rw [h]

/-- A forced opening in WAITING: the request leaves the queue and its release ends CANCELLED (R25). -/
theorem State.forceOpen_waiting {s : State} {n : CompId} {r : Release} (hd : (s.comp n).door = .waiting)
    (hr : (s.comp n).release = some r) : ∃ tb, s.forceOpen n = (State.tellEnded
        ((s.noted [s.forcedNotice n]).withCompartments
          { s.compartments with table := tb, queue := s.compartments.queue.filter (· != n) }) n r .cancelled n)
      ∧ tb.get n = { s.comp n with
          door := .forcedOpen, forced := true, release := none
          reservation := match r.purpose with
            | .ret _ _ => none
            | _ => (s.comp n).reservation }
      ∧ ∀ m, m ≠ n → tb.get m = s.comp m := by
  refine ⟨(s.forcedCompartments n).table.modify n Compartment.withoutRelease, ?_, ?_, fun m hm => ?_⟩
  · have hrec : ((s.modifyComp n fun c => { c with door := .forcedOpen, forced := true }).comp n).release = some r := by
      rw [State.modifyComp_comp_self]; exact hr
    unfold State.forceOpen
    dsimp only
    rw [hd]
    rw [State.endRelease_some (r := r)]
    · rfl
    · exact hrec
  · rw [Table.get_modify_self, State.forcedCompartments, Table.get_set_self, Compartment.withoutRelease]
    dsimp only
    rw [hr]
    obtain ⟨p, o⟩ := r
    cases p <;> rfl
  · rw [Table.get_modify_ne _ _ (Ne.symm hm)]
    exact Table.get_set_ne _ _ (Ne.symm hm)

/-- Settles O32: outside WAITING the end of the event tests the sweep; in WAITING the release's owner is told. -/
theorem forcedOpeningIsRecorded : Obligations.ForcedOpeningIsRecorded := by
  intro s n hp hok hcon forced left
  have hpin : SameBasis s (s.movePin n true) := ⟨⟨rfl, rfl, rfl⟩, rfl⟩
  have hok' := hpin.cabinet hok
  have hforced : forced = s.forcedNotice n := by
    simp only [forced, State.forcedNotice]
    rcases (s.comp n).release with _ | ⟨p, o⟩
    · rfl
    · cases p <;> rfl
  rw [hforced]
  refine ⟨fun hd => ?_, fun r hr hd => ?_⟩
  · have hv := State.forceOpen_unwaited (s := s.movePin n true) hok'.2 hd
    have hknown : ((s.movePin n true).forceOpen n).unknownCount = (fins 192).countP fun m => !(s.comp m).known := by
      rw [hv]
      exact State.unknownCount_of fun m => State.modifyComp_known (s := s)
        (f := fun c => { c with door := .forcedOpen, forced := true }) (fun _ => rfl) m
    obtain ⟨hs, hkept⟩ := State.finish_swept hknown
    refine ⟨((s.movePin n true).forceOpen n).finish, ?_, ?_, ?_⟩
    · rw [exec_doorOpened hp, State.doorOpened]
      obtain hd | hd | hd := hd <;> rw [show ((s.movePin n true).comp n).door = _ from hd]
    · generalize ((s.movePin n true).forceOpen n).finish = t at *
      rw [hv] at hs
      exact hs
    · generalize ((s.movePin n true).forceOpen n).finish = t at *
      rw [hv] at hkept
      exact hkept
  · obtain ⟨tb, hv, hself, hother⟩ := State.forceOpen_waiting (s := s.movePin n true) hd hr
    have hnum : (((s.movePin n true).noted [(s.movePin n true).forcedNotice n]).withCompartments
        { (s.movePin n true).compartments with
          table := tb, queue := (s.movePin n true).compartments.queue.filter (· != n) }).Numbered :=
      hcon.1.numbered
    have htold := State.tellEnded_told hnum (o := .cancelled) (by simp) n r
    rw [← hv] at htold
    have hsc : ((s.movePin n true).forceOpen n).scanner = s.scanner ∧ ((s.movePin n true).forceOpen n).compartments
        = { s.compartments with table := tb, queue := s.compartments.queue.filter (· != n) } := by
      rw [hv, State.tellEnded_frame]
      exact ⟨rfl, rfl⟩
    obtain ⟨hsc, hcs⟩ := hsc
    have hcomp : ∀ m, ((s.movePin n true).forceOpen n).comp m = tb.get m := fun m => by rw [State.comp, hcs]
    have hs : Settled ((s.movePin n true).forceOpen n) ((s.movePin n true).forceOpen n).finish := by
      refine State.finish_unread hok' hsc fun m hm => ?_
      rw [hcomp] at hm
      by_cases e : m = n
      · subst e
        rw [hself] at hm; cases hm
      · rwa [hother m e] at hm
    obtain ⟨-, htab, -⟩ := hs.records
    have htcomp : ∀ m, ((s.movePin n true).forceOpen n).finish.comp m = tb.get m := fun m => by
      rw [← hcomp, State.comp, htab]; rfl
    refine ⟨((s.movePin n true).forceOpen n).finish, ?_, ?_, fun m hm => ?_, (s.movePin n true).forceOpen n, ?_, hs⟩
    · rw [exec_doorOpened hp, State.doorOpened, show ((s.movePin n true).comp n).door = .waiting from hd]
    · rw [htcomp, hself]; rfl
    · rw [htcomp, hother m hm]; rfl
    · rw [htab, hcs]
      exact htold

end Sys2Proof.Machine
end

section
/-! SUPPORT. O28: OPEN (R20-R22, R34). -/

namespace Sys2Proof.Machine

theorem compField_refused {b : Byte} (h : b = 0 ∨ 192 < b.toNat) (l : List Byte) :
    compField (b :: l) 0 = .error .badValue := by
  have hn : compOfNumber b.toNat = none := by
    unfold compOfNumber
    obtain rfl | h := h
    · rfl
    · exact dif_neg (by omega)
  rw [compField, field_head, hn]

/-- The position a taken LINK request has in the queue is the one its reply gives (R34). -/
theorem ReleaseTaken.position {s t : State} {n : CompId} {r : Release} (h : ReleaseTaken s t n r) (hl : s.LatchOk)
    (hd : (s.comp n).door = .locked) (hp : r.priority = true) : t.queuePosition n = s.priorityPosition := by
  obtain ⟨-, h1, h2, h3⟩ := h
  have hn : n ∉ s.compartments.queue := hl.not_queued (by rw [hd]; decide)
  obtain ⟨-, -, -, -, -, -, -, hfull⟩ := hl
  unfold State.queuePosition State.priorityPosition
  by_cases c1 : s.compartments.channel1 = none
  · obtain ⟨-, -, -, hq⟩ := h1 c1
    rw [if_pos (.inl c1), hq, hfull (.inl c1)]
    rfl
  by_cases c2 : s.compartments.channel2 = none
  · obtain ⟨-, -, -, hq⟩ := h2 c1 c2
    rw [if_pos (.inr c2), hq, hfull (.inr c2)]
    rfl
  obtain ⟨-, -, -, hq⟩ := h3 c1 c2
  have hidx : t.compartments.queue.findIdx? (· == n) = some (s.compartments.queue.filter s.priorityAt).length := by
    rw [hq, if_pos hp, List.append_assoc, List.findIdx?_append, List.findIdx?_eq_none_iff.mpr]
    · rw [List.singleton_append, List.findIdx?_cons, if_pos (by simp)]
      simp
    · intro m hm
      simpa using fun e : m = n => hn (e ▸ (List.mem_filter.mp hm).1)
  rw [if_neg (not_or.mpr ⟨c1, c2⟩), hidx]

/-- OPEN of compartment `n` is what its release request is (R34). -/
theorem openHandler_ok {s u : State} {n : CompId} (h : s.requestRelease n ⟨.link, .link⟩ = .ok u) :
    openHandler [byte (n.val + 1)] s
      = .ok { status := .accepted, data := [byte (u.queuePosition n)], state := u } := by
  rw [openHandler, expectLength_passes (by rfl), compField_byte]
  dsimp only
  rw [h]

theorem openHandler_error {s : State} {n : CompId} {e : Status} (h : s.requestRelease n ⟨.link, .link⟩ = .error e) :
    openHandler [byte (n.val + 1)] s = .error e := by
  rw [openHandler, expectLength_passes (by rfl), compField_byte]
  dsimp only
  rw [h]

/-- Settles O28, from what a release request does. -/
theorem openRequestsARelease : Obligations.OpenRequestsARelease := by
  intro s tg hserve hlat
  refine ⟨fun b hb => ?_, fun n => ?_⟩
  · refine State.request_refused (kind := 0x30) (e := .badValue) hserve ?_
    rw [openHandler, expectLength_passes (by rfl), compField_refused hb]
  · obtain ⟨hwrong, hfull, hok⟩ := s.frameEnd.requestRelease_refused n ⟨.link, .link⟩
    by_cases hc : (s.comp n).service = .inService ∧ (s.comp n).door = .locked
    · obtain ⟨hsv, hd⟩ := hc
      have hnot : ¬ ((s.comp n).service = .outOfService ∨ (s.comp n).door ≠ .locked) := by rw [hsv, hd]; simp
      by_cases hq : 16 ≤ s.compartments.queue.length
      · obtain ⟨t, ht, hs⟩ := State.request_refused (kind := 0x30) hserve (openHandler_error (hfull ⟨hsv, hd⟩ hq))
        exact ⟨t, ht, fun hno => absurd hno hnot, fun _ _ => ⟨fun _ => hs, fun hlt => absurd hq (by omega)⟩⟩
      · obtain ⟨u, hu⟩ := hok ⟨hsv, hd⟩ (show s.compartments.queue.length < 16 by omega)
        have htaken := State.requestRelease_taken (s := s.frameEnd) (hlat.of_eq rfl) hu
        have hframe : u = { s.frameEnd with compartments := u.compartments } := by
          obtain ⟨-, he⟩ := State.requestRelease_ok hu
          obtain ⟨x, hx⟩ := ((s.frameEnd.modifyComp n (Compartment.placed ⟨.link, .link⟩)).enqueue n
            (Release.priority ⟨.link, .link⟩)).arbitrate_frame
          rw [he, hx]
          rfl
        obtain ⟨t, ht, hs⟩ := State.request_sent (kind := 0x30) hserve (openHandler_ok hu) (by rw [hframe])
        have hcs : t.compartments = u.compartments := by rw [hs.1]
        refine ⟨t, ht, fun hno => absurd hno hnot, fun _ _ => ⟨fun h16 => absurd h16 hq, fun _ => ⟨?_, ?_⟩⟩⟩
        · have hpos := htaken.position (hlat.of_eq rfl) hd rfl
          rw [hcs]
          dsimp only at hs
          rw [hpos, hframe] at hs
          exact hs
        · unfold ReleaseTaken State.comp
          rw [hcs]
          exact htaken
    · obtain ⟨t, ht, hs⟩ := State.request_refused (kind := 0x30) hserve (openHandler_error (hwrong hc))
      exact ⟨t, ht, fun _ => hs, fun hsv hd => absurd ⟨hsv, hd⟩ hc⟩

end Sys2Proof.Machine
end

section
/-! SUPPORT. O29: releases that end before their doors open (R18, R22, R24, R30, R35). -/

namespace Sys2Proof.Machine

/-- Telling an owner looks at neither the line nor the scanner (R72, R77, R90, R95). -/
theorem OwnerTold.beside {s e : State} {n : CompId} {r : Release} {x : Nat} (h : OwnerTold s e n r x) (l : Link)
    (sc : Scanner) : OwnerTold { s with link := l, scanner := sc } { e with link := l, scanner := sc } n r x := by
  obtain ⟨p, o⟩ := r
  cases p with
  | link => exact congrArg (fun u : State => { u with link := l, scanner := sc }) h
  | staff b => exact congrArg (fun u : State => { u with link := l, scanner := sc }) h
  | ret c k =>
    obtain ⟨h1, h2⟩ := h
    exact ⟨fun hno => congrArg (fun u : State => { u with link := l, scanner := sc }) (h1 hno),
      fun sl d hsl hd hst => congrArg (fun u : State => { u with link := l, scanner := sc }) (h2 sl d hsl hd hst)⟩
  | pickup c k =>
    intro sl d hsl hd hst
    obtain ⟨he, hx⟩ := h sl d hsl hd hst
    exact ⟨congrArg (fun u : State => { u with link := l, scanner := sc }) he, hx⟩

/-- The owner of a release whose window ended is told EXPIRED (R18, R24). -/
theorem State.windowEnded_told {s : State} {n : CompId} {r : Release} (hr : (s.comp n).release = some r) :
    ∃ x, s.windowEnded n = (s.withCompartments x).tellEnded n r .expired n := by
  obtain ⟨x, hx⟩ := ((s.freeChannel n).modifyComp n fun c => { c with door := s.lockedDoor n }).arbitrate_frame
  have hrel : (State.comp (((s.freeChannel n).modifyComp n fun c =>
      { c with door := s.lockedDoor n }).arbitrate) n).release = some r := by
    rw [State.arbitrate_release, State.modifyComp_comp_self, (s.freeChannel_spec n).1]
    exact hr
  rw [State.windowEnded, State.endRelease_some hrel, hx]
  exact ⟨_, rfl⟩

/-- What the event of a release's end leaves, once its owner was told at `u` (R18, R30, R43). -/
theorem OwnerTold.settled {s u w t : State} {n : CompId} {r : Release} {o : ReleaseOutcome} {x : Compartments} {l : Link}
    (hn : s.Numbered) (ho : o ≠ .opened) (hw : w = (s.withCompartments x).tellEnded n r o n)
    (hs : Settled { w with link := l, scanner := { w.scanner with list := t.scanner.list } } t)
    (hu : { s with link := l } = u) :
    ∃ e, OwnerTold { u with compartments := t.compartments, scanner := { s.scanner with list := t.scanner.list } } e n r
        o.reason.code ∧ Settled e t := by
  have hnum : (s.withCompartments x).Numbered := hn
  have htold := (State.tellEnded_told hnum ho n r).beside l { s.scanner with list := t.scanner.list }
  have hframe : w.compartments = x ∧ w.scanner = s.scanner := by
    rw [hw, State.tellEnded_frame]
    exact ⟨rfl, rfl⟩
  obtain ⟨hcs, hsc⟩ := hframe
  obtain ⟨-, htc, -⟩ := hs.records
  refine ⟨_, ?_, hs⟩
  rw [show t.compartments = x from htc.trans hcs, hsc, ← hu, hw]
  exact htold

theorem ListKept.of_scanner {s v t : State} (h : ListKept v t) (hv : v.scanner = s.scanner) : ListKept s t := by
  unfold ListKept at h ⊢
  rwa [hv] at h

theorem cancelReleaseHandler_ok {s t : State} {n : CompId} {r : Release} (hr : (s.comp n).release = some r)
    (h : s.cancelRelease n = some t) : cancelReleaseHandler [byte (n.val + 1)] s
      = .ok { data := [byte r.purpose.code, byte r.origin.code], state := t.concluded } := by
  rw [cancelReleaseHandler, expectLength_passes (by rfl), compField_byte]
  dsimp only
  rw [h, hr]
  rfl

theorem cancelReleaseHandler_refused {s : State} {n : CompId} (h : s.cancelRelease n = none) :
    cancelReleaseHandler [byte (n.val + 1)] s = .error .wrongState := by
  rw [cancelReleaseHandler, expectLength_passes (by rfl), compField_byte]
  dsimp only
  rw [h]

theorem State.cancelRelease_isSome {s : State} {n : CompId} (hd : (s.comp n).door.latched) (named : CompId) :
    ∃ t, s.cancelRelease n named = some t := by
  obtain ⟨-, hw, hu⟩ := s.cancelRelease_cases n named
  obtain hd | hd := hd
  · exact ⟨_, hw hd⟩
  · exact ⟨_, hu hd⟩

theorem exec_windowExpiry {s : State} (hp : s.powered = true) (n : CompId) :
    exec (.windowExpiry n) s = .next (if (s.comp n).door = .unlatched then s.expireWindow n else s) := by
  change s.taken _ = _
  rw [State.taken, if_pos hp]

/-- The end of a window (R24). -/
theorem State.expireWindow_spec {s : State} {n : CompId} {r : Release} (hok : s.CabinetOk) (hn : s.Numbered)
    (hr : (s.comp n).release = some r) (hd : (s.comp n).door = .unlatched) :
    ReleaseDropped s (s.expireWindow n) n ∧ ListKept s (s.expireWindow n)
      ∧ ∃ e, OwnerTold { s with compartments := (s.expireWindow n).compartments
                                scanner := { s.scanner with list := (s.expireWindow n).scanner.list } } e n r 1
        ∧ Settled e (s.expireWindow n) := by
  obtain ⟨x, hx⟩ := State.windowEnded_told hr
  have hsc := s.windowEnded_scanner n
  have hgo : (s.windowEnded n).SweepGoesOn := State.SweepGoesOn.of_scanner hok.2.sweepGoesOn hsc
  have hdrop := State.windowEnded_dropped hok.1 hd
  obtain ⟨hs, hkept⟩ := State.finish_settled hgo
  change Settled _ (s.expireWindow n) at hs
  change ListKept _ (s.expireWindow n) at hkept
  obtain ⟨-, hcs, -⟩ := hs.records
  refine ⟨hdrop.congr rfl rfl rfl hcs, hkept.of_scanner hsc, ?_⟩
  refine OwnerTold.settled hn (o := .expired) (by simp) hx (l := s.link) ?_ rfl
  have hlink : (s.windowEnded n).link = s.link := by rw [hx, State.tellEnded_frame]; rfl
  rw [← hlink]
  exact hs

/-- Settles O29: each way a release ends unopened is the drop of its record, and its owner is told. -/
theorem releaseEndsUnopened : Obligations.ReleaseEndsUnopened := by
  intro s tg n hok hcon
  have hnum := hcon.1.numbered
  refine ⟨fun cancel r hr hcancel hwindow => ?_, fun hp hd => ?_, fun hserve hu hw => ?_⟩
  · cases cancel with
    | false =>
      obtain ⟨hp, hd⟩ := hwindow rfl
      exact ⟨s.expireWindow n, (exec_windowExpiry hp n).trans (by rw [if_pos hd]),
        State.expireWindow_spec hok hnum hr hd⟩
    | true =>
      obtain ⟨hserve, hd⟩ := hcancel rfl
      obtain ⟨w, hw⟩ := State.cancelRelease_isSome (s := s.frameEnd) hd n
      obtain ⟨x, hx⟩ := State.cancelRelease_told hw hr
      obtain ⟨hsc, -⟩ := State.cancelRelease_scanner hw
      have hdrop := State.cancelRelease_dropped (s := s.frameEnd) (hok.1.of_eq rfl) hw
      have hlink : w.link = s.frameEnd.link := by rw [hx, State.tellEnded_frame]; rfl
      obtain ⟨t, ht, hs, -, hcs, hkept, -⟩ := State.request_scanned (kind := 0x31) hserve
        (cancelReleaseHandler_ok hr hw) hlink (State.SweepGoesOn.of_scanner hok.2.sweepGoesOn hsc)
      have htold := OwnerTold.settled (s := s.frameEnd)
        (u := s.answered 0xB1 tg [0, byte r.purpose.code, byte r.origin.code]) hnum (o := .cancelled) (by simp) hx hs rfl
      exact ⟨t, ht, hdrop.congr rfl rfl rfl hcs, hkept.of_scanner hsc, htold⟩
  · rw [exec_windowExpiry hp, if_neg hd]
  · obtain ⟨hno, -⟩ := s.frameEnd.cancelRelease_cases n n
    exact State.request_refused (kind := 0x31) hserve (cancelReleaseHandler_refused (hno hw hu))

end Sys2Proof.Machine
end

section
/-! SUPPORT. O27: CONTRACT_QUERY, LIST_LATE and COMPARTMENT_QUERY (R37, R81, R82). -/

namespace Sys2Proof.Machine

/-! ### CONTRACT_QUERY (R81) -/

theorem optBytes_eq (n : Nat) (x : Option Nat) : optBytes n x = optional n x := by
  cases x <;> rfl

theorem State.contractField_toBytes {s : State} {sl : Slot} {c : Contract} (hn : s.Numbered) (hsl : s.slot sl = some c)
    (hc : c.number ≤ 4294967295) : s.contractField (toBytes 4 c.number) 0 = .ok (sl, c) := by
  have hf : field (toBytes 4 c.number) 0 4 = c.number := by
    have h := field_toBytes (n := 4) (x := c.number) (by omega) []
    rwa [List.append_nil] at h
  rw [State.contractField, hf, (State.slotOf_iff hn).mpr ⟨c, hsl, rfl⟩]
  dsimp only
  rw [hsl]

theorem contractQueryHandler_ok {s : State} {sl : Slot} {c : Contract} (hn : s.Numbered) (hsl : s.slot sl = some c)
    (hc : c.number ≤ 4294967295) :
    contractQueryHandler (toBytes 4 c.number) s = .ok { data := contractBytes sl c, state := s } := by
  rw [contractQueryHandler, expectLength_passes (length_toBytes _ _), State.contractField_toBytes hn hsl hc]

/-! ### LIST_LATE (R82) -/

/-- The open contracts at or above a tier, from a slot on, in slot order (R82). -/
theorem State.lateSlots_eq (s : State) (tier start : Nat) : s.lateSlots tier start = (fins 512).filter fun sl =>
    start ≤ sl.val && (s.slot sl).any fun c => c.isOpen && tier ≤ c.tier.code := by
  rw [State.lateSlots, Table.places_eq, List.filter_filter]
  rfl

/-- The walk goes on after its twelfth entry, unless that one was in slot 511 (R82). -/
theorem nextLate_take (l : List Slot) : nextLate (l.take 12)
    = if l.length < 12 ∨ l[11]? = some 511 then 0xFFFF else (l[11]?.map Fin.val).getD 0 + 1 := by
  have htake : (l.take 12)[11]? = l[11]? := by simp
  unfold nextLate
  rw [htake]
  cases h : l[11]? with
  | none =>
    have := List.getElem?_eq_none_iff.mp h
    rw [if_pos (.inl (by omega))]
  | some sl =>
    obtain ⟨hl, -⟩ := List.getElem?_eq_some_iff.mp h
    have hiff : (l.length < 12 ∨ some sl = some (511 : Slot)) ↔ sl.val = 511 := by
      rw [or_iff_right (by omega), Option.some.injEq, Fin.ext_iff]
      rfl
    simp only [hiff]
    rfl

theorem listLateHandler_ok {s : State} {tier start : Nat} (ht : tier ≤ 4) (hs : start ≤ 511) :
    listLateHandler (byte tier :: toBytes 2 start) s = .ok
      { data := byte ((s.lateSlots tier start).take 12).length
          :: toBytes 2 (nextLate ((s.lateSlots tier start).take 12))
            ++ ((s.lateSlots tier start).take 12).flatMap s.lateEntry
        state := s } := by
  have h0 : field (byte tier :: toBytes 2 start) 0 1 = tier := (field_head _ _).trans (toNat_byte (by omega))
  have h1 : field (byte tier :: toBytes 2 start) 1 2 = start := by
    have h := field_toBytes (n := 2) (x := start) (by omega) []
    rwa [List.append_nil] at h
  rw [listLateHandler, expectLength_passes (by simp [length_toBytes]), h0, h1, if_neg (by omega)]

/-! ### COMPARTMENT_QUERY (R37) -/

theorem Item.bytes_eq (i : Item) : i.bytes = itemFields i := by
  cases i <;> rfl

/-- Four places of six bytes in read order, the unused ones 0 (R37). -/
theorem itemsBytes_eq {l : List Item} (h : l.length ≤ 4) :
    itemsBytes l = l.flatMap itemFields ++ List.replicate (24 - 6 * l.length) 0 := by
  have hb : l.flatMap Item.bytes = l.flatMap itemFields := List.flatMap_congr fun i _ => i.bytes_eq
  have hl : (l.flatMap itemFields).length = 6 * l.length := by
    rw [List.length_flatMap, List.map_congr_left (g := fun _ => 6) fun i _ => by
      cases i <;> simp [itemFields, length_toBytes]]
    simp [mul_comm]
  rw [itemsBytes, hb, List.take_append, List.take_of_length_le (by omega), hl, List.take_replicate, min_eq_left (by omega)]

theorem toBytes_zero (n : Nat) : toBytes n 0 = List.replicate n 0 := by
  induction n with
  | zero => rfl
  | succ n ih => simp [toBytes, ih, List.replicate_succ]

theorem releaseBytes_eq (r : Option Release) : releaseBytes r = releaseFields r := by
  rcases r with _ | ⟨p, o⟩
  · rfl
  · cases p <;> simp [releaseBytes, releaseFields, Purpose.code, Purpose.contract?, Purpose.key?, Purpose.badge?,
      toBytes_zero, byte, List.replicate_succ]

theorem Compartment.timerLeft_eq (c : Compartment) : c.timerLeft
    = if c.door = .unlatched then (c.window.getD 0 + 999) / 1000
      else if c.door = .opened then (c.hold.getD 0 + 999) / 1000 else 0 := by
  unfold Compartment.timerLeft secondsLeft
  cases c.door <;> rfl

/-- The class of a compartment's one entry (R37, R40). -/
theorem State.scanCode_eq {s : State} (hscan : s.ScanOk) (n : CompId) : byte (s.scanCode n)
    = if s.scanner.list.any (fun e => e.comp == n && e.cls == .door) then 1
      else if s.scanner.list.any (·.comp == n) then 2 else 0 := by
  obtain ⟨hnodup, -⟩ := hscan
  unfold State.scanCode
  cases hf : s.scanner.list.find? fun e => e.comp == n with
  | none =>
    have hno : ∀ e ∈ s.scanner.list, e.comp ≠ n := by simpa using List.find?_eq_none.mp hf
    rw [if_neg, if_neg]
    · rfl
    · simpa using hno
    · simpa using fun e he hn => absurd hn (hno e he)
  | some e =>
    have he := List.mem_of_find?_eq_some hf
    have hn : e.comp = n := by simpa using List.find?_some hf
    have hone : ∀ a ∈ s.scanner.list, a.comp = n → a = e := fun a ha hc =>
      List.inj_on_of_nodup_map hnodup ha he (hc.trans hn.symm)
    cases hcls : e.cls with
    | door =>
      rw [if_pos]
      · dsimp only
        rw [hcls]
        rfl
      · exact List.any_eq_true.mpr ⟨e, he, by simp [hn, hcls]⟩
    | sweep =>
      rw [if_neg, if_pos]
      · dsimp only
        rw [hcls]
        rfl
      · exact List.any_eq_true.mpr ⟨e, he, by simp [hn]⟩
      · rw [List.any_eq_true]
        rintro ⟨a, ha, hd⟩
        obtain ⟨hc, hd⟩ : a.comp = n ∧ a.cls = .door := by simpa using hd
        rw [hone a ha hc, hcls] at hd
        cases hd

theorem State.channelOf_byte (s : State) (n : CompId) : byte (s.channelOf n)
    = if s.compartments.channel1 = some n then 1 else if s.compartments.channel2 = some n then 2 else 0 := by
  unfold State.channelOf
  split
  · rfl
  · split <;> rfl

theorem compartmentQueryHandler_ok (s : State) (n : CompId) :
    compartmentQueryHandler [byte (n.val + 1)] s = .ok { data := s.compBytes n, state := s } := by
  rw [compartmentQueryHandler, expectLength_passes (by rfl), compField_byte]

/-- Settles O27: the handlers leave the state and answer the bytes of R37, R81 and R82. -/
theorem contractAndCompartmentQueries : Obligations.ContractAndCompartmentQueries := by
  intro s tg hserve hix hscan
  refine ⟨fun sl c hsl hc => ?_, fun tier start ht hst => ?_, fun n hlen => ?_⟩
  · refine State.request_reports (kind := 0x27) hserve
      (contractQueryHandler_ok (s := s.frameEnd) hix.numbered hsl hc) ?_
    simp only [contractBytes, optBytes_eq, List.cons_append]
    cases c.entitlement with
    | specific k => rfl
    | cls g x e m u => cases x <;> cases e <;> rfl
  · intro late
    have hlate : s.frameEnd.lateSlots tier start = late := State.lateSlots_eq s.frameEnd tier start
    have hentries : (late.take 12).flatMap s.frameEnd.lateEntry = (late.take 12).flatMap fun sl => match s.slot sl with
        | some c => toBytes 2 sl.val ++ toBytes 4 c.number ++ toBytes 2 ((c.key.map Fin.val).getD 0)
          ++ [byte c.tier.code] ++ toBytes 4 c.due
        | none => [] := by
      refine List.flatMap_congr fun sl hm => ?_
      obtain ⟨-, hany⟩ := List.mem_filter.mp (List.mem_of_mem_take hm)
      obtain ⟨-, hany⟩ := (Bool.and_eq_true _ _).mp hany
      obtain ⟨c, hc, -⟩ := Option.any_eq_true _ _ |>.mp hany
      rw [State.lateEntry, hc, show s.frameEnd.slot sl = some c from hc]
    have h := listLateHandler_ok (s := s.frameEnd) ht hst
    rw [hlate, nextLate_take, hentries] at h
    exact State.request_reports (kind := 0x28) hserve h rfl
  · have hb : s.frameEnd.compBytes n = s.compBytes n := rfl
    have h := compartmentQueryHandler_ok s.frameEnd n
    rw [hb, State.compBytes] at h
    rw [itemsBytes_eq hlen, optBytes_eq, releaseBytes_eq, State.channelOf_byte, Compartment.timerLeft_eq,
      State.scanCode_eq hscan, ← List.append_assoc] at h
    exact State.request_reports (kind := 0x33) hserve h rfl

end Sys2Proof.Machine
end

section
/-! SUPPORT. O9: what a start takes from the branch store and from the switches (R100, R112, R147, R166-R168, R178, R179,
R183, R186). -/

namespace Sys2Proof.Machine

/-- The settings of a start: those of the branch store, with every timer stopped and the line at rest (R178, R179,
R186 steps 1, 2 and 4). -/
structure Restarted (s a : State) : Prop where
  store : a.store = { s.store with busy := false, staging := none, working := s.store.stored.takenAll }
  mode : a.mode = s.store.stored.takenAll.profile.value.modeAtStart
  timeBase : a.timeBase = ⟨s.store.stored.takenAll.profile.value.divisor, 0, false⟩
  link : a.link = { s.link with
    receiver := .hunt, idle := none, error := false, replies := [], tx := .idle
    speed := s.store.stored.takenAll.profile.value.speed
    lineDivisor := s.store.stored.takenAll.profile.value.divisor
    lastReported := a.link.lastReported, mark := a.link.mark }
  kiosk : a.kiosk = { Kiosk.start with prompt :=
    if s.store.stored.takenAll.profile.value.modeAtStart = .lockdown then .outOfService else .welcome }
  startPending : a.startPending = none
  powered : a.powered = s.powered
  doorPins : a.doorPins = s.doorPins
  staffDoorPin : a.staffDoorPin = s.staffDoorPin
  pending : a.pending = s.pending
  scan : a.overdue.scan = { s.overdue.scan with scanning := false, nextSlot := 0, pendingStart := none }

theorem State.startTables_restarted (s : State) (cold : Bool) : Restarted s (s.startTables cold).readField := by
  cases cold <;> exact ⟨rfl, rfl, rfl, rfl, rfl, rfl, rfl, rfl, rfl, rfl, rfl⟩

/-- The staff door as its switch stands, and the flap by mode, list and staff door (R102, R112). -/
theorem State.readStaffDoor_drop (s : State) (cold : Bool) :
    (s.readStaffDoor cold).drop.staffDoor = (if s.staffDoorPin then .opened else .closed)
      ∧ (s.readStaffDoor cold).drop.flap = flapFor s.mode (s.readStaffDoor cold).drop.entries.length
        (if s.staffDoorPin then .opened else .closed) := by
  unfold State.readStaffDoor
  dsimp only
  generalize (if s.staffDoorPin then StaffDoor.opened else .closed) = d
  split
  · unfold State.clearDrop
    obtain ⟨x, hx⟩ := State.takeAllFromDrop_frame (s.withDrop { s.drop with staffDoor := d })
      (s.drop.entries.filterMap DropEntry.key)
    dsimp only [State.withDrop_drop]
    rw [hx]
    exact ⟨rfl, rfl⟩
  · exact ⟨rfl, rfl⟩

theorem Restarted.readStaffDoor {s a : State} (h : Restarted s a) (cold : Bool) :
    Restarted s (a.readStaffDoor cold) := by
  obtain ⟨fl, d, hd⟩ := a.readStaffDoor_eq cold
  rw [hd]
  exact ⟨h.store, h.mode, h.timeBase, h.link, h.kiosk, h.startPending, h.powered, h.doorPins, h.staffDoorPin, h.pending,
    h.scan⟩

/-- A start ends like every event: its causes are brought in from none, and the transmitter may begin a frame
(R166, R167, R186 step 7). -/
theorem State.start_settled (s : State) (cold m : Bool) : ∃ bs sc, Settled
    (State.clearCauses ((((s.startTables cold).readField.readStaffDoor cold).noted bs).withScanner sc))
    (s.start cold m) := by
  unfold State.start
  dsimp only
  generalize hu : (if cold = true then s.endFlight.readStore.emptyTables else s.endFlight.readStore.rollBackTables) = u
  obtain rfl : s.startTables cold = u := hu
  obtain ⟨l, hsweep, hall⟩ := ((s.startTables cold).readField.readStaffDoor cold).startSweep_eq
  obtain ⟨sc, hsc⟩ := State.startNotices_swept _ hall cold m ((s.startTables cold).visitEnded cold)
    (s.startTables cold).drop.entries.length
  rw [hsweep, hsc]
  exact ⟨_, _, State.settle_settled _⟩

/-- The line after a start: with nothing reported and no reply waiting, an attention frame is begun exactly when a cause
is to be reported (R166, R175). -/
theorem LineTaken.fresh {e t : State} (h : LineTaken e t (e.link.mark || t.reportCause != e.link.lastReported))
    (htx : e.link.tx = .idle) (hr : e.link.replies = []) (hlast : e.link.lastReported = none)
    (hmark : e.link.mark = false) : t.link.lastReported = t.reportCause ∧ t.link.mark = false
      ∧ t.link.tx = if t.reportCause = none then .idle else .attention t.reportFrame := by
  obtain ⟨-, hsame, hdiff⟩ := h
  rw [hmark, hlast] at hdiff
  rw [hmark, hlast] at hsame
  by_cases hc : t.reportCause = none
  · obtain ⟨⟨h1, h2⟩, h3⟩ := hsame htx (.inr hc)
    rw [hr, if_pos rfl] at h1
    rw [if_pos hc]
    exact ⟨h2.trans hc.symm, h3, h1⟩
  · obtain ⟨h1, h2, h3⟩ | ⟨h1, -⟩ := hdiff htx (by simpa using hc) hc
    · rw [if_neg hc]
      exact ⟨h2, h3, h1⟩
    · exact absurd hr h1

/-- A start leaves the settings of a start as they are read, and reports anew: the causes are new, and the transmitter
is free (R166, R167, R186). -/
theorem State.start_from (s : State) (cold m : Bool) : ∃ e, Restarted s e ∧ Settled e (s.start cold m)
    ∧ e.notices.pending = [] ∧ e.notices.pager = none ∧ e.link.lastReported = none ∧ e.link.mark = false := by
  obtain ⟨bs, sc, h⟩ := s.start_settled cold m
  obtain ⟨h1, h2, h3, h4, h5, h6, h7, h8, h9, h10, h11⟩ := (s.startTables_restarted cold).readStaffDoor cold
  have hlink := congrArg (fun l => { l with lastReported := none, mark := false }) h4
  exact ⟨State.clearCauses (State.withScanner (State.noted _ bs) sc),
    ⟨h1, h2, h3, hlink, h5, h6, h7, h8, h9, h10, h11⟩, h, rfl, rfl, rfl, rfl⟩

/-- The start sweep: each compartment found closed, in number order, the first one being read, and the sweep in progress
unless there is none (R45, R55). -/
theorem State.start_sweep (s : State) (cold m : Bool) :
    (s.start cold m).scanner.list.map ScanEntry.unread = s.closedEntries
      ∧ (∀ x, (s.start cold m).scanner.list.head? = some x → x.reading = true)
      ∧ ((s.start cold m).scanner.sweeping = true ↔ (s.start cold m).scanner.list ≠ []) := by
  have hscan := s.start_scanner cold m
  have hdoor : ∀ n, s.doorPins.get n = false → ((s.start cold m).comp n).door.readable = true := fun n hn => by
    rw [s.start_comp cold m n]
    simp [hn, DoorState.readable]
  generalize s.start cold m = t at hscan hdoor
  have hunread : s.closedEntries.map ScanEntry.unread = s.closedEntries := by
    rw [State.closedEntries, List.map_map]; rfl
  have hlist : t.scanner.list.map ScanEntry.unread = s.closedEntries := by
    rw [hscan, markFirst_unread, hunread]
  refine ⟨hlist, fun x hx => ?_, ?_⟩
  · rw [hscan] at hx
    rcases hc : s.closedEntries with _ | ⟨e, es⟩
    · rw [hc] at hx; cases hx
    · have he : e ∈ s.closedEntries := by rw [hc]; exact List.mem_cons_self
      obtain ⟨n, hn, rfl⟩ := List.mem_map.mp he
      have hpin : s.doorPins.get n = false := by simpa using (List.mem_filter.mp hn).2
      rw [hc, markFirst, if_pos (hdoor n hpin)] at hx
      obtain rfl := Option.some.inj hx
      rfl
  · have hnil : t.scanner.list = [] ↔ s.doorPins.rows.all id = true := by
      rw [← State.closedEntries_eq_nil, ← hlist, List.map_eq_nil_iff]
    rw [Ne, hnil, hscan]
    simp

/-- The staff door and the flap of a start (R112). -/
theorem State.start_drop (s : State) (cold m : Bool) :
    (s.start cold m).drop.staffDoor = (if s.staffDoorPin then .opened else .closed)
      ∧ (s.start cold m).drop.flap = (if (s.start cold m).mode = .unstaffed
          ∧ (s.start cold m).drop.entries.length < 48 ∧ s.staffDoorPin = false then .opened else .locked) := by
  obtain ⟨hdrop, -⟩ := s.start_reports cold m rfl
  obtain ⟨e, he, ⟨ht, -⟩, -⟩ := s.start_from cold m
  have hmode : (s.start cold m).mode = e.mode := by rw [ht]
  have hr := s.startTables_restarted cold
  obtain ⟨hdoor, hflap⟩ := (s.startTables cold).readField.readStaffDoor_drop cold
  rw [hr.staffDoorPin] at hdoor hflap
  rw [hmode, he.mode, hdrop]
  refine ⟨hdoor, hflap.trans ?_⟩
  rw [hr.mode, flapFor]
  cases s.staffDoorPin <;> simp

/-- Settles O9: a start leaves the settings as it read them (`State.start_from`), the doors and the sweep as their
switches stand (`State.start_comp`, `State.start_sweep`), and the flap (`State.start_drop`). -/
theorem startTakesSettingsAndSwitches : Obligations.StartTakesSettingsAndSwitches := by
  intro s u c cold m h
  obtain ⟨l, hexec⟩ := h.exec
  have hcomp := State.start_comp { u with link := l, powered := true } cold m
  obtain ⟨hqueue, hch1, hch2⟩ := State.start_latches { u with link := l, powered := true } cold m
  obtain ⟨hlist, hhead, hsweeping⟩ := State.start_sweep { u with link := l, powered := true } cold m
  obtain ⟨hdoor, hflap⟩ := State.start_drop { u with link := l, powered := true } cold m
  obtain ⟨-, -, -, -, -, -, -, hcall, hok⟩ := State.start_tables { u with link := l, powered := true } cold m _ rfl
  have hr := State.startTables_restarted { u with link := l, powered := true } cold
  obtain ⟨e, he, ⟨ht, -, hpager, hline⟩, hpend, hp, hlast, hmark⟩ :=
    State.start_from { u with link := l, powered := true } cold m
  have hhold : (State.startTables cold { u with link := l, powered := true }).store.working = u.store.stored.takenAll :=
    congrArg Store.working hr.store
  simp only [hhold] at hcomp
  generalize State.start cold m { u with link := l, powered := true } = t at *
  have hstore : t.store = { u.store with busy := false, staging := none, working := u.store.stored.takenAll } := by
    rw [ht]; exact he.store
  have hw : t.store.working = u.store.stored.takenAll := by rw [hstore]
  have hmode : t.mode = t.store.working.profile.value.modeAtStart := by rw [hw, ht]; exact he.mode
  have hlink : t.link = { e.link with tx := t.link.tx, lastReported := t.link.lastReported, mark := t.link.mark } := by
    rw [ht]
  rw [he.link] at hlink
  obtain ⟨h1, h2, h3⟩ := hline.fresh (by rw [he.link]) (by rw [he.link]) hlast hmark
  refine ⟨t, hexec, by rw [hw]; exact hstore, by rw [hw]; rfl, fun g => by rw [hw]; exact Table.get_map _ _ _,
    fun n => by rw [hw]; exact Table.get_map _ _ _, by rw [hw]; rfl, fun b => by rw [hw]; exact Table.get_map _ _ _,
    by rw [hw, ht]; exact he.timeBase, by rw [hlink], by rw [hlink], by rw [hlink], by rw [hlink],
    by rw [hlink, hw], by rw [hlink, hw], hmode, h1, h2, h3, ?_, by rw [ht]; exact he.startPending,
    by rw [ht]; exact he.powered, by rw [ht]; exact he.doorPins, by rw [ht]; exact he.staffDoorPin,
    by rw [ht]; exact he.pending, hcall, hok, ?_, hqueue, hch1, hch2, fun n => by rw [hw]; exact hcomp n,
    hlist, hhead, hsweeping, by rw [ht]; exact congrArg LatenessScan.scanning he.scan,
    by rw [ht]; exact congrArg LatenessScan.nextSlot he.scan,
    by rw [ht]; exact congrArg LatenessScan.pendingStart he.scan, hdoor, hflap⟩
  · rw [hmode, hw, ht]; exact he.kiosk
  · have halert : ∀ x, t.alertOf x = e.alertOf x := fun x => by rw [ht]; rfl
    have hm : e.mode = t.mode := by rw [ht]
    rw [hpager, hp, hpend, hm]
    simp [halert]

end Sys2Proof.Machine
end

section
/-! SUPPORT. A scan completion, step by step: the read it completes, the tags and the contents that its steps 1 to 4 leave,
its clean-up, and the end of its event (R42-R46, R50-R53). -/

namespace Sys2Proof.Machine

/-! ### The read that is completed (R42, R43, R46) -/

/-- The input of the reconciliation of the read of entry `x`, which found these tags (R43, R46). -/
def State.readInput (s : State) (x : ScanEntry) (found : List Nat) : ScanInput :=
  ⟨x.comp, found, (s.comp x.comp).contents, s.present, s.scanPurpose x.comp x.carried⟩

theorem exec_scanCompletion {s : State} (hp : s.powered = true) (n : CompId) (found : List Nat) :
    exec (.scanCompletion ⟨n, found⟩) s
      = .next (if s.scanner.list.any (·.reads n) then (s.completeRead n found).finish else s) := by
  change s.taken _ = _
  rw [State.taken, if_pos hp]

theorem ScanEntry.reads_iff {e : ScanEntry} {n : CompId} : e.reads n = true ↔ e.reading = true ∧ e.comp = n := by
  rw [ScanEntry.reads, Bool.and_eq_true, beq_iff_eq]

/-- A read that was abandoned is not completed (R42, R43). -/
theorem exec_scanCompletion_abandoned {s : State} (hp : s.powered = true) {n : CompId}
    (h : ∀ e ∈ s.scanner.list, e.reading = true → e.comp ≠ n) (found : List Nat) :
    exec (.scanCompletion ⟨n, found⟩) s = .next s := by
  have hno : s.scanner.list.any (·.reads n) = false := List.any_eq_false.mpr fun e he hr =>
    h e he (ScanEntry.reads_iff.mp hr).1 (ScanEntry.reads_iff.mp hr).2
  rw [exec_scanCompletion hp, hno]
  rfl

theorem foundList_eq {found : List Nat} (hlen : found.length ≤ 4) (hnd : found.Nodup) : foundList found = found := by
  rw [foundList, (List.nodup_reverse.mpr hnd).dedup, List.reverse_reverse, List.take_of_length_le hlen]

/-- The one entry of its compartment. -/
theorem State.ScanOk.eq_of_comp {s : State} (h : s.ScanOk) {x e : ScanEntry} (hx : x ∈ s.scanner.list)
    (he : e ∈ s.scanner.list) (hc : e.comp = x.comp) : e = x := by
  obtain ⟨hnd, -⟩ := h
  exact List.inj_on_of_nodup_map hnd he hx hc

/-- The completion of the read of entry `x`: its reconciliation, then the event's end (R43). -/
theorem exec_scanCompletion_read {s : State} (hp : s.powered = true) (hscan : s.ScanOk) {x : ScanEntry}
    (hx : x ∈ s.scanner.list) (hr : x.reading = true) {found : List Nat} (hlen : found.length ≤ 4)
    (hnd : found.Nodup) : exec (.scanCompletion ⟨x.comp, found⟩) s
      = .next ((s.withdrawEntry x.comp).reconcile (s.readInput x found)).finish := by
  have hany : s.scanner.list.any (·.reads x.comp) = true :=
    List.any_eq_true.mpr ⟨x, hx, ScanEntry.reads_iff.mpr ⟨hr, rfl⟩⟩
  have hfind : s.scanner.list.find? (·.reads x.comp) = some x := by
    obtain ⟨e, he⟩ := Option.isSome_iff_exists.mp (List.find?_isSome.mpr (List.any_eq_true.mp hany))
    have hc := (ScanEntry.reads_iff.mp (List.find?_some he)).2
    rw [he, hscan.eq_of_comp hx (List.mem_of_find?_eq_some he) hc]
  rw [exec_scanCompletion hp, if_pos hany, State.completeRead, hfind, ← foundList_eq hlen hnd]
  simp only [foundList_eq hlen hnd]
  rfl

/-- While the read is reconciled its compartment's entry has left the list (R43). -/
theorem State.CabinetOk.reading {s : State} (h : s.CabinetOk) {x : ScanEntry} (hx : x ∈ s.scanner.list)
    (hr : x.reading = true) : (s.withdrawEntry x.comp).Scanned (some x.comp) :=
  h.scanned.without (h.scanned.latch.of_eq rfl) rfl (fun _ _ => rfl) (.inr ⟨rfl, h.scanned.readable x hx hr⟩)

/-- A release that names no key is no pickup's and no return's (R46). -/
theorem State.scanPurpose_keyless {s : State} {n : CompId} (h : ∀ q, (s.comp n).release = some q → q.purpose.key? = none)
    (c : Carried) : s.releaseKey n = none
      ∧ ∀ x k, s.scanPurpose n c ≠ .pickup x k ∧ s.scanPurpose n c ≠ .ret x k := by
  unfold State.releaseKey State.scanPurpose
  rcases hr : (s.comp n).release with _ | ⟨p, o⟩
  · cases c <;> simp
  · have hp := h _ hr
    cases p with
    | pickup | ret => simp [Purpose.key?] at hp
    | staff | link => cases c <;> simp [Purpose.key?]

/-! ### Tags and contents (R43, R50) -/

theorem State.keyOfTag_congr {s t : State} (h : ∀ k, (t.key k).map KeyRecord.tag = (s.key k).map KeyRecord.tag) :
    t.keyOfTag = s.keyOfTag := funext fun x => Table.find_congr fun k => by
  have hany : ∀ o : Option KeyRecord, o.any (·.tag == x) = (o.map KeyRecord.tag).any (· == x) := fun o => by
    cases o <;> rfl
  exact (hany (t.key k)).trans (Eq.trans (by rw [h k]) (hany (s.key k)).symm)

theorem State.keyOfTag_tag {s : State} (h : s.LocationOk) {k : KeyId} {r : KeyRecord} (hk : s.key k = some r) :
    s.keyOfTag r.tag = some k := (State.keyOfTag_eq_some h.1).mpr (by rw [hk]; rfl)

theorem State.foundKeys_tag {s : State} (h : s.LocationOk) {k : KeyId} {r : KeyRecord} (hk : s.key k = some r) :
    s.foundKeys [r.tag] = [k] := by rw [State.foundKeys, List.filterMap_cons_some (s.keyOfTag_tag h hk)]; rfl

/-- The notices of the tags that no key holds and that the compartment did not hold as foreign items (R50). -/
def State.foreignNotices (s : State) (i : ScanInput) : List NoticeBody :=
  (i.found.filter fun t => (s.keyOfTag t).isNone && !i.before.contains (.foreign t)).map fun t =>
    { kind := .foreignTag, minute := i.minute, comp := some i.comp, tag := some t }

theorem State.step3_eq (s : State) (i : ScanInput) : s.step3 i = s.noted (s.foreignNotices i) := by
  unfold State.step3 State.foreignNotices
  generalize i.found.filter _ = l
  induction l generalizing s with
  | nil => rfl
  | cons t l ih => exact ih _

/-- The state of a reconciliation in which step 9 re-examines the keys (R53). -/
def State.cleaned (s : State) (i : ScanInput) : State :=
  ((((s.sorted i).step5 i).step6 i).step7 i.comp).step8 ((s.step1 i).step2 i).2

section
variable {s : State} {i : ScanInput}

theorem State.sorted_keyOfTag (h : s.LocationOk) (hb : i.before = (s.comp i.comp).contents) :
    ((s.step1 i).step2 i).1.keyOfTag = s.keyOfTag := State.keyOfTag_congr (State.found_iff_there h hb).1

/-- Steps 3 and 4 write what was found (R50). -/
theorem State.sorted_eq (h : s.LocationOk) (hb : i.before = (s.comp i.comp).contents) :
    s.sorted i = (((s.step1 i).step2 i).1.noted (s.foreignNotices i)).modifyComp i.comp fun c =>
      { c with contents := i.found.map s.itemOf, known := true } := by
  have hk := State.sorted_keyOfTag h hb
  have hf : ((s.step1 i).step2 i).1.foreignNotices i = s.foreignNotices i := by
    unfold State.foreignNotices
    rw [hk]
  have hitem : ∀ v : State, v.keyOfTag = s.keyOfTag → v.itemOf = s.itemOf := fun v hv => by
    funext t
    unfold State.itemOf
    rw [hv]
  rw [State.sorted, State.step3_eq, hf, State.step4, hitem (State.noted _ _) hk]

theorem State.cleaned_still (s : State) (i : ScanInput) : Still (s.sorted i) (s.cleaned i) :=
  (State.step5_still _ _).trans ((State.step6_still _ _).trans ((State.step7_still _ _).trans (State.step8_still _ _)))

theorem State.cleaned_tag (h : s.LocationOk) (hb : i.before = (s.comp i.comp).contents) (k : KeyId) :
    ((s.cleaned i).key k).map KeyRecord.tag = (s.key k).map KeyRecord.tag := by
  rw [(s.cleaned_still i).places.tag, State.sorted_eq h hb]
  exact (State.found_iff_there h hb).1 k

/-- The keys that step 9 re-examines (R53). -/
def State.reviewed (s : State) (i : ScanInput) : List KeyId :=
  keysOf i.before ++ s.foundKeys i.found ++ (s.releaseKey i.comp).toList
    ++ ((s.step1 i).step2 i).2.lost.flatMap fun m => keysOf ((s.cleaned i).comp m).contents

theorem State.reconcile_cleaned (h : s.LocationOk) (hb : i.before = (s.comp i.comp).contents) :
    s.reconcile i = (s.cleaned i).reexamineAll (i.minute.getD 0) (s.reviewed i) := by
  have hk : (s.cleaned i).keyOfTag = s.keyOfTag := State.keyOfTag_congr (State.cleaned_tag h hb)
  have hf : (s.cleaned i).foundKeys i.found = s.foundKeys i.found := by
    unfold State.foundKeys
    rw [hk]
  rw [State.reviewed, ← hf]
  rfl

end

/-! ### The end of the event (R43, R45) -/

/-- The end of an event that left the scan list `list` and made the contents of compartment `n` known. -/
theorem State.finish_known {s v : State} {n : CompId} {list : List ScanEntry}
    (hsc : v.scanner = { s.scanner with list := list }) (hov : v.overdue = s.overdue)
    (hknown : ∀ m, (v.comp m).known = (m == n || (s.comp m).known)) :
    Settled { v.noted ({ s with scanner := { s.scanner with list := list } }.sweepNotice
          ((fins 192).countP fun m => m != n && !(s.comp m).known)) with
        scanner := { list := v.finish.scanner.list
                     sweeping := s.scanner.sweeping && list.any (·.cls == .sweep) } } v.finish
      ∧ ListKept { s with scanner := { s.scanner with list := list } } v.finish := by
  have hcount : v.unknownCount = (fins 192).countP fun m => m != n && !(s.comp m).known := by
    rw [State.unknownCount_eq]
    refine congrArg (List.countP · _) (funext fun m => ?_)
    rw [hknown, Bool.not_or]
    rfl
  have hnote : v.sweepNotice ((fins 192).countP fun m => m != n && !(s.comp m).known)
      = { s with scanner := { s.scanner with list := list } }.sweepNotice
        ((fins 192).countP fun m => m != n && !(s.comp m).known) := by
    unfold State.sweepNotice State.present
    rw [hsc, hov]
  obtain ⟨hs, hkept⟩ := State.finish_swept hcount
  rw [hnote, hsc] at hs
  refine ⟨hs, ?_⟩
  unfold ListKept at hkept ⊢
  rw [hsc] at hkept
  exact hkept

end Sys2Proof.Machine
end

section
/-! SUPPORT. A reconciliation in progress: what its steps have written so far of one compartment, the key table, the
contract table and the notices, and what each further step makes of that (R46-R53). -/

namespace Sys2Proof.Table

theorem set_get_self {α : Type} {n : Nat} (t : Table α n) (i : Fin n) : t.set i (t.get i) = t :=
  ext_get fun j => by
    rw [get_set]
    split
    · next e => rw [e]
    · rfl

theorem modify_set {α : Type} {n : Nat} (t : Table α n) (i : Fin n) (a : α) (f : α → α) :
    (t.set i a).modify i f = t.set i (f a) := by rw [modify, get_set_self, set_set]

end Sys2Proof.Table

namespace Sys2Proof.Machine

/-! ### The key table (R1, R4) -/

/-- The key table with record `r` at place `k`. -/
def KeyTable.put (y : KeyTable) (k : KeyId) (r : KeyRecord) : KeyTable := { y with places := y.places.set k (some r) }

/-- The key table with the promise on a key cleared (R4). -/
def KeyTable.unpromised (y : KeyTable) : Option KeyId → KeyTable
  | none => y
  | some k => { y with places := y.places.modify k (Option.map fun r => { r with promisedTo := none }) }

theorem KeyTable.put_get {y : KeyTable} {k : KeyId} {r : KeyRecord} (h : y.places.get k = some r) : y.put k r = y := by
  rw [KeyTable.put, ← h, Table.set_get_self]

theorem KeyTable.put_put (y : KeyTable) (k : KeyId) (r r' : KeyRecord) : (y.put k r).put k r' = y.put k r' := by
  rw [KeyTable.put, KeyTable.put, Table.set_set]
  rfl

theorem KeyTable.put_unpromised (y : KeyTable) (k : KeyId) (r : KeyRecord) :
    (y.put k r).unpromised (some k) = y.put k { r with promisedTo := none } := by
  rw [KeyTable.unpromised, KeyTable.put, Table.modify_set]
  rfl

theorem State.modifyKey_put {s : State} {k : KeyId} {r : KeyRecord} (h : s.key k = some r)
    (f : KeyRecord → KeyRecord) : s.modifyKey k f = s.withKeys (s.keys.put k (f r)) := State.modifyKey_eq h f

/-! ### The state in progress -/

/-- `s` while compartment `n` is reconciled: that compartment's record `c`, the key table `y` and the contract table `x`
as they stand, and the notices entered so far. -/
def State.reconciling (s : State) (n : CompId) (c : Compartment) (y : KeyTable) (x : ContractTable)
    (bs : List NoticeBody) : State :=
  { s.noted bs with
    compartments := { s.compartments with table := s.compartments.table.set n c }, keys := y, contracts := x }

section
variable {s : State} {n : CompId} {c : Compartment} {y : KeyTable} {x : ContractTable} {bs : List NoticeBody}

theorem State.reconciling_self (s : State) (n : CompId) : s.reconciling n (s.comp n) s.keys s.contracts [] = s := by
  have h : s.compartments.table.set n (s.comp n) = s.compartments.table := Table.set_get_self _ _
  rw [State.reconciling, h]
  rfl

theorem State.reconciling_comp : (s.reconciling n c y x bs).comp n = c := Table.get_set_self _ _ _

theorem State.reconciling_comp_ne {m : CompId} (h : m ≠ n) : (s.reconciling n c y x bs).comp m = s.comp m :=
  Table.get_set_ne _ _ (Ne.symm h)

theorem State.reconciling_noted (bs' : List NoticeBody) :
    (s.reconciling n c y x bs).noted bs' = s.reconciling n c y x (bs ++ bs') := by
  unfold State.reconciling
  rw [State.noted_append]
  rfl

theorem State.reconciling_modifyComp (f : Compartment → Compartment) :
    (s.reconciling n c y x bs).modifyComp n f = s.reconciling n (f c) y x bs := by
  have h : (s.compartments.table.set n c).modify n f = s.compartments.table.set n (f c) := Table.modify_set _ _ _ _
  unfold State.reconciling
  rw [← h]
  rfl

/-- A key moves out of the compartment that is reconciled (R2). -/
theorem State.moveKey_reconciling {k : KeyId} {r : KeyRecord} (hk : s.key k = some r) (hl : r.location = .compartment n)
    {l : Location} (hne : l ≠ .compartment n) : s.moveKey k l
      = s.reconciling n { s.comp n with contents := (s.comp n).contents.filter (· != Item.key k) }
        (s.keys.put k { r with location := l }) s.contracts [] := by
  have hm := State.modifyKey_put (s := s.modifyComp n fun c =>
    { c with contents := c.contents.filter (· != Item.key k) }) hk fun r => { r with location := l }
  rw [State.moveKey, hk]
  dsimp only
  rw [hl]
  dsimp only
  rw [if_neg hne]
  exact hm

/-- Step 7 clears the promise on the release's key, the release and the reservation, and locks the door (R52). -/
theorem State.reconciling_step7 : (s.reconciling n c y x bs).step7 n
    = s.reconciling n { c with release := none, reservation := none, door := .locked }
      (y.unpromised (c.release.bind fun r => r.purpose.key?)) x bs := by
  have hr : (s.reconciling n c y x bs).releaseKey n = c.release.bind fun r => r.purpose.key? := by
    rw [State.releaseKey, State.reconciling_comp]
  unfold State.step7
  rw [hr]
  rcases c.release.bind fun r => r.purpose.key? with _ | j
  · exact State.reconciling_modifyComp _
  · exact State.reconciling_modifyComp (y := y.unpromised (some j)) _

/-! ### The contract of the carried purpose (R51) -/

/-- A contract rewritten under its number keeps the numbers apart (R56). -/
theorem State.Numbered.rewrote {s t : State} (h : s.Numbered) {sl : Slot} {a b : Contract} (ha : s.slot sl = some a)
    (hr : Rewrote s t sl (some b)) (hn : b.number = a.number) : t.Numbered := by
  have hold : ∀ i e, t.slot i = some e → ∃ e', s.slot i = some e' ∧ e'.number = e.number := fun i e he => by
    by_cases hi : i = sl
    · rw [hi, hr.self] at he
      obtain rfl := Option.some.inj he
      exact ⟨a, hi ▸ ha, hn.symm⟩
    · exact ⟨e, (hr.other i hi).symm.trans he, rfl⟩
  intro i j e f he hf hef
  obtain ⟨e', he', h1⟩ := hold i e he
  obtain ⟨f', hf', h2⟩ := hold j f hf
  exact h i j e' f' he' hf' (h1.trans (hef.trans h2.symm))

/-- A state with `d` in slot `sl` and these notices. -/
def State.turnedTo (u : State) (sl : Slot) (r : List NoticeBody × Contract) : State :=
  { u.noted r.1 with contracts := { u.contracts with slots := u.contracts.slots.set sl (some r.2) } }

theorem State.turnedTo_self {u : State} {sl : Slot} {d : Contract} (h : u.slot sl = some d) :
    u.turnedTo sl ([], d) = u := by
  have hs : u.contracts.slots.set sl (some d) = u.contracts.slots := by
    rw [show some d = u.contracts.slots.get sl from h.symm, Table.set_get_self]
  unfold State.turnedTo
  rw [hs]
  rfl

variable {u : State} {i : ScanInput} {d : Contract} {sl : Slot} {k : KeyId}

/-- Without a pickup or a return carried, steps 5 and 6 do nothing (R51). -/
theorem State.step6_keyless (h : ∀ x k, i.purpose ≠ .pickup x k ∧ i.purpose ≠ .ret x k) (u : State) :
    (u.step5 i).step6 i = u := by
  unfold State.step6 State.step5
  split
  · next c j hp => exact absurd hp (h c j).2
  · split
    · next c j hp => exact absurd hp (h c j).1
    · rfl

theorem unmet_pickup (m : Option Nat) (n : CompId) (x : Nat) (k : KeyId) (d : Contract) : unmet m n (.pickup x k) d
    = if d.state = .picking then (handoutFailed m n k d 0, fellBack d) else ([], d) := rfl

theorem unmet_return (m : Option Nat) (n : CompId) (x : Nat) (k : KeyId) (d : Contract) : unmet m n (.ret x k) d
    = if d.state = .returning then
        ([{ kind := .returnFailed, minute := m, comp := some n, key := some k, contract := some d.number
            detailA := 3 }], { d with state := .out })
      else ([], d) := rfl

/-- A pickup carried that step 1 did not complete falls back (R51). -/
theorem State.step6_pickup (hn : u.Numbered) (hsl : u.slot sl = some d) (hp : i.purpose = .pickup d.number k) :
    (u.step5 i).step6 i = u.turnedTo sl (unmet u.present i.comp (.pickup d.number k) d) := by
  have h5 : (u.step5 i).step6 i = u.fallBack d.number k i.comp .notTaken := by
    unfold State.step6 State.step5
    rw [hp]
  rw [h5, unmet_pickup]
  by_cases hst : d.state = .picking
  · rw [State.fallBack_eq hn hsl hst, if_pos hst]
    rfl
  · have hc : u.contract d.number = some d := (State.contract_iff hn).mpr ⟨sl, hsl, rfl⟩
    rw [if_neg hst, State.turnedTo_self hsl, State.fallBack, hc]
    exact if_neg hst

/-- A return carried that step 2 did not close fails (R51). -/
theorem State.step6_return (hn : u.Numbered) (hsl : u.slot sl = some d) (hp : i.purpose = .ret d.number k) :
    (u.step5 i).step6 i = u.turnedTo sl (unmet u.present i.comp (.ret d.number k) d) := by
  have h5 : (u.step5 i).step6 i = u.returnFailed d.number k i.comp .notPlaced := by
    unfold State.step6 State.step5
    rw [hp]
  rw [h5, unmet_return]
  by_cases hst : d.state = .returning
  · rw [State.returnFailed_eq hn hsl hst, if_pos hst]
    rfl
  · rw [if_neg hst, State.turnedTo_self hsl, State.returnFailed, if_neg fun hc => hst ?_]
    obtain ⟨sl', d', hsl', hd', hst'⟩ := (State.contractState_iff hn).mp hc
    obtain rfl := hn sl' sl d' d hsl' hsl hd'
    obtain rfl := Option.some.inj (hsl'.symm.trans hsl)
    exact hst'

end

/-! ### Steps 3 to 8 -/

/-- From what steps 1 and 2 left, when no unknown tag was found: the contents, the clean-up of the purpose carried, and
the marks of the keys whose contracts step 2 closed (R50-R53). -/
theorem State.cleaned_reconciling {s b : State} {i : ScanInput} {c : Compartment} {y : KeyTable} {x x' : ContractTable}
    {bs bs' : List NoticeBody} {log : FoundLog} (h : s.LocationOk) (hb : i.before = (s.comp i.comp).contents)
    (hfound : s.foreignNotices i = [])
    (h2 : (s.step1 i).step2 i = (b.reconciling i.comp c y x bs, log))
    (h6 : ∀ c', ((b.reconciling i.comp c' y x bs).step5 i).step6 i = b.reconciling i.comp c' y x' bs') :
    s.cleaned i = (b.reconciling i.comp (c.scanned (i.found.map s.itemOf))
      (y.unpromised (c.release.bind fun r => r.purpose.key?)) x' bs').step8 log := by
  have h4 : s.sorted i = b.reconciling i.comp { c with contents := i.found.map s.itemOf, known := true } y x bs := by
    rw [State.sorted_eq h hb, hfound, h2]
    exact State.reconciling_modifyComp _
  rw [State.cleaned, h4, h6, State.reconciling_step7, h2]
  rfl

/-! ### Step 9 and the event's end (R6, R43, R53) -/

theorem State.reexamine_reexamine (s : State) (m : Nat) (k : KeyId) :
    (s.reexamine m k).reexamine m k = s.reexamine m k := by
  cases hk : (s.reexamine m k).key k with
  | none => exact State.reexamine_none hk m
  | some r =>
    have hin := (s.reexamine_inList m k).1
    obtain ⟨-, he⟩ | ⟨ha, hl, -⟩ | ⟨ha, hl, -⟩ := State.reexamine_cases hk m
    · exact he
    · rw [ha, hl] at hin; cases hin
    · rw [ha, hl] at hin; cases hin

/-- One key re-examined several times (R53). -/
theorem State.reexamineAll_one (s : State) (m : Nat) {k : KeyId} {ks : List KeyId} (hne : ks ≠ [])
    (hks : ∀ j ∈ ks, j = k) : s.reexamineAll m ks = s.reexamine m k := by
  have hrest : ∀ l : List KeyId, (∀ j ∈ l, j = k) → (s.reexamine m k).reexamineAll m l = s.reexamine m k := by
    intro l hl
    induction l with
    | nil => rfl
    | cons j l ih =>
      obtain rfl := hl j List.mem_cons_self
      change ((s.reexamine m j).reexamine m j).reexamineAll m l = _
      rw [s.reexamine_reexamine]
      exact ih fun i hi => hl i (List.mem_cons_of_mem _ hi)
  cases ks with
  | nil => exact absurd rfl hne
  | cons j l =>
    obtain rfl := hks j List.mem_cons_self
    exact hrest l fun i hi => hks i (List.mem_cons_of_mem _ hi)

section
variable {s b : State} {n : CompId} {c : Compartment} {y : KeyTable} {x : ContractTable} {bs : List NoticeBody}
  {list : List ScanEntry} {ks : List KeyId} {t : State}

/-- The end of a scan's event: `b` is what the cabinet's operations left of `s`, `c` the compartment's new record. -/
theorem State.reconciling_finish (hsc : b.scanner = { s.scanner with list := list }) (hov : b.overdue = s.overdue)
    (hkn : ∀ m, (b.comp m).known = (s.comp m).known) (hc : c.known = true) {m : Nat}
    (ht : ((b.reconciling n c y x bs).reexamineAll m ks).finish = t) :
    (Settled { b.noted (bs ++ { s with scanner := { s.scanner with list := list } }.sweepNotice
          ((fins 192).countP fun m => m != n && !(s.comp m).known)) with
        compartments := { b.compartments with table := b.compartments.table.set n c }
        scanner := { list := t.scanner.list
                     sweeping := s.scanner.sweeping && list.any (·.cls == .sweep) }
        contracts := x, keys := t.keys } t
      ∧ ListKept { s with scanner := { s.scanner with list := list } } t)
      ∧ t.compartments = { b.compartments with table := b.compartments.table.set n c }
      ∧ t.contracts = x ∧ t.keys = ((b.reconciling n c y x bs).reexamineAll m ks).keys := by
  obtain ⟨z, hz⟩ := (b.reconciling n c y x bs).reexamineAll_frame m ks
  rw [hz] at ht ⊢
  have hkn' : ∀ m, (((b.reconciling n c y x bs).withKeys z).comp m).known = (m == n || (s.comp m).known) := fun m => by
    change ((b.reconciling n c y x bs).comp m).known = _
    by_cases e : m = n
    · rw [e, State.reconciling_comp, hc, beq_self_eq_true, Bool.true_or]
    · rw [State.reconciling_comp_ne e, hkn, beq_false_of_ne e, Bool.false_or]
  obtain ⟨hs, hkept⟩ := State.finish_known (s := s) (v := (b.reconciling n c y x bs).withKeys z) (n := n) hsc hov hkn'
  rw [ht] at hs hkept
  obtain ⟨h1, h2, h3, -⟩ := hs.records
  refine ⟨⟨?_, hkept⟩, h2, h3, h1⟩
  rw [h1, State.noted_append]
  exact hs

/-- The one key that a scan touched is re-examined with the contents known (R53). -/
theorem State.reconciling_reexamined {k : KeyId} {r : KeyRecord} (hov : b.overdue = s.overdue) (hne : ks ≠ [])
    (hks : ∀ j ∈ ks, j = k) (hy : y = s.keys.put k r)
    (hc : t.compartments = { b.compartments with table := b.compartments.table.set n c }) (hx : t.contracts = x)
    (ht : t.keys = ((b.reconciling n c y x bs).reexamineAll s.joinMinute ks).keys) :
    Reexamined { s with contracts := t.contracts, compartments := t.compartments } t k r := by
  subst hy hx
  have hk : (b.reconciling n c (s.keys.put k r) t.contracts bs).key k = some r := Table.get_set_self _ _ _
  have hm : s.joinMinute = (b.reconciling n c (s.keys.put k r) t.contracts bs).joinMinute := by
    unfold State.joinMinute State.present
    rw [← hov]
    rfl
  rw [State.reexamineAll_one _ _ hne hks, hm] at ht
  refine (State.reexamine_reexamined hk).congr (MayBeListed.congr (fun m _ => ?_) rfl) rfl hov
    (fun j hj => Table.get_set_ne _ _ (Ne.symm hj)) ht
  unfold State.comp
  rw [hc]
  exact ⟨rfl, rfl, rfl⟩

end

end Sys2Proof.Machine
end

section
/-! SUPPORT. O35: what every scan completion leaves of its compartment and of the keys (R43, R47, R50, R52). -/

namespace Sys2Proof.Machine

/-! ### The compartment that is read, through steps 1 and 2 -/

/-- Compartment `n` differs at most in what a scan writes (R50, R52). -/
def SameShell (s t : State) (n : CompId) : Prop := ∀ items, (t.comp n).scanned items = (s.comp n).scanned items

theorem SameShell.of_comp {s t : State} {n : CompId} (h : t.comp n = s.comp n) : SameShell s t n := fun _ => by rw [h]

theorem SameShell.refl (s : State) (n : CompId) : SameShell s s n := fun _ => rfl

theorem SameShell.trans {s t u : State} {n : CompId} (h : SameShell s t n) (g : SameShell t u n) : SameShell s u n :=
  fun items => (g items).trans (h items)

theorem State.moveKey_shell (s : State) (k : KeyId) (l : Location) (n : CompId) : SameShell s (s.moveKey k l) n :=
  fun items => by
    rw [s.moveKey_comp k l n]
    split <;> rfl

theorem State.keyGone_shell (s : State) (i : ScanInput) (k : KeyId) (n : CompId) : SameShell s (s.keyGone i k) n := by
  obtain ⟨x, -, hp, he⟩ | ⟨l, b, -, he⟩ := s.keyGone_cases i k <;> rw [he]
  · obtain ⟨sl, c, hsl, hc, -⟩ := State.contractState_slotOf hp
    have hout : SameShell s (s.handedOut i x k sl) n :=
      State.moveKey_shell ((s.modifySlot sl fun c => { c with state := .out, handoutMinute := i.minute }).dropCode sl) k
        (.out x) n
    obtain ⟨he, -⟩ | ⟨e, -, -, he⟩ := State.handoutDone_cases (i := i) (k := k) hsl hc <;> rw [he]
    · exact hout
    · rw [State.reexamine_frame]
      exact hout
  · exact s.moveKey_shell k l n

theorem State.step1_shell (s : State) (i : ScanInput) (n : CompId) : SameShell s (s.step1 i) n := by
  unfold State.step1
  generalize (keysOf i.before).filter _ = l
  induction l generalizing s with
  | nil => exact .refl s n
  | cons k l ih => exact (s.keyGone_shell i k n).trans (ih _)

/-- A cancel that reaches another compartment's release leaves the one being read: it neither waits nor holds a channel
(R22, R30). -/
theorem State.Scanned.cancelRelease_comp {s t : State} {n m named : CompId} (h : s.Scanned (some n))
    (ht : s.cancelRelease m named = some t) : t.comp n = s.comp n ∧ m ≠ n := by
  obtain ⟨hread, -⟩ := h.apart n rfl
  obtain ⟨-, hlatched⟩ := State.cancelRelease_scanner ht
  obtain ⟨-, hwaiting, hunlatched⟩ := State.cancelRelease_dropped h.latch ht
  have hne : m ≠ n := by
    rintro rfl
    obtain hd | hd := hlatched <;> rw [hd] at hread <;> cases hread
  have hqueue : n ∉ s.compartments.queue := h.latch.not_queued fun hd => by rw [hd] at hread; cases hread
  refine ⟨?_, hne⟩
  obtain hd | hd := hlatched
  · obtain ⟨-, -, -, hother⟩ := hwaiting hd
    exact hother n hne.symm
  · obtain ⟨-, -, -, hother⟩ := hunlatched hd
    rw [hother n hne.symm, if_neg (show ¬ s.compartments.queue.head? = some n from
      fun hh => hqueue (List.mem_of_mem_head? hh))]

theorem State.Scanned.cancelReturn_shell {s : State} {n : CompId} (h : s.Scanned (some n)) (x : Nat) :
    SameShell s (s.cancelReturn x) n := by
  unfold State.cancelReturn
  split
  · exact .refl s n
  · next m _ =>
    split
    · next ht => exact .of_comp (h.cancelRelease_comp ht).1
    · by_cases e : m = n
      · subst e
        exact fun items => by rw [State.modifyComp_comp_self]; rfl
      · exact .of_comp (State.modifyComp_comp_ne _ _ e)

theorem State.Scanned.withdrawPromise_comp {s : State} {n : CompId} (h : s.Scanned (some n)) (k : KeyId)
    (scanned : Option CompId) : (s.withdrawPromise k scanned).comp n = s.comp n := by
  have hk : (s.clearPromise k).Scanned (some n) := h.undisturbed (State.modifyKey_undisturbed _ _ _)
  unfold State.withdrawPromise
  split
  · rfl
  dsimp only
  split
  · rfl
  · next m _ =>
    cases hc : State.cancelRelease _ m (scanned.getD m) with
    | none => rfl
    | some t => exact (hk.cancelRelease_comp hc).1

theorem State.Scanned.keyFound_shell {s : State} {i : ScanInput} (h : s.Scanned (some i.comp)) (log : FoundLog)
    (k : KeyId) : SameShell s (s.keyFound i log k).1 i.comp := by
  have hclosed : ∀ x r, SameShell s (s.closeContract x r i.minute (some i.comp)) i.comp := fun x r =>
    .of_comp (by unfold State.comp; rw [State.closeContract_compartments])
  unfold State.keyFound
  split
  · exact .refl s _
  · split
    · exact (hclosed _ _).trans (State.moveKey_shell _ _ _ _)
    · exact ((hclosed _ _).trans (State.Scanned.cancelReturn_shell
        (h.undisturbed (State.closeContract_undisturbed _ _ _ _ _)) _)).trans (State.moveKey_shell _ _ _ _)
  · next m _ =>
    split
    · exact .refl s _
    · next hm =>
      have hq : ((s.moveKey k (.compartment i.comp)).requestSweep m).Scanned (some i.comp) :=
        (h.undisturbed (State.moveKey_undisturbed _ _ _)).requestSweep fun e => hm (Option.some.inj e).symm
      refine ((s.moveKey_shell k (.compartment i.comp) _).trans (.of_comp ?_)).trans
        (.of_comp (hq.withdrawPromise_comp k _))
      exact (State.requestSweep_comp _ m).1 _ (Ne.symm hm)
  all_goals exact s.moveKey_shell _ _ _

theorem State.Scanned.step2_shell {s : State} {i : ScanInput} (h : s.Scanned (some i.comp)) :
    SameShell s (s.step2 i).1 i.comp := by
  have fold : ∀ (l : List KeyId) (p : State × FoundLog), p.1.Scanned (some i.comp) →
      SameShell p.1 (l.foldl (fun p k => p.1.keyFound i p.2 k) p).1 i.comp := by
    intro l
    induction l with
    | nil => exact fun p _ => .refl p.1 _
    | cons k l ih => exact fun p hp => (hp.keyFound_shell p.2 k).trans (ih _ (hp.keyFound p.2 k))
  exact fold _ _ h

/-! ### The whole reconciliation (R46) -/

theorem State.step7_comp (s : State) (n : CompId) :
    (s.step7 n).comp n = { s.comp n with release := none, reservation := none, door := .locked } := by
  unfold State.step7
  dsimp only
  split <;> exact State.modifyComp_comp_self _ _ _

section
variable {s : State} {i : ScanInput} (h : s.LocationOk) (hb : i.before = (s.comp i.comp).contents)
include h hb

/-- A scan writes its compartment's contents and releases it behind a LOCKED door (R50, R52). -/
theorem State.Scanned.reconcile_comp (hs : s.Scanned (some i.comp)) :
    (s.reconcile i).comp i.comp = (s.comp i.comp).scanned (i.found.map s.itemOf) := by
  have h2 : SameShell s ((s.step1 i).step2 i).1 i.comp :=
    (s.step1_shell i _).trans (hs.undisturbed (s.step1_undisturbed i)).step2_shell
  have h6 : (((s.sorted i).step5 i).step6 i).comp i.comp = (s.sorted i).comp i.comp := by
    unfold State.comp
    rw [State.step6_compartments]
  obtain ⟨y, hy⟩ := State.step8_frame ((((s.sorted i).step5 i).step6 i).step7 i.comp) ((s.step1 i).step2 i).2
  obtain ⟨z, hz⟩ := (s.cleaned i).reexamineAll_frame (i.minute.getD 0) (s.reviewed i)
  rw [State.reconcile_cleaned h hb, hz, State.cleaned, hy]
  refine (State.step7_comp _ _).trans ?_
  rw [h6, State.sorted_eq h hb, State.modifyComp_comp_self]
  exact h2 _

theorem State.reconcile_tag (k : KeyId) :
    ((s.reconcile i).key k).map KeyRecord.tag = (s.key k).map KeyRecord.tag := by
  rw [State.reconcile_cleaned h hb, (State.reexamineAll_still _ _ _).places.tag, State.cleaned_tag h hb]

end

/-! ### A scan that concerns no key -/

/-- Without a key before it, found by it or named by its release, a scan writes its compartment and enters the notices of
its foreign items (R50, R52). -/
theorem State.reconcile_keyless {s : State} {i : ScanInput} (hbefore : ∀ k, Item.key k ∉ i.before)
    (hfound : ∀ t ∈ i.found, s.keyOfTag t = none) (hkey : s.releaseKey i.comp = none)
    (hp : ∀ x k, i.purpose ≠ .pickup x k ∧ i.purpose ≠ .ret x k) : s.reconcile i
      = s.reconciling i.comp ((s.comp i.comp).scanned (i.found.map Item.foreign)) s.keys s.contracts
        (s.foreignNotices i) := by
  have hnone : keysOf i.before = [] := List.eq_nil_iff_forall_not_mem.mpr fun k hk => hbefore k (mem_keysOf.mp hk)
  have hno : ∀ v : State, v.keys = s.keys → v.foundKeys i.found = [] := fun v hv =>
    List.filterMap_eq_nil_iff.mpr fun t ht => by
      rw [State.keyOfTag, hv]
      exact hfound t ht
  have hitems : i.found.map s.itemOf = i.found.map Item.foreign :=
    List.map_congr_left fun t ht => by rw [State.itemOf, hfound t ht]
  have h1 : s.step1 i = s := by
    unfold State.step1
    rw [hnone]
    rfl
  have h2 : s.step2 i = (s, ⟨[], []⟩) := by
    unfold State.step2
    rw [hno s rfl]
    rfl
  have h4 : s.sorted i = s.reconciling i.comp { s.comp i.comp with contents := i.found.map Item.foreign, known := true }
      s.keys s.contracts (s.foreignNotices i) := by
    rw [State.sorted, h1, h2, State.step3_eq, ← hitems]
    have hself := congrArg (State.noted · (s.foreignNotices i)) (s.reconciling_self i.comp)
    rw [State.reconciling_noted] at hself
    rw [← hself]
    exact State.reconciling_modifyComp _
  have hlast : ∀ v : State, v.keys = s.keys → v.step9 i ⟨[], []⟩ none = v := fun v hv => by
    unfold State.step9
    rw [hnone, hno v hv]
    rfl
  have hrel : ((s.comp i.comp).release.bind fun r => r.purpose.key?) = none := hkey
  rw [State.reconcile_eq, h1, h2, hkey, h4, State.step6_keyless hp, State.reconciling_step7]
  dsimp only
  rw [hrel]
  exact hlast _ rfl

/-! ### O35 -/

/-- Settles O35: what the reconciliation leaves of its compartment (`State.Scanned.reconcile_comp`), with the law of
location, places every key; without a key the whole reconciliation is `State.reconcile_keyless`. -/
theorem scanWritesTheContents : Obligations.ScanWritesTheContents := by
  intro s found hp
  refine ⟨fun n hno => exec_scanCompletion_abandoned hp hno found, fun x hcab hloc hx hr hlen hnd => ?_⟩
  have hexec := exec_scanCompletion_read hp hcab.2 hx hr hlen hnd
  have hw : (s.withdrawEntry x.comp).LocationOk := hloc.of_still (.of_same (s.withdrawEntry_same _))
  have hb : (s.readInput x found).before = ((s.withdrawEntry x.comp).comp (s.readInput x found).comp).contents := rfl
  have hread : (s.withdrawEntry x.comp).Scanned (some (s.readInput x found).comp) := hcab.reading hx hr
  obtain ⟨hkeys, hcomps, -⟩ := ((s.withdrawEntry x.comp).reconcile (s.readInput x found)).finish_same
  have hlaw := (exec_keeps hcab hexec).2
  have hloc' := (State.reconcile_located hw hb hnd).of_still (.of_eq hkeys hcomps)
  have hcomp := hread.reconcile_comp hw hb
  have htag := State.reconcile_tag hw hb
  generalize hv : (s.withdrawEntry x.comp).reconcile (s.readInput x found) = v at *
  have hcomp : v.finish.comp x.comp = (s.comp x.comp).scanned (found.map s.itemOf) := by
    rw [State.comp, hcomps]
    exact hcomp
  have hthere : ∀ k r, s.key k = some r → (r.tag ∈ found
      ↔ (v.finish.key k).map KeyRecord.location = some (.compartment x.comp)) := fun k r hk => by
    rw [← hloc'.2.1 k x.comp, hcomp]
    change _ ↔ Item.key k ∈ found.map s.itemOf
    rw [List.mem_map]
    constructor
    · exact fun hf => ⟨r.tag, hf, State.itemOf_key.mpr (State.keyOfTag_tag hloc hk)⟩
    · rintro ⟨t, ht, hi⟩
      have hkt := (State.keyOfTag_eq_some hloc.1).mp (State.itemOf_key.mp hi)
      rw [hk] at hkt
      exact Option.some.inj hkt ▸ ht
  refine ⟨v.finish, hexec, ?_, ?_, fun k r hk hf => (hthere k r hk).mp hf,
    fun k r hk hf hl => hf ((hthere k r hk).mpr hl), fun k => ?_, fun hrel hkeyless hno => ?_⟩
  · rw [hcomp]
    rfl
  · obtain ⟨-, -, hunlocked, -⟩ := hlaw
    exact fun e he hc => hunlocked e he (by rw [hc, hcomp]; rfl)
  · rw [State.key, hkeys]
    exact htag k
  · obtain ⟨hkey, hpurpose⟩ := State.scanPurpose_keyless hrel x.carried
    have hnone : ∀ t ∈ found, s.keyOfTag t = none := fun t ht =>
      State.keyOfTag_eq_none.mpr fun k r hk hrt => hno k r hk (hrt ▸ ht)
    have hnotices : (s.withdrawEntry x.comp).foreignNotices (s.readInput x found)
        = (found.filter fun t => !(s.comp x.comp).contents.contains (.foreign t)).map fun t =>
          { kind := .foreignTag, minute := s.present, comp := some x.comp, tag := some t } := by
      refine congrArg (List.map _) (List.filter_congr fun t ht => ?_)
      change ((s.keyOfTag t).isNone && _) = _
      rw [hnone t ht]
      rfl
    have hv' := State.reconcile_keyless (s := s.withdrawEntry x.comp) (i := s.readInput x found) hkeyless hnone hkey
      hpurpose
    rw [hv, hnotices] at hv'
    obtain ⟨hend, -, -, hsame⟩ := State.reconciling_finish (s := s) (b := s.withdrawEntry x.comp) (ks := []) (m := 0)
      (n := x.comp) (c := (s.comp x.comp).scanned (found.map Item.foreign)) rfl rfl (fun _ => rfl) rfl
      (congrArg State.finish hv'.symm)
    rw [hsame] at hend
    exact hend

end Sys2Proof.Machine
end

section
/-! SUPPORT. What a scan's purpose comes to, and the one key that a scan concerns (R46, R47, R51-R53, R74). -/

namespace Sys2Proof.Machine

/-! ### The purpose carried (R46) -/

section
variable {s : State} {n : CompId} {p : Purpose} {o : Origin}

theorem State.scanPurpose_release (h : (s.comp n).release = some ⟨p, o⟩) :
    (∀ c k, p = .pickup c k → s.scanPurpose n .release = .pickup c k)
      ∧ (∀ c k, p = .ret c k → s.scanPurpose n .release
        = if s.contractState c = some .returning then .ret c k else .nothing)
      ∧ (∀ b, p = .staff b → s.scanPurpose n .release = .staff)
      ∧ (p = .link → s.scanPurpose n .release = .link) := by
  unfold State.scanPurpose
  rw [h]
  refine ⟨?_, ?_, ?_, ?_⟩ <;> intros <;> subst p <;> rfl

theorem State.releaseKey_eq (h : (s.comp n).release = some ⟨p, o⟩) : s.releaseKey n = p.key? := by
  rw [State.releaseKey, h]
  rfl

end

section
variable {s u : State} {i : ScanInput} {p : Purpose} {o : Origin} {d : Contract} {sl : Slot} {j : KeyId}

/-- The purpose of a pickup's or return's release, by its contract (R46). -/
theorem State.carriedPurpose (hn : s.Numbered) (hsl : s.slot sl = some d)
    (hr : (s.comp i.comp).release = some ⟨p, o⟩) (hp : p = .ret d.number j ∨ p = .pickup d.number j)
    (hi : i.purpose = s.scanPurpose i.comp .release) :
    (p = .pickup d.number j ∧ i.purpose = .pickup d.number j)
      ∨ (p = .ret d.number j ∧ d.state = .returning ∧ i.purpose = .ret d.number j)
      ∨ (p = .ret d.number j ∧ d.state ≠ .returning ∧ i.purpose = .nothing) := by
  obtain ⟨hpickup, hreturn, -⟩ := State.scanPurpose_release hr
  have hstate : s.contractState d.number = some d.state := (State.contractState_iff hn).mpr ⟨sl, d, hsl, rfl, rfl⟩
  obtain hp | hp := hp
  · have hpur := hreturn _ _ hp
    rw [hstate] at hpur
    by_cases hst : d.state = .returning
    · exact .inr (.inl ⟨hp, hst, hi.trans (hpur.trans (if_pos (by rw [hst])))⟩)
    · exact .inr (.inr ⟨hp, hst, hi.trans (hpur.trans (if_neg fun h => hst (Option.some.inj h)))⟩)
  · exact .inl ⟨hp, hi.trans (hpickup _ _ hp)⟩

/-- What steps 5 and 6 make of the contract that the release names (R51). -/
theorem State.step6_carried (hn : s.Numbered) (hsl : s.slot sl = some d)
    (hr : (s.comp i.comp).release = some ⟨p, o⟩) (hp : p = .ret d.number j ∨ p = .pickup d.number j)
    (hi : i.purpose = s.scanPurpose i.comp .release) (hu : u.contracts = s.contracts) :
    (u.step5 i).step6 i = u.turnedTo sl (unmet u.present i.comp p d) := by
  have hun : u.Numbered := by
    unfold State.Numbered State.slot
    rw [hu]
    exact hn
  have husl : u.slot sl = some d := (State.slot_of_eq hu sl).trans hsl
  obtain ⟨rfl, hpur⟩ | ⟨rfl, -, hpur⟩ | ⟨rfl, hst, hpur⟩ := State.carriedPurpose hn hsl hr hp hi
  · exact State.step6_pickup hun husl hpur
  · exact State.step6_return hun husl hpur
  · rw [State.step6_keyless (fun x k => by rw [hpur]; exact ⟨by simp, by simp⟩), unmet_return, if_neg hst,
      State.turnedTo_self husl]

end

theorem State.reconciling_turnedTo {s : State} {n : CompId} {c : Compartment} {y : KeyTable} {x : ContractTable}
    {bs : List NoticeBody} (sl : Slot) (r : List NoticeBody × Contract) :
    (s.reconciling n c y x bs).turnedTo sl r
      = s.reconciling n c y { x with slots := x.slots.set sl (some r.2) } (bs ++ r.1) := by
  unfold State.turnedTo
  rw [State.reconciling_noted]
  rfl

/-! ### Steps 1 and 2 of a scan that concerns one key (R47) -/

section
variable {s : State} {i : ScanInput} {k : KeyId} {r : KeyRecord}

theorem State.step1_none (hb : i.before = []) : s.step1 i = s := by
  unfold State.step1
  rw [hb]
  rfl

theorem State.step1_one (hb : i.before = [.key k]) (hk : s.key k = some r) :
    s.step1 i = if r.tag ∈ i.found then s else s.keyGone i k := by
  have hkeys : keysOf i.before = [k] := by rw [hb]; rfl
  unfold State.step1
  rw [hkeys]
  by_cases hf : r.tag ∈ i.found
  · rw [if_pos hf, List.filter_cons_of_neg (by simp [State.found, hk, hf])]
    rfl
  · rw [if_neg hf, List.filter_cons_of_pos (by simp [State.found, hk, hf])]
    rfl

theorem State.step2_none (hf : i.found = []) : s.step2 i = (s, ⟨[], []⟩) := by
  unfold State.step2
  rw [hf]
  rfl

/-- A key that is gone, and was not handed out or taken by staff, is missing (R47). -/
theorem State.keyGone_missing (h : i.purpose ≠ .staff ∧ i.purpose ≠ .link ∧ ∀ c, i.purpose ≠ .pickup c k) :
    s.keyGone i k = (s.moveKey k .missing).noted
      [{ kind := .keyMissing, minute := i.minute, comp := some i.comp, key := some k
         contract := i.purpose.contract? }] := by
  obtain ⟨hstaff, hlink, hpickup⟩ := h
  unfold State.keyGone
  cases hp : i.purpose with
  | pickup c j => exact if_neg fun hj => hpickup c (by rw [hp, hj.1])
  | staff => exact absurd hp hstaff
  | link => exact absurd hp hlink
  | ret | forced | nothing => rfl

theorem State.keyGone_toStaff (h : i.purpose = .staff ∨ i.purpose = .link) :
    s.keyGone i k = (s.moveKey k .staffHand).noted
      [{ kind := .keyToStaff, minute := i.minute, comp := some i.comp, key := some k }] := by
  unfold State.keyGone
  obtain hp | hp := h <;> rw [hp] <;> rfl

/-- A key that is gone under its own pickup is handed out (R47, R74). -/
theorem State.keyGone_handedOut {sl : Slot} {d : Contract} (hn : s.Numbered) (hsl : s.slot sl = some d)
    (hst : d.state = .picking) (hp : i.purpose = .pickup d.number k) (he : ∀ e, d.entitlement = .specific e → e = k) :
    s.keyGone i k = s.handedOut i d.number k sl := by
  have hof : s.slotOf d.number = some sl := (State.slotOf_iff hn).mpr ⟨d, hsl, rfl⟩
  have hstate : s.contractState d.number = some .picking := (State.contractState_iff hn).mpr ⟨sl, d, hsl, rfl, hst⟩
  have hgone : s.keyGone i k = s.handoutDone i d.number k := by
    unfold State.keyGone
    rw [hp]
    exact if_pos ⟨rfl, hstate⟩
  obtain ⟨hh, -⟩ | ⟨e, hspec, hne, -⟩ := State.handoutDone_cases (i := i) (k := k) hof hsl
  · exact hgone.trans hh
  · exact absurd (he e hspec) hne

/-- A key that leaves the compartment being read, with a notice. -/
theorem State.moveKey_noted (hk : s.key k = some r) (hl : r.location = .compartment i.comp) {l : Location}
    (hne : l ≠ .compartment i.comp) (b : NoticeBody) : (s.moveKey k l).noted [b]
      = s.reconciling i.comp { s.comp i.comp with contents := (s.comp i.comp).contents.filter (· != Item.key k) }
        (s.keys.put k { r with location := l }) s.contracts [b] := by
  rw [State.moveKey_reconciling hk hl hne, State.reconciling_noted]
  rfl

/-- A handout's records, with the contract and its code (R74). -/
theorem State.handedOut_eq {sl : Slot} {d : Contract} (hk : s.key k = some r) (hl : r.location = .compartment i.comp)
    (hsl : s.slot sl = some d) : s.handedOut i d.number k sl
      = s.reconciling i.comp { s.comp i.comp with contents := (s.comp i.comp).contents.filter (· != Item.key k) }
        (s.keys.put k { r with location := .out d.number })
        { slots := s.contracts.slots.set sl (some { d with state := .out, handoutMinute := i.minute })
          codes := s.contracts.codes.filter fun p => p.2 != sl }
        [{ kind := .handoutDone, minute := i.minute, comp := some i.comp, key := some k
           contract := some d.number }] := by
  have hm := State.moveKey_noted (i := i) (s := (s.modifySlot sl fun c =>
    { c with state := .out, handoutMinute := i.minute }).dropCode sl) (l := .out d.number) hk hl (by simp)
    { kind := .handoutDone, minute := i.minute, comp := some i.comp, key := some k, contract := some d.number }
  have hset := State.slots_modify hsl fun c => { c with state := .out, handoutMinute := i.minute }
  rw [State.handedOut, State.enter_noted, hm, ← hset]
  rfl

end

/-! ### From the command to the clean-up -/

/-- The read of entry `x` is in flight in a part that keeps its laws: what the statements on scans start from. -/
structure ReadIn (s : State) (x : ScanEntry) : Prop where
  powered : s.powered = true
  cabinet : s.CabinetOk
  contracts : s.ContractsOk
  location : s.LocationOk
  listed : x ∈ s.scanner.list
  reading : x.reading = true

section
variable {s d : State} {x : ScanEntry} {found : List Nat} {c : Compartment} {y : KeyTable} {z : ContractTable}
  {bs : List NoticeBody} {list : List ScanEntry}

theorem ReadIn.numbered (h : ReadIn s x) : s.Numbered := h.contracts.1.numbered

theorem ReadIn.booked (h : ReadIn s x) : s.Booked fun _ => True := State.booked_iff.mp h.contracts

theorem ReadIn.withdrawn (h : ReadIn s x) : (s.withdrawEntry x.comp).LocationOk :=
  h.location.of_still (.of_same (s.withdrawEntry_same _))

/-- A scan completion, from what its reconciliation leaves before step 9. -/
theorem ReadIn.settles (h : ReadIn s x) (hlen : found.length ≤ 4) (hnd : found.Nodup)
    (hsc : d.scanner = { s.scanner with list := list }) (hov : d.overdue = s.overdue)
    (hkn : ∀ m, (d.comp m).known = (s.comp m).known) (hc : c.known = true)
    (hclean : (s.withdrawEntry x.comp).cleaned (s.readInput x found) = d.reconciling x.comp c y z bs) :
    ∃ t, exec (.scanCompletion ⟨x.comp, found⟩) s = .next t
      ∧ (Settled { d.noted (bs ++ { s with scanner := { s.scanner with list := list } }.sweepNotice
            ((fins 192).countP fun m => m != x.comp && !(s.comp m).known)) with
          compartments := { d.compartments with table := d.compartments.table.set x.comp c }
          scanner := { list := t.scanner.list
                       sweeping := s.scanner.sweeping && list.any (·.cls == .sweep) }
          contracts := z, keys := t.keys } t
        ∧ ListKept { s with scanner := { s.scanner with list := list } } t)
      ∧ t.compartments = { d.compartments with table := d.compartments.table.set x.comp c } ∧ t.contracts = z
      ∧ t.keys = ((d.reconciling x.comp c y z bs).reexamineAll s.joinMinute
        ((s.withdrawEntry x.comp).reviewed (s.readInput x found))).keys := by
  have hexec := exec_scanCompletion_read h.powered h.cabinet.2 h.listed h.reading hlen hnd
  rw [State.reconcile_cleaned h.withdrawn rfl, hclean] at hexec
  exact ⟨_, hexec, State.reconciling_finish hsc hov hkn hc rfl⟩

end

end Sys2Proof.Machine
end

section
/-! SUPPORT. O36: scans that settle their release's purpose or no longer find their one key (R47, R51-R53, R74). -/

namespace Sys2Proof.Machine

/-! ### Scans whose steps 1 and 2 stay in their compartment -/

theorem State.reviewed_eq {s : State} {i : ScanInput} (h : ((s.step1 i).step2 i).2.lost = []) :
    s.reviewed i = keysOf i.before ++ s.foundKeys i.found ++ (s.releaseKey i.comp).toList := by
  rw [State.reviewed, h, List.flatMap_nil, List.append_nil]

/-- What the scan of compartment `n` leaves of `s`, with these items, notices and contracts, and the keys of `t`. -/
def State.afterScan (s : State) (n : CompId) (items : List Item) (bs : List NoticeBody) (z : ContractTable)
    (t : State) : State :=
  let left := s.scanner.list.filter (·.comp != n)
  { s.noted (bs ++ { s with scanner := { s.scanner with list := left } }.sweepNotice
      ((fins 192).countP fun m => m != n && !(s.comp m).known)) with
    compartments := { s.compartments with table := s.compartments.table.set n ((s.comp n).scanned items) }
    scanner := { list := t.scanner.list
                 sweeping := s.scanner.sweeping && left.any (·.cls == .sweep) }
    contracts := z, keys := t.keys }

/-- The event of such a scan has ended in `t` (R43). -/
def ScanEnded (s : State) (n : CompId) (items : List Item) (bs : List NoticeBody) (z : ContractTable) (t : State) : Prop :=
  Settled (s.afterScan n items bs z t) t
    ∧ ListKept { s with scanner := { s.scanner with list := s.scanner.list.filter (·.comp != n) } } t

section
variable {s : State} {x : ScanEntry} {found : List Nat} {q : List Item} {y : KeyTable} {z z' : ContractTable}
  {bs bs' : List NoticeBody}

/-- A scan completion whose steps 1 and 2 wrote the compartment's contents, the tables and notices alone, and closed no
contract. -/
theorem ReadIn.settles_here (h : ReadIn s x) (hlen : found.length ≤ 4) (hnd : found.Nodup)
    (hfound : s.foreignNotices (s.readInput x found) = [])
    (h2 : (State.step1 (s.withdrawEntry x.comp) (s.readInput x found)).step2 (s.readInput x found)
      = (State.reconciling (s.withdrawEntry x.comp) x.comp { s.comp x.comp with contents := q } y z bs, ⟨[], []⟩))
    (h6 : ∀ c', ((State.reconciling (s.withdrawEntry x.comp) x.comp c' y z bs).step5 (s.readInput x found)).step6
        (s.readInput x found) = State.reconciling (s.withdrawEntry x.comp) x.comp c' y z' bs') :
    let c := (s.comp x.comp).scanned (found.map s.itemOf)
    let ks := keysOf (s.comp x.comp).contents ++ s.foundKeys found ++ (s.releaseKey x.comp).toList
    ∃ t, exec (.scanCompletion ⟨x.comp, found⟩) s = .next t
      ∧ ScanEnded s x.comp (found.map s.itemOf) bs' z' t
      ∧ t.keys = ((State.reconciling (s.withdrawEntry x.comp) x.comp c (y.unpromised (s.releaseKey x.comp)) z'
        bs').reexamineAll s.joinMinute ks).keys
      ∧ ∀ k r, y.unpromised (s.releaseKey x.comp) = s.keys.put k r → ks ≠ [] → (∀ j ∈ ks, j = k) →
        Reexamined { s with contracts := t.contracts, compartments := t.compartments } t k r := by
  intro c ks
  have hclean := State.cleaned_reconciling (i := s.readInput x found) h.withdrawn rfl hfound h2 h6
  obtain ⟨t, hexec, hend, hcomps, hcons, hkeys⟩ := h.settles (d := s.withdrawEntry x.comp) hlen hnd rfl rfl
    (fun _ => rfl) rfl hclean
  rw [State.reviewed_eq (by rw [h2])] at hkeys
  exact ⟨t, hexec, hend, hkeys, fun k r hy hne hks => State.reconciling_reexamined (b := s.withdrawEntry x.comp) rfl hne
    hks hy hcomps hcons hkeys⟩

end

/-! ### A key that is missing, re-examined with the release's key (R53) -/

theorem KeyTable.unpromised_put {y : KeyTable} {k : KeyId} {r : KeyRecord} (h : y.places.get k = some r) :
    y.unpromised (some k) = y.put k { r with promisedTo := none } := by
  rw [← KeyTable.put_unpromised, KeyTable.put_get h]

theorem KeyTable.unpromised_get (y : KeyTable) (j i : KeyId) : (y.unpromised (some j)).places.get i
    = if j = i then (y.places.get i).map fun r => { r with promisedTo := none } else y.places.get i := by
  split
  · next e => rw [e]; exact Table.get_modify_self _ _ _
  · next e => exact Table.get_modify_ne _ _ e

theorem State.reexamine_missing {w : State} {k : KeyId} {r : KeyRecord} (hk : w.key k = some r)
    (hl : r.location = .missing) (m : Nat) (j : KeyId) :
    ((w.reexamine m k).reexamine m j).key k = some r
      ∧ k ∉ ((w.reexamine m k).reexamine m j).keys.lists.get r.group
      ∧ (∀ i, i ≠ j → i ≠ k → ((w.reexamine m k).reexamine m j).key i = w.key i)
      ∧ (((w.reexamine m k).reexamine m j).key j).map KeyRecord.fit = (w.key j).map KeyRecord.fit := by
  have hout : ∀ n, r.location ≠ .compartment n := fun n => by rw [hl]; simp
  have hkey : ((w.reexamine m k).reexamine m j).key k = some r := State.reexamineAll_key_outside hk hout m [k, j]
  have hno : w.available k = false := Bool.eq_false_iff.mpr fun ha => by
    obtain ⟨n, hn, -⟩ := State.available_located ha
    rw [State.loc, hk] at hn
    exact hout n (Option.some.inj hn)
  have hin : ((w.reexamine m k).reexamine m j).inList k = false := by
    by_cases e : k = j
    · rw [← e, ((w.reexamine m k).reexamine_inList m k).1, State.reexamine_available, State.reexamine_available, hno]
    · rw [((w.reexamine m k).reexamine_inList m j).2 k e, (w.reexamine_inList m k).1, State.reexamine_available, hno]
  refine ⟨hkey, fun hm => ?_, fun i hj hi => ?_, ?_⟩
  · rw [(State.inList_iff hkey).mpr hm] at hin
    cases hin
  · rw [State.reexamine_key_ne _ _ hj.symm, State.reexamine_key_ne _ _ hi.symm]
  · rw [State.reexamine_fit, State.reexamine_fit]

/-- The key tables after a missing key `k` and the release's key `j` were re-examined, the promise on `j` cleared (R47,
R52, R53). -/
theorem State.missing_reviewed {s w t : State} {m : Nat} {k j : KeyId} {r : KeyRecord}
    (hw : w.keys = (s.keys.put k { r with location := .missing }).unpromised (some j))
    (ht : t.keys = ((w.reexamine m k).reexamine m j).keys) :
    t.key k = some { r with location := .missing, promisedTo := if j = k then none else r.promisedTo }
      ∧ k ∉ t.keys.lists.get r.group ∧ (∀ i, i ≠ j → i ≠ k → t.key i = s.key i)
      ∧ ∀ y, s.key j = some y → j ≠ k
        → (t.key j).map (fun z => (z.location, z.promisedTo)) = some (y.location, none) := by
  have hget : ∀ i, w.key i = if j = i
      then (if k = i then some { r with location := .missing } else s.key i).map fun r => { r with promisedTo := none }
      else if k = i then some { r with location := .missing } else s.key i := fun i => by
    rw [State.key, hw, KeyTable.unpromised_get, KeyTable.put, Table.get_set]
    rfl
  have hwk : w.key k = some { r with
      location := .missing, promisedTo := if j = k then none else r.promisedTo } := by
    rw [hget, if_pos rfl]
    split <;> rfl
  obtain ⟨hkey, hlist, hother, hfit⟩ := State.reexamine_missing hwk rfl m j
  have hsame : ∀ i, t.key i = ((w.reexamine m k).reexamine m j).key i := fun i => by rw [State.key, ht]; rfl
  rw [ht]
  refine ⟨(hsame k).trans hkey, hlist, fun i hij hik => ?_, fun y hy hjk => ?_⟩
  · rw [hsame, hother i hij hik, hget, if_neg hij.symm, if_neg hik.symm]
  · rw [hget, if_pos rfl, if_neg hjk.symm, hy] at hfit
    have h2 := congrArg (Option.map fun z : Location × Bool × CheckMark × Option Nat => (z.1, z.2.2.2)) hfit
    rw [Option.map_map, Option.map_map] at h2
    rw [hsame]
    exact h2

/-! ### The cases of O36 -/

theorem State.reconciling_slot {s : State} {n : CompId} {c : Compartment} {y : KeyTable}
    {slots : Table (Option Contract) 512} {codes : List (Nat × Slot)} {bs : List NoticeBody} {sl : Slot} {d : Contract} :
    (s.reconciling n c y ⟨slots.set sl (some d), codes⟩ bs).slot sl = some d := Table.get_set_self _ _ _

section
variable {s : State} {x : ScanEntry} {k : KeyId} {r : KeyRecord} {p : Purpose} {o : Origin} {sl : Slot} {d : Contract}

/-- What steps 1 and 2 make of the one key of a compartment in which nothing was found. -/
theorem State.step2_gone {i : ScanInput} (hb : i.before = [.key k]) (hk : s.key k = some r) (hf : i.found = []) :
    (s.step1 i).step2 i = (s.keyGone i k, ⟨[], []⟩) := by
  rw [State.step1_one hb hk, if_neg (by simp [hf]), State.step2_none hf]

/-- The key alone in its compartment is found there (R47, R49). -/
theorem State.step2_there {i : ScanInput} (hloc : s.LocationOk) (hb : i.before = [.key k]) (hk : s.key k = some r)
    (hl : r.location = .compartment i.comp) (hf : i.found = [r.tag]) : (s.step1 i).step2 i = (s, ⟨[], []⟩) := by
  rw [State.step1_one hb hk, if_pos (by simp [hf]), State.step2, hf, State.foundKeys_tag hloc hk, List.foldl_cons,
    List.foldl_nil, State.keyFound, hk, Option.map_some, hl]
  exact if_pos rfl

theorem State.foreignNotices_none {i : ScanInput} (hf : i.found = []) : s.foreignNotices i = [] := by
  rw [State.foreignNotices, hf]
  rfl

theorem State.foreignNotices_tag {i : ScanInput} (hloc : s.LocationOk) (hk : s.key k = some r) (hf : i.found = [r.tag]) :
    s.foreignNotices i = [] := by
  rw [State.foreignNotices, hf, List.filter_cons_of_neg (by rw [State.keyOfTag_tag hloc hk]; simp)]
  rfl

theorem ReadIn.lone_located (h : ReadIn s x) (hc : (s.comp x.comp).contents = [.key k]) (hk : s.key k = some r) :
    r.location = .compartment x.comp := by
  have hin := (h.location.2.1 k x.comp).mp (by rw [hc]; simp)
  rw [hk] at hin
  exact Option.some.inj hin

/-- A pickup's contract is PICKING (R56). -/
theorem ReadIn.picking (h : ReadIn s x) (hrel : (s.comp x.comp).release = some ⟨.pickup d.number k, o⟩)
    (hsl : s.slot sl = some d) : d.state = .picking := by
  obtain ⟨i, e, hi, hnum, hst, -⟩ := h.booked.rented.pickups x.comp d.number k trivial
    (Compartment.pickup?_eq_some.mpr ⟨o, hrel⟩)
  obtain rfl := h.numbered i sl e d hi hsl hnum
  exact Option.some.inj (hi.symm.trans hsl) ▸ hst

/-- Nothing was found in a compartment that held key `k` alone: what its steps 1 and 2 make of the key decides the rest. -/
theorem ReadIn.gone (h : ReadIn s x) (hc : (s.comp x.comp).contents = [.key k]) (hk : s.key k = some r)
    {y : KeyTable} {z z' : ContractTable} {bs bs' : List NoticeBody} {q : List Item}
    (hgone : (s.withdrawEntry x.comp).keyGone (s.readInput x []) k
      = State.reconciling (s.withdrawEntry x.comp) x.comp { s.comp x.comp with contents := q } y z bs)
    (h6 : ∀ c', ((State.reconciling (s.withdrawEntry x.comp) x.comp c' y z bs).step5 (s.readInput x [])).step6
        (s.readInput x []) = State.reconciling (s.withdrawEntry x.comp) x.comp c' y z' bs') :
    ∃ t, exec (.scanCompletion ⟨x.comp, []⟩) s = .next t ∧ ScanEnded s x.comp [] bs' z' t
      ∧ t.keys = ((State.reconciling (s.withdrawEntry x.comp) x.comp ((s.comp x.comp).scanned [])
        (y.unpromised (s.releaseKey x.comp)) z' bs').reexamineAll s.joinMinute
          (k :: (s.releaseKey x.comp).toList)).keys
      ∧ ∀ r', y.unpromised (s.releaseKey x.comp) = s.keys.put k r' → (∀ j, s.releaseKey x.comp = some j → j = k) →
        Reexamined { s with contracts := t.contracts, compartments := t.compartments } t k r' := by
  have h2 := (State.step2_gone (s := s.withdrawEntry x.comp) (i := s.readInput x []) hc hk rfl).trans
    (congrArg (·, _) hgone)
  obtain ⟨t, hexec, hend, hkeys, hre⟩ := h.settles_here (by simp) List.nodup_nil (State.foreignNotices_none rfl) h2 h6
  have hks : keysOf (s.comp x.comp).contents ++ s.foundKeys [] ++ (s.releaseKey x.comp).toList
      = k :: (s.releaseKey x.comp).toList := by rw [hc]; rfl
  rw [hks] at hkeys hre
  exact ⟨t, hexec, hend, hkeys, fun r' hy hj => hre k r' hy (by simp) fun j hm => by
    obtain rfl | hm := List.mem_cons.mp hm
    · rfl
    · exact hj j (Option.mem_toList.mp hm)⟩

/-- The key is gone under its own pickup: the handout is complete (R47, R74). -/
theorem ReadIn.handedOut (h : ReadIn s x) (hc : (s.comp x.comp).contents = [.key k]) (hk : s.key k = some r)
    (hcar : x.carried = .release) (hrel : (s.comp x.comp).release = some ⟨.pickup d.number k, o⟩)
    (hsl : s.slot sl = some d) (he : ∀ e, d.entitlement = .specific e → e = k) :
    ∃ t, exec (.scanCompletion ⟨x.comp, []⟩) s = .next t
      ∧ ScanEnded s x.comp [] [{ kind := .handoutDone, minute := s.present, comp := some x.comp, key := some k
                                 contract := some d.number }]
        { slots := s.contracts.slots.set sl (some { d with state := .out, handoutMinute := s.present })
          codes := s.contracts.codes.filter fun p => p.2 != sl } t
      ∧ Reexamined { s with contracts := t.contracts, compartments := t.compartments } t k
        { r with location := .out d.number, promisedTo := none } := by
  have hl := h.lone_located hc hk
  have hst := h.picking hrel hsl
  have hpur : (s.readInput x []).purpose = .pickup d.number k := by
    change s.scanPurpose x.comp x.carried = _
    rw [hcar]
    exact (State.scanPurpose_release hrel).1 _ _ rfl
  have hkey : s.releaseKey x.comp = some k := State.releaseKey_eq hrel
  have hgone := (State.keyGone_handedOut (s := s.withdrawEntry x.comp) (i := s.readInput x []) h.numbered hsl hst hpur
    he).trans (State.handedOut_eq hk hl hsl)
  obtain ⟨t, hexec, hend, -, hre⟩ := h.gone hc hk hgone fun c' => by
    refine (State.step6_pickup (d := { d with state := .out, handoutMinute := s.present }) ?_ State.reconciling_slot
      hpur).trans ?_
    · exact State.Numbered.rewrote h.numbered hsl (.set rfl) rfl
    · rw [unmet_pickup, if_neg (by simp)]
      exact State.turnedTo_self State.reconciling_slot
  refine ⟨t, hexec, hend, hre _ ?_ fun j hj => ?_⟩
  · rw [hkey, KeyTable.put_unpromised]
    rfl
  · rw [hkey] at hj
    exact (Option.some.inj hj).symm

/-- A key that is gone, when the release concerns no key, is where its notice says (R47). -/
theorem ReadIn.goneKeyless (h : ReadIn s x) (hc : (s.comp x.comp).contents = [.key k]) (hk : s.key k = some r)
    (hrel : ∀ q, (s.comp x.comp).release = some q → q.purpose.key? = none) {l : Location}
    (hl : l ≠ .compartment x.comp) {b : NoticeBody}
    (hgone : (s.withdrawEntry x.comp).keyGone (s.readInput x []) k = ((s.withdrawEntry x.comp).moveKey k l).noted [b]) :
    ∃ t, exec (.scanCompletion ⟨x.comp, []⟩) s = .next t ∧ ScanEnded s x.comp [] [b] s.contracts t
      ∧ Reexamined { s with contracts := t.contracts, compartments := t.compartments } t k { r with location := l } := by
  obtain ⟨hkey, hpurpose⟩ := State.scanPurpose_keyless hrel x.carried
  obtain ⟨t, hexec, hend, -, hre⟩ := h.gone hc hk
    (hgone.trans (State.moveKey_noted (s := s.withdrawEntry x.comp) (i := s.readInput x []) hk (h.lone_located hc hk) hl b))
    fun c' => State.step6_keyless hpurpose _
  refine ⟨t, hexec, hend, hre _ ?_ fun j hj => ?_⟩
  · rw [hkey]
    rfl
  · rw [hkey] at hj
    cases hj

theorem ReadIn.goneToStaff (h : ReadIn s x) (hc : (s.comp x.comp).contents = [.key k]) (hk : s.key k = some r)
    (hcar : x.carried = .release) (hrel : (s.comp x.comp).release = some ⟨p, o⟩) (hp : p = .link ∨ ∃ b, p = .staff b) :
    ∃ t, exec (.scanCompletion ⟨x.comp, []⟩) s = .next t
      ∧ ScanEnded s x.comp [] [{ kind := .keyToStaff, minute := s.present, comp := some x.comp, key := some k }]
        s.contracts t
      ∧ Reexamined { s with contracts := t.contracts, compartments := t.compartments } t k
        { r with location := .staffHand } := by
  have hpur : (s.readInput x []).purpose = s.scanPurpose x.comp .release := congrArg (s.scanPurpose x.comp) hcar
  obtain ⟨-, -, hstaff, hlink⟩ := State.scanPurpose_release hrel
  refine h.goneKeyless hc hk (fun q hq => ?_) (by simp) (State.keyGone_toStaff (s := s.withdrawEntry x.comp) ?_)
  · obtain rfl := Option.some.inj (hrel.symm.trans hq)
    obtain rfl | ⟨b, rfl⟩ := hp <;> rfl
  · obtain rfl | ⟨b, rfl⟩ := hp
    · exact .inr (hpur.trans (hlink rfl))
    · exact .inl (hpur.trans (hstaff b rfl))

theorem ReadIn.goneUncarried (h : ReadIn s x) (hc : (s.comp x.comp).contents = [.key k]) (hk : s.key k = some r)
    (hcar : x.carried ≠ .release) (hrel : (s.comp x.comp).release = none) :
    ∃ t, exec (.scanCompletion ⟨x.comp, []⟩) s = .next t
      ∧ ScanEnded s x.comp [] [{ kind := .keyMissing, minute := s.present, comp := some x.comp, key := some k }]
        s.contracts t
      ∧ Reexamined { s with contracts := t.contracts, compartments := t.compartments } t k
        { r with location := .missing } := by
  have hpur : (s.readInput x []).purpose = .forced ∨ (s.readInput x []).purpose = .nothing := by
    change s.scanPurpose x.comp x.carried = _ ∨ s.scanPurpose x.comp x.carried = _
    cases hx : x.carried with
    | release => exact absurd hx hcar
    | forced => exact .inl rfl
    | nothing => exact .inr rfl
  have hmissing := State.keyGone_missing (s := s.withdrawEntry x.comp) (i := s.readInput x []) (k := k)
  have hno : (s.readInput x []).purpose.contract? = none := by obtain e | e := hpur <;> rw [e] <;> rfl
  rw [hno] at hmissing
  refine h.goneKeyless hc hk (fun q hq => ?_) (by simp) (hmissing ?_)
  · rw [hrel] at hq
    cases hq
  · obtain e | e := hpur <;> rw [e] <;> simp

/-- What a scan makes of the contract that its release names (R51). -/
theorem ReadIn.carried_unmet (h : ReadIn s x) {j : KeyId} (hcar : x.carried = .release)
    (hrel : (s.comp x.comp).release = some ⟨p, o⟩) (hsl : s.slot sl = some d)
    (hp : p = .ret d.number j ∨ p = .pickup d.number j) (found : List Nat) (c' : Compartment) (y : KeyTable)
    (bs : List NoticeBody) :
    ((State.reconciling (s.withdrawEntry x.comp) x.comp c' y s.contracts bs).step5 (s.readInput x found)).step6
        (s.readInput x found)
      = State.reconciling (s.withdrawEntry x.comp) x.comp c' y
        { s.contracts with slots := s.contracts.slots.set sl (some (unmet s.present x.comp p d).2) }
        (bs ++ (unmet s.present x.comp p d).1) :=
  (State.step6_carried (u := State.reconciling (s.withdrawEntry x.comp) x.comp c' y s.contracts bs)
    (i := s.readInput x found) h.numbered hsl hrel hp (congrArg (s.scanPurpose x.comp) hcar) rfl).trans
    (State.reconciling_turnedTo sl _)

/-- The purpose carried by a return's release, or by the pickup of another key, is no reason for key `k` to be gone (R46,
R47). -/
theorem ReadIn.carried_elsewhere (h : ReadIn s x) {j : KeyId} (hcar : x.carried = .release)
    (hrel : (s.comp x.comp).release = some ⟨p, o⟩) (hsl : s.slot sl = some d)
    (hp : p = .ret d.number j ∨ (p = .pickup d.number j ∧ j ≠ k)) (found : List Nat) :
    let q := (s.readInput x found).purpose
    (q ≠ .staff ∧ q ≠ .link ∧ ∀ c, q ≠ .pickup c k)
      ∧ q.contract? = if p = .ret d.number j ∧ d.state ≠ .returning then none else some d.number := by
  intro q
  have hq : q = s.scanPurpose x.comp .release := congrArg (s.scanPurpose x.comp) hcar
  obtain ⟨rfl, e⟩ | ⟨rfl, hst, e⟩ | ⟨rfl, hst, e⟩ := State.carriedPurpose (i := s.readInput x found) h.numbered hsl
    hrel (hp.imp_right And.left) hq <;> rw [show q = _ from e]
  · have hj : j ≠ k := by simpa using hp
    rw [if_neg (by simp)]
    exact ⟨by simp [hj], rfl⟩
  · rw [if_neg (by simp [hst])]
    exact ⟨by simp, rfl⟩
  · rw [if_pos ⟨rfl, hst⟩]
    exact ⟨by simp, rfl⟩

/-- The key is gone behind a return, or behind the pickup of another key: it is missing, and the release's contract falls
back (R47, R51, R52). -/
theorem ReadIn.goneMissing (h : ReadIn s x) (hc : (s.comp x.comp).contents = [.key k]) (hk : s.key k = some r)
    {j : KeyId} (hcar : x.carried = .release) (hrel : (s.comp x.comp).release = some ⟨p, o⟩)
    (hsl : s.slot sl = some d) (hp : p = .ret d.number j ∨ (p = .pickup d.number j ∧ j ≠ k)) :
    ∃ t, exec (.scanCompletion ⟨x.comp, []⟩) s = .next t
      ∧ ScanEnded s x.comp [] ({ kind := .keyMissing, minute := s.present, comp := some x.comp, key := some k
                                 contract := if p = .ret d.number j ∧ d.state ≠ .returning then none
                                   else some d.number } :: (unmet s.present x.comp p d).1)
        { s.contracts with slots := s.contracts.slots.set sl (some (unmet s.present x.comp p d).2) } t
      ∧ t.key k = some { r with location := .missing, promisedTo := if j = k then none else r.promisedTo }
      ∧ k ∉ t.keys.lists.get r.group ∧ (∀ i, i ≠ j → i ≠ k → t.key i = s.key i)
      ∧ ∀ y, s.key j = some y → j ≠ k
        → (t.key j).map (fun z => (z.location, z.promisedTo)) = some (y.location, none) := by
  have hl := h.lone_located hc hk
  have hp' : p = .ret d.number j ∨ p = .pickup d.number j := hp.imp_right And.left
  obtain ⟨hmiss, hcon⟩ := h.carried_elsewhere hcar hrel hsl hp []
  have hkey : s.releaseKey x.comp = some j := by
    rw [State.releaseKey_eq hrel]
    obtain rfl | rfl := hp' <;> rfl
  have hgone := (State.keyGone_missing (s := s.withdrawEntry x.comp) hmiss).trans
    (State.moveKey_noted (s := s.withdrawEntry x.comp) (i := s.readInput x []) hk hl (by simp) _)
  rw [hcon] at hgone
  obtain ⟨t, hexec, hend, hkeys, -⟩ := h.gone hc hk hgone fun c' => h.carried_unmet hcar hrel hsl hp' [] c' _ _
  rw [hkey] at hkeys
  exact ⟨t, hexec, hend, State.missing_reviewed rfl hkeys⟩

/-- The release's own key is still there: its pickup was not taken (R51). -/
theorem ReadIn.notTaken (h : ReadIn s x) (hc : (s.comp x.comp).contents = [.key k]) (hk : s.key k = some r)
    (hcar : x.carried = .release) (hrel : (s.comp x.comp).release = some ⟨.pickup d.number k, o⟩)
    (hsl : s.slot sl = some d) :
    ∃ t, exec (.scanCompletion ⟨x.comp, [r.tag]⟩) s = .next t
      ∧ ScanEnded s x.comp [.key k] (handoutFailed s.present x.comp k d 0)
        { s.contracts with slots := s.contracts.slots.set sl (some (fellBack d)) } t
      ∧ Reexamined { s with contracts := t.contracts, compartments := t.compartments } t k
        { r with promisedTo := none } := by
  have hl := h.lone_located hc hk
  have hst := h.picking hrel hsl
  have hkey : s.releaseKey x.comp = some k := State.releaseKey_eq hrel
  have hitem : [r.tag].map s.itemOf = [.key k] := by
    rw [List.map_singleton, State.itemOf_key.mpr (State.keyOfTag_tag h.location hk)]
  have h2 := (State.step2_there (i := s.readInput x [r.tag]) h.withdrawn hc hk hl rfl).trans
    (congrArg (·, _) (State.reconciling_self _ x.comp).symm)
  have hun : unmet s.present x.comp (.pickup d.number k) d = (handoutFailed s.present x.comp k d 0, fellBack d) := by
    rw [unmet_pickup, if_pos hst]
  obtain ⟨t, hexec, hend, -, hre⟩ := h.settles_here (by simp) (List.nodup_singleton _)
    (State.foreignNotices_tag h.withdrawn hk rfl) h2 fun c' => h.carried_unmet hcar hrel hsl (.inr rfl) _ c' _ _
  rw [hun, hitem] at hend
  rw [hc, State.foundKeys_tag h.location hk, hkey] at hre
  exact ⟨t, hexec, hend, hre k _ (KeyTable.unpromised_put hk) (by simp [keysOf]) (by simp [keysOf])⟩

/-- Nothing in the compartment before or after the scan: the release's contract falls back (R51). -/
theorem ReadIn.emptyBefore (h : ReadIn s x) (hc : (s.comp x.comp).contents = []) (hk : s.key k = some r)
    (hcar : x.carried = .release) (hrel : (s.comp x.comp).release = some ⟨p, o⟩) (hsl : s.slot sl = some d)
    (hp : p = .ret d.number k ∨ p = .pickup d.number k) :
    ∃ t, exec (.scanCompletion ⟨x.comp, []⟩) s = .next t
      ∧ ScanEnded s x.comp [] (unmet s.present x.comp p d).1
        { s.contracts with slots := s.contracts.slots.set sl (some (unmet s.present x.comp p d).2) } t
      ∧ Reexamined { s with contracts := t.contracts, compartments := t.compartments } t k
        { r with promisedTo := none } := by
  have hkey : s.releaseKey x.comp = some k := by
    rw [State.releaseKey_eq hrel]
    obtain rfl | rfl := hp <;> rfl
  have h2 : (State.step1 (s.withdrawEntry x.comp) (s.readInput x [])).step2 (s.readInput x [])
      = (State.reconciling (s.withdrawEntry x.comp) x.comp (s.comp x.comp) s.keys s.contracts [], ⟨[], []⟩) := by
    rw [State.step1_none hc, State.step2_none rfl]
    exact congrArg (·, _) (State.reconciling_self (s.withdrawEntry x.comp) x.comp).symm
  obtain ⟨t, hexec, hend, -, hre⟩ := h.settles_here (by simp) List.nodup_nil
    (State.foreignNotices_none rfl) h2 fun c' => h.carried_unmet hcar hrel hsl hp _ c' _ _
  rw [hc, hkey] at hre
  exact ⟨t, hexec, hend, hre k _ (KeyTable.unpromised_put hk) (by simp) (by simp [keysOf, State.foundKeys])⟩

/-- Settles O36, one lemma per purpose of the release and per content of the scan. -/
theorem scanFindsTheKeyGone : Obligations.ScanFindsTheKeyGone := by
  intro s x k r hp hcab hcon hloc hx hr hk
  have h : ReadIn s x := ⟨hp, hcab, hcon, hloc, hx, hr⟩
  refine ⟨fun hc => ⟨?_, ?_, ?_, ?_, ?_⟩, ?_⟩
  · rintro _ ⟨hcar, o, hrel⟩ sl d hsl rfl he
    exact h.handedOut hc hk hcar hrel hsl he
  · rintro p ⟨hcar, o, hrel⟩ hp
    exact h.goneToStaff hc hk hcar hrel hp
  · rintro ⟨hcar, hrel⟩
    exact h.goneUncarried hc hk hcar hrel
  · rintro p _ j ⟨hcar, o, hrel⟩ hp sl d hsl rfl
    exact h.goneMissing hc hk hcar hrel hsl hp
  · rintro _ ⟨hcar, o, hrel⟩ sl d hsl rfl
    exact h.notTaken hc hk hcar hrel hsl
  · rintro hc p _ ⟨hcar, o, hrel⟩ hp sl d hsl rfl
    exact h.emptyBefore hc hk hcar hrel hsl hp

end

end Sys2Proof.Machine
end

section
/-! SUPPORT. O37: a key found alone by a scan of an empty compartment, by its prior location (R48-R50, R52, R53, R78). -/

namespace Sys2Proof.Machine

/-! ### A found key's move into the compartment (R2) -/

section
variable {s : State} {n : CompId} {k : KeyId} {r : KeyRecord}

theorem State.moveKey_arrived (hk : s.key k = some r) (hl : (∃ x, r.location = .out x) ∨ r.location = .staffHand
    ∨ r.location = .missing) : s.moveKey k (.compartment n)
      = s.withKeys (s.keys.put k { r with location := .compartment n }) := by
  rw [State.moveKey, hk]
  dsimp only
  obtain ⟨x, e⟩ | e | e := hl <;> rw [e] <;> exact State.modifyKey_put hk fun r => { r with location := .compartment n }

theorem State.moveKey_fromDrop (hk : s.key k = some r) (hl : r.location = .drop) : s.moveKey k (.compartment n)
    = (s.removeDrop k).withKeys (s.keys.put k { r with location := .compartment n }) := by
  rw [State.moveKey, hk]
  dsimp only
  rw [hl]
  exact State.modifyKey_put (s := s.removeDrop k) hk fun r => { r with location := .compartment n }

theorem State.moveKey_fromOther {m : CompId} (hk : s.key k = some r) (hl : r.location = .compartment m) (hmn : m ≠ n) :
    s.moveKey k (.compartment n)
      = (s.withoutKey m k).withKeys (s.keys.put k { r with location := .compartment n }) := by
  rw [State.moveKey, hk]
  dsimp only
  rw [hl]
  dsimp only
  rw [if_neg fun e => hmn (Location.compartment.inj e).symm]
  exact State.modifyKey_put (s := s.withoutKey m k) hk fun r => { r with location := .compartment n }

/-- A state that differs in notices, keys and contracts alone. -/
theorem State.reconciling_same (s : State) (n : CompId) (y : KeyTable) (x : ContractTable) (bs : List NoticeBody) :
    s.reconciling n (s.comp n) y x bs = { s.noted bs with keys := y, contracts := x } := by
  have h : s.compartments.table.set n (s.comp n) = s.compartments.table := Table.set_get_self _ _
  rw [State.reconciling, h]
  rfl

/-- The check mark of a key whose contract the scan closed (R53). -/
theorem State.reconciling_marked {c : Compartment} {x : ContractTable} {bs : List NoticeBody} (route : Route)
    {y : KeyTable} : (s.reconciling n c (y.put k r) x bs).step8 ⟨[(k, route)], []⟩
      = s.reconciling n c (y.put k { r with mark := if route = .stray ∨ (s.policy r.group).checkOnReturn
          then .unchecked else r.mark }) x bs := by
  have hkey : (s.reconciling n c (y.put k r) x bs).key k = some r := Table.get_set_self _ _ _
  change (s.reconciling n c (y.put k r) x bs).markReturned k route = _
  rw [State.markReturned, hkey]
  dsimp only
  by_cases hm : route = .stray ∨ (s.policy r.group).checkOnReturn
  · rw [if_pos hm]
    refine (if_pos hm).trans ((State.modifyKey_put hkey fun r => { r with mark := .unchecked }).trans ?_)
    change State.withKeys _ ((y.put k r).put k _) = _
    rw [KeyTable.put_put]
    rfl
  · rw [if_neg hm]
    exact if_neg hm

end

/-! ### The scan that finds the key -/

/-- `t` is the end of a scan of compartment `n` that found key `k` alone: its steps left `d` elsewhere, with these scan
list, notices, contracts and record of the key (R43, R50, R53). -/
structure FoundEnded (s d : State) (n : CompId) (k : KeyId) (list : List ScanEntry) (bs : List NoticeBody)
    (z : ContractTable) (r : KeyRecord) (t : State) : Prop where
  settled : Settled { d.noted (bs ++ { s with scanner := { s.scanner with list := list } }.sweepNotice
      ((fins 192).countP fun m => m != n && !(s.comp m).known)) with
    compartments := t.compartments
    scanner := { list := t.scanner.list, sweeping := s.scanner.sweeping && list.any (·.cls == .sweep) }
    contracts := z, keys := t.keys } t
  kept : ListKept { s with scanner := { s.scanner with list := list } } t
  compartments : t.compartments
    = { d.compartments with table := d.compartments.table.set n ((s.comp n).scanned [.key k]) }
  reexamined : Reexamined { s with contracts := t.contracts, compartments := t.compartments } t k r

section
variable {s d : State} {x : ScanEntry} {k : KeyId} {r r' : KeyRecord} {list : List ScanEntry} {c : Compartment}
  {y : KeyTable} {z : ContractTable} {bs : List NoticeBody} {log : FoundLog}

/-- A found key is all that steps 1 and 2 look at in an empty compartment (R47, R48). -/
theorem State.step2_arrived {i : ScanInput} (hloc : s.LocationOk) (hb : i.before = []) (hk : s.key k = some r)
    (hf : i.found = [r.tag]) : (s.step1 i).step2 i = s.keyFound i ⟨[], []⟩ k := by
  rw [State.step1_none hb, State.step2, hf, State.foundKeys_tag hloc hk]
  rfl

/-- The scan, from what step 2 makes of the key: `d` with the compartment's record, the keys, contracts and notices. -/
theorem ReadIn.found (h : ReadIn s x) (hc : (s.comp x.comp).contents = []) (hk : s.key k = some r)
    (hsc : d.scanner = { s.scanner with list := list }) (hov : d.overdue = s.overdue)
    (hkn : ∀ m, (d.comp m).known = (s.comp m).known)
    (hshell : c.scanned [.key k] = (s.comp x.comp).scanned [.key k])
    (h2 : (s.withdrawEntry x.comp).keyFound (s.readInput x [r.tag]) ⟨[], []⟩ k = (d.reconciling x.comp c y z bs, log))
    (h6 : ∀ c', ((d.reconciling x.comp c' y z bs).step5 (s.readInput x [r.tag])).step6 (s.readInput x [r.tag])
      = d.reconciling x.comp c' y z bs)
    (h8 : ∀ c', (d.reconciling x.comp c' (y.unpromised (c.release.bind fun q => q.purpose.key?)) z bs).step8 log
      = d.reconciling x.comp c' (s.keys.put k r') z bs)
    (hrel : ∀ j, s.releaseKey x.comp = some j → j = k)
    (hlost : ∀ m ∈ log.lost, m ≠ x.comp ∧ keysOf (d.comp m).contents = []) :
    ∃ t, exec (.scanCompletion ⟨x.comp, [r.tag]⟩) s = .next t ∧ FoundEnded s d x.comp k list bs z r' t := by
  have h12 := (State.step2_arrived (s := s.withdrawEntry x.comp) (i := s.readInput x [r.tag]) h.withdrawn hc hk rfl).trans
    h2
  have hclean := State.cleaned_reconciling (i := s.readInput x [r.tag]) h.withdrawn rfl
    (State.foreignNotices_tag h.withdrawn hk rfl) h12 h6
  have hitem : (s.readInput x [r.tag]).found.map (s.withdrawEntry x.comp).itemOf = [.key k] := by
    change [(s.withdrawEntry x.comp).itemOf r.tag] = _
    rw [State.itemOf_key.mpr (State.keyOfTag_tag h.withdrawn hk)]
  rw [hitem, hshell] at hclean
  replace hclean := hclean.trans (h8 _)
  have hfound : (s.withdrawEntry x.comp).foundKeys (s.readInput x [r.tag]).found = [k] :=
    State.foundKeys_tag h.withdrawn hk
  have hks : ∀ j ∈ (s.withdrawEntry x.comp).reviewed (s.readInput x [r.tag]), j = k := by
    intro j hj
    rw [State.reviewed, h12, hclean, hfound, List.mem_append, List.mem_append,
      List.mem_append] at hj
    obtain ((hj | hj) | hj) | hj := hj
    · rw [show (s.readInput x [r.tag]).before = [] from hc] at hj
      cases hj
    · exact List.mem_singleton.mp hj
    · exact hrel j (Option.mem_toList.mp hj)
    · obtain ⟨m, hm, hj⟩ := List.mem_flatMap.mp hj
      obtain ⟨hmn, hno⟩ := hlost m hm
      rw [State.reconciling_comp_ne (c := (s.comp x.comp).scanned [.key k]) hmn, hno] at hj
      cases hj
  have hne : (s.withdrawEntry x.comp).reviewed (s.readInput x [r.tag]) ≠ [] := by
    rw [State.reviewed, hfound]
    simp
  obtain ⟨t, hexec, ⟨hend, hkept⟩, hcomps, hcons, hkeys⟩ := h.settles (by simp) (List.nodup_singleton _) hsc hov hkn
    rfl hclean
  refine ⟨t, hexec, ⟨?_, hkept, hcomps, State.reconciling_reexamined hov hne hks rfl hcomps hcons hkeys⟩⟩
  rw [hcomps]
  exact hend

/-- The same behind a release that concerns no key. -/
theorem ReadIn.foundPlain (h : ReadIn s x) (hc : (s.comp x.comp).contents = []) (hk : s.key k = some r)
    (hplain : ∀ q, (s.comp x.comp).release = some q → q.purpose.key? = none)
    (hsc : d.scanner = { s.scanner with list := list }) (hov : d.overdue = s.overdue)
    (hkn : ∀ m, (d.comp m).known = (s.comp m).known)
    (hshell : c.scanned [.key k] = (s.comp x.comp).scanned [.key k])
    (hcplain : ∀ q, c.release = some q → q.purpose.key? = none)
    (h2 : (s.withdrawEntry x.comp).keyFound (s.readInput x [r.tag]) ⟨[], []⟩ k = (d.reconciling x.comp c y z bs, log))
    (h8 : ∀ c', (d.reconciling x.comp c' y z bs).step8 log = d.reconciling x.comp c' (s.keys.put k r') z bs)
    (hlost : ∀ m ∈ log.lost, m ≠ x.comp ∧ keysOf (d.comp m).contents = []) :
    ∃ t, exec (.scanCompletion ⟨x.comp, [r.tag]⟩) s = .next t ∧ FoundEnded s d x.comp k list bs z r' t := by
  obtain ⟨hkey, hpurpose⟩ := State.scanPurpose_keyless hplain x.carried
  refine h.found hc hk hsc hov hkn hshell h2 (fun c' => State.step6_keyless hpurpose _) (fun c' => ?_)
    (fun j hj => by rw [hkey] at hj; cases hj) hlost
  rw [show (c.release.bind fun q => q.purpose.key?) = none from Option.bind_eq_none_iff.mpr hcplain]
  exact h8 c'

end

/-! ### A key that is OUT (R48, R78) -/

section
variable {s : State} {x : ScanEntry} {k : KeyId} {r : KeyRecord} {sl : Slot} {c : Contract} {final : Tier}

/-- The contract of a key that is OUT is open, and its group's policy governs it (R56, R78). -/
theorem ReadIn.rentedBy (h : ReadIn s x) (hk : s.key k = some r) (hsl : s.slot sl = some c)
    (hout : r.location = .out c.number) : c.isOpen = true ∧ s.policyOf c = s.policy r.group := by
  obtain ⟨i, d, hd, hdn, hdo, hdk⟩ := h.booked.rented.out k c.number (by rw [State.loc, hk, Option.map_some, hout])
  obtain rfl := h.numbered i sl d c hd hsl hdn
  obtain rfl := Option.some.inj (hd.symm.trans hsl)
  exact ⟨hdo, by rw [State.policyOf, hdk, Option.bind_some, hk]⟩

/-- The state with the contract closed, while the scan of the key goes on (R78). -/
def State.closedBy (s : State) (n : CompId) (sl : Slot) (p : GroupPolicy) (c : Contract) (route : Route) (final : Tier) :
    State :=
  { (s.withdrawEntry n).noted [returnDone p c route s.present final (some n)] with
    contracts := { s.contracts with
      slots := s.contracts.slots.set sl (some (closedAs p c route s.present final)) } }

theorem closedAs_notReturning {p : GroupPolicy} {route : Route} {m : Option Nat} :
    (closedAs p c route m final).state ≠ .returning := by simp [closedAs]

theorem ReadIn.closeContract (h : ReadIn s x) (hk : s.key k = some r) (hsl : s.slot sl = some c)
    (hout : r.location = .out c.number) (hf : FinalTier (s.policy r.group) c s.present final) (route : Route) :
    (s.withdrawEntry x.comp).closeContract c.number route s.present (some x.comp)
      = s.closedBy x.comp sl (s.policy r.group) c route final := by
  obtain ⟨hopen, hpol⟩ := h.rentedBy hk hsl hout
  have hclose := State.closeContract_eq (s := s.withdrawEntry x.comp) (m := s.present) h.numbered hsl hopen
    (by rw [show (s.withdrawEntry x.comp).policyOf c = _ from hpol]; exact hf) route (some x.comp)
  rw [show (s.withdrawEntry x.comp).policyOf c = _ from hpol] at hclose
  exact hclose

/-- The key came back as its return's scan expects (R48, R53, R78). -/
theorem ReadIn.returned (h : ReadIn s x) (hc : (s.comp x.comp).contents = []) (hk : s.key k = some r)
    (hsl : s.slot sl = some c) (hout : r.location = .out c.number)
    (hf : FinalTier (s.policy r.group) c s.present final) (hcar : x.carried = .release) (hst : c.state = .returning)
    (hrel : (s.comp x.comp).release.map Release.purpose = some (.ret c.number k)) :
    ∃ t, exec (.scanCompletion ⟨x.comp, [r.tag]⟩) s = .next t
      ∧ FoundEnded s (s.withdrawEntry x.comp) x.comp k (s.scanner.list.filter (·.comp != x.comp))
        [returnDone (s.policy r.group) c .compartment s.present final (some x.comp)]
        { s.contracts with
          slots := s.contracts.slots.set sl (some (closedAs (s.policy r.group) c .compartment s.present final)) }
        { r with
          location := .compartment x.comp, promisedTo := none
          mark := if (s.policy r.group).checkOnReturn then .unchecked else r.mark } t := by
  obtain ⟨⟨p, o⟩, hrel, rfl⟩ := Option.map_eq_some_iff.mp hrel
  have hpur : (s.readInput x [r.tag]).purpose = .ret c.number k := by
    change s.scanPurpose x.comp x.carried = _
    rw [hcar, (State.scanPurpose_release hrel).2.1 _ _ rfl,
      if_pos ((State.contractState_iff h.numbered).mpr ⟨sl, c, hsl, rfl, hst⟩)]
  have hkey : s.releaseKey x.comp = some k := State.releaseKey_eq hrel
  refine h.found (c := s.comp x.comp) (log := ⟨[(k, .compartment)], []⟩) hc hk rfl rfl (fun _ => rfl) rfl ?_
    (fun c' => ?_) (fun c' => ?_) (fun j hj => Option.some.inj (hj.symm.trans hkey)) (fun m hm => by cases hm)
    (y := s.keys.put k { r with location := .compartment x.comp })
  · have hfound : (s.withdrawEntry x.comp).keyFound (s.readInput x [r.tag]) ⟨[], []⟩ k
        = (((s.withdrawEntry x.comp).closeContract c.number .compartment s.present (some x.comp)).moveKey k
            (.compartment x.comp), ⟨[(k, .compartment)], []⟩) := by
      rw [State.keyFound, show (s.withdrawEntry x.comp).key k = some r from hk, Option.map_some, hout]
      exact if_pos (by rw [hpur]; exact beq_self_eq_true _)
    rw [hfound, h.closeContract hk hsl hout hf, State.moveKey_arrived (s := s.closedBy _ _ _ _ _ _) hk (.inl ⟨_, hout⟩)]
    exact congrArg (·, _) (State.reconciling_same (s.withdrawEntry x.comp) x.comp _ _ _).symm
  · refine (State.step6_return (d := closedAs (s.policy r.group) c .compartment s.present final) ?_
      State.reconciling_slot hpur).trans ?_
    · exact State.Numbered.rewrote h.numbered hsl (.set rfl) rfl
    · rw [unmet_return, if_neg closedAs_notReturning]
      exact State.turnedTo_self State.reconciling_slot
  · rw [hrel]
    change (State.reconciling _ _ _ ((s.keys.put k _).unpromised (some k)) _ _).step8 _ = _
    rw [KeyTable.put_unpromised, State.reconciling_marked]
    simp only [reduceCtorEq, false_or]
    rfl

end

/-! ### A key in DROP, in STAFF_HAND or MISSING (R49) -/

section
variable {s : State} {x : ScanEntry} {k : KeyId} {r : KeyRecord}

/-- A key that had no contract and no compartment arrives (R49). -/
theorem ReadIn.arrived (h : ReadIn s x) (hc : (s.comp x.comp).contents = []) (hk : s.key k = some r)
    (hplain : ∀ q, (s.comp x.comp).release = some q → q.purpose.key? = none)
    (hl : r.location = .drop ∨ r.location = .staffHand ∨ r.location = .missing) :
    ∃ t, exec (.scanCompletion ⟨x.comp, [r.tag]⟩) s = .next t
      ∧ FoundEnded s ((s.withdrawEntry x.comp).withDrop (if r.location = .drop then (s.removeDrop k).drop else s.drop))
        x.comp k (s.scanner.list.filter (·.comp != x.comp)) [] s.contracts
        { r with location := .compartment x.comp } t := by
  refine h.foundPlain (c := s.comp x.comp) (log := ⟨[], []⟩) hc hk hplain rfl rfl (fun _ => rfl) rfl hplain ?_
    (fun _ => rfl) (fun m hm => by cases hm) (y := s.keys.put k { r with location := .compartment x.comp })
  have hfound : (s.withdrawEntry x.comp).keyFound (s.readInput x [r.tag]) ⟨[], []⟩ k
      = ((s.withdrawEntry x.comp).moveKey k (.compartment x.comp), ⟨[], []⟩) := by
    rw [State.keyFound, show (s.withdrawEntry x.comp).key k = some r from hk, Option.map_some]
    obtain e | e | e := hl <;> rw [e] <;> rfl
  have hmove : (s.withdrawEntry x.comp).moveKey k (.compartment x.comp)
      = ((s.withdrawEntry x.comp).withDrop (if r.location = .drop then (s.removeDrop k).drop else s.drop)).withKeys
        (s.keys.put k { r with location := .compartment x.comp }) := by
    obtain e | e := hl
    · rw [if_pos e]
      exact State.moveKey_fromDrop hk e
    · rw [if_neg (by obtain e | e := e <;> rw [e] <;> decide)]
      exact State.moveKey_arrived hk (.inr e)
  rw [hfound, hmove]
  generalize (if r.location = .drop then (s.removeDrop k).drop else s.drop) = b
  exact congrArg (·, _) (State.reconciling_same ((s.withdrawEntry x.comp).withDrop b) x.comp _ s.contracts []).symm

end

end Sys2Proof.Machine
end

section
/-! SUPPORT. O37: a key that was OUT and is found behind no return's scan, whose return in flight is given up (R48, R78-R80). -/

namespace Sys2Proof.Machine

/-! ### The scan list without the entry that is read (R43) -/

theorem State.withdrawEntry_holds (s : State) {n m : CompId} (h : m ≠ n) :
    (s.withdrawEntry n).scanner.list.any (·.comp == m) = s.scanner.list.any (·.comp == m) := by
  change (s.scanner.list.filter fun e => e.comp != n).any _ = _
  rw [List.any_filter]
  refine congrArg (List.any _) (funext fun e => ?_)
  by_cases hm : e.comp = m
  · simp [hm, h]
  · simp [hm]

theorem ListKept.refl (s : State) : ListKept s s := ⟨rfl, fun _ he _ => he⟩

/-- The scan list reaches a return that is given up at its own compartment's door alone (R17). -/
theorem ReturnGivenUp.of_withdrawEntry {s u v : State} {n : CompId} {x : Nat} {k : KeyId}
    (h : ReturnGivenUp (s.withdrawEntry n) v x k) (hn : (s.comp n).door.readable = true)
    (hc : u.compartments = v.compartments) (hk : u.kiosk = v.kiosk) (hsc : u.scanner = s.scanner) :
    ReturnGivenUp s u x k := by
  obtain ⟨-, hnone, hsome⟩ := h
  refine ⟨by unfold ListKept; rw [hsc]; exact ListKept.refl s, fun hno => ?_, fun m hres hrel hone => ?_⟩
  · rw [hc, hk]
    exact hnone hno
  · obtain ⟨hshut, hopen⟩ := hsome m hres hrel hone
    rw [hc, hk]
    refine ⟨fun hd => ?_, hopen⟩
    have hmn : m ≠ n := by
      rintro rfl
      obtain e | e := hd <;> rw [e] at hn <;> cases hn
    obtain ⟨hdrop, hkiosk⟩ := hshut hd
    exact ⟨hdrop.congr rfl (s.withdrawEntry_holds hmn) rfl hc, hkiosk⟩

/-! ### The stray return (R48, R79, R80) -/

section
variable {s : State} {x : ScanEntry} {k : KeyId} {r : KeyRecord} {sl : Slot} {c : Contract} {final : Tier}

/-- Closed and its return given up, the contract's records stand as the closure wrote them; the rest is the cabinet's and
the kiosk's. -/
theorem ReadIn.closedBy_cancelled (h : ReadIn s x) (hk : s.key k = some r) (hsl : s.slot sl = some c)
    (hout : r.location = .out c.number) (hf : FinalTier (s.policy r.group) c s.present final) :
    let u := s.closedBy x.comp sl (s.policy r.group) c .stray final
    (∃ y z, u.cancelReturn c.number = (u.withCompartments y).withKiosk z)
      ∧ SameShell s (u.cancelReturn c.number) x.comp
      ∧ ReturnGivenUp s { s with
          compartments := (u.cancelReturn c.number).compartments, kiosk := (u.cancelReturn c.number).kiosk } c.number k := by
  intro u
  have hclose := h.closeContract hk hsl hout hf .stray
  have hnot : u.contractState c.number ≠ some .returning := by
    change (s.closedBy x.comp sl (s.policy r.group) c .stray final).contractState c.number ≠ _
    rw [← hclose]
    exact State.closeContract_notReturning _ _ _ _ _
  have hsame : SameCabinet (s.withdrawEntry x.comp) u := ⟨rfl, rfl, rfl, rfl, rfl⟩
  have hread := h.cabinet.reading h.listed h.reading
  have hlat : (s.withdrawEntry x.comp).LatchOk := hread.latch
  obtain ⟨y, z, he⟩ := State.cancelReturn_frame (hsame.latchOk hlat) hnot
  refine ⟨⟨y, z, he⟩, ?_, ?_⟩
  · refine State.Scanned.cancelReturn_shell (s := u) ?_ c.number
    change (s.closedBy x.comp sl (s.policy r.group) c .stray final).Scanned _
    rw [← hclose]
    exact hread.undisturbed (State.closeContract_undisturbed _ _ _ _ _)
  · refine ReturnGivenUp.of_withdrawEntry (State.cancelReturn_givenUp hsame hlat hnot ?_ rfl rfl)
      (h.cabinet.scanned.readable x h.listed h.reading) rfl rfl rfl
    rw [he]
    exact .refl _

/-- The key came back elsewhere than its return's scan expects, or without a return (R48, R53, R78, R79). -/
theorem ReadIn.strayed (h : ReadIn s x) (hc : (s.comp x.comp).contents = []) (hk : s.key k = some r)
    (hsl : s.slot sl = some c) (hout : r.location = .out c.number)
    (hf : FinalTier (s.policy r.group) c s.present final)
    (hplain : ∀ q, (s.comp x.comp).release = some q → q.purpose.key? = none) :
    ∃ u, ReturnGivenUp s u c.number k
      ∧ ∃ t, exec (.scanCompletion ⟨x.comp, [r.tag]⟩) s = .next t
        ∧ FoundEnded s (((s.withdrawEntry x.comp).withCompartments u.compartments).withKiosk u.kiosk) x.comp k
          (s.scanner.list.filter (·.comp != x.comp))
          [returnDone (s.policy r.group) c .stray s.present final (some x.comp)]
          { s.contracts with
            slots := s.contracts.slots.set sl (some (closedAs (s.policy r.group) c .stray s.present final)) }
          { r with location := .compartment x.comp, mark := .unchecked } t := by
  obtain ⟨⟨y, z, he⟩, hshell, hgiven⟩ := h.closedBy_cancelled hk hsl hout hf
  have hcalm := State.cancelReturn_calm (s.closedBy x.comp sl (s.policy r.group) c .stray final) c.number
  have hless := State.cancelReturn_releases (s.closedBy x.comp sl (s.policy r.group) c .stray final) c.number
  have hclose := h.closeContract hk hsl hout hf .stray
  refine ⟨_, hgiven, ?_⟩
  generalize hv : (s.closedBy x.comp sl (s.policy r.group) c .stray final).cancelReturn c.number = v at *
  refine h.foundPlain (c := v.comp x.comp) (log := ⟨[(k, .stray)], []⟩) hc hk hplain rfl rfl hcalm.known (hshell _)
    (fun q hq => hplain q (hless x.comp q hq)) ?_ (fun c' => ?_) (fun m hm => by cases hm)
    (y := s.keys.put k { r with location := .compartment x.comp })
  · have hfound : (s.withdrawEntry x.comp).keyFound (s.readInput x [r.tag]) ⟨[], []⟩ k
        = (v.moveKey k (.compartment x.comp), ⟨[(k, .stray)], []⟩) := by
      have hno : ¬ (s.readInput x [r.tag]).purpose.isReturnOf c.number = true := by
        have hpurpose := (State.scanPurpose_keyless hplain x.carried).2
        change ¬ (s.scanPurpose x.comp x.carried).isReturnOf c.number = true
        cases hp : s.scanPurpose x.comp x.carried with
        | ret y j => exact absurd hp (hpurpose y j).2
        | pickup | nothing | forced | staff | link => exact Bool.false_ne_true
      rw [State.keyFound, show (s.withdrawEntry x.comp).key k = some r from hk, Option.map_some, hout]
      refine (if_neg hno).trans ?_
      rw [← hv, ← hclose]
      rfl
    have hkv : v.key k = some r := by
      rw [he]
      exact hk
    rw [hfound, State.moveKey_arrived hkv (.inl ⟨_, hout⟩), he]
    exact congrArg (·, _) (State.reconciling_same (((s.withdrawEntry x.comp).withCompartments y).withKiosk z) x.comp _ _
      [returnDone (s.policy r.group) c .stray s.present final (some x.comp)]).symm
  · rw [State.reconciling_marked, if_pos (.inl rfl)]

end

end Sys2Proof.Machine
end

section
/-! SUPPORT. O37: a key found in one compartment and recorded in another, with the pickup it was promised to (R48, R49,
R73; log 19). -/

namespace Sys2Proof.Machine

/-! ### The scan requested of the compartment that lost the key (R41) -/

theorem State.requestSweep_scanner (s : State) (m : CompId) : (s.requestSweep m).scanner = { s.scanner with
    list := s.scanner.list ++ if s.scanner.list.any (·.comp == m) then [] else [⟨m, .sweep, .nothing, false⟩] } := by
  unfold State.requestSweep
  change (if s.scanner.list.any (·.comp == m) = true then s else _).scanner = _
  by_cases h : s.scanner.list.any (·.comp == m) = true
  · rw [if_pos h, if_pos h, List.append_nil]
  · rw [if_neg h, if_neg h]
    dsimp only
    split <;> rfl

/-- Writing a compartment that the request does not queue, before or after it, is the same. -/
theorem SweepQueued.wrote {s t s' t' : State} {q : List CompId} {n : CompId} {c : Compartment} (h : SweepQueued s t q)
    (hn : n ∉ q) (hs : s'.compartments.table = s.compartments.table.set n c) (hsl : s'.scanner.list = s.scanner.list)
    (ht : t'.compartments.table = t.compartments.table.set n c) (htl : t'.scanner.list = t.scanner.list) :
    SweepQueued s' t' q := by
  obtain ⟨h1, h2, h3⟩ := h
  refine ⟨by rw [htl, hsl]; exact h1, by rw [htl, hsl]; exact h2, fun m => ?_⟩
  have hget : ∀ (u u' : State), u'.compartments.table = u.compartments.table.set n c →
      u'.comp m = if n = m then c else u.comp m := fun u u' hu => by
    rw [State.comp, hu, Table.get_set]
    rfl
  rw [hget t t' ht, hget s s' hs]
  by_cases e : n = m
  · rw [if_pos e, if_pos e, if_neg fun hq => hn (e ▸ hq.1)]
  · rw [if_neg e, if_neg e]
    exact h3 m

/-! ### The promise withdrawn in a reconciliation (R49, R73) -/

section
variable {s : State} {k : KeyId} {r : KeyRecord} {c : Nat} {m : CompId} {o : Origin}

theorem State.withdrawPromise_unpromised (h : s.key k = some r) (hp : r.promisedTo = none) (scanned : Option CompId) :
    s.withdrawPromise k scanned = s := by
  rw [State.withdrawPromise, h]
  simp only [Option.bind_some, hp]

/-- A promise with a pickup is cleared, and the pickup's release cancelled when its door has not opened. -/
theorem State.withdrawPromise_promised (h : s.key k = some r) (hp : r.promisedTo = some c)
    (hm : s.pickupComp c = some m) (n : CompId) :
    s.withdrawPromise k (some n) = ((s.clearPromise k).cancelRelease m n).getD (s.clearPromise k) := by
  have hm' : (s.clearPromise k).pickupComp c = some m := hm
  have hclear : (s.modifyKey k fun r => { r with promisedTo := none }) = s.clearPromise k := rfl
  rw [State.withdrawPromise, h]
  simp only [Option.bind_some, hp, hclear, hm', Option.getD_some]

end

/-- Telling the contract controller that a pickup's release was cancelled, when its key is neither available nor listed
(R72, R90). -/
theorem State.tellEnded_pickup_unlisted {s : State} {n : CompId} {sl : Slot} {d : Contract} {k : KeyId} {r : KeyRecord}
    {o : Origin} (hn : s.Numbered) (hsl : s.slot sl = some d) (hst : d.state = .picking) (hk : s.key k = some r)
    (hp : r.promisedTo = none) (hlist : k ∉ s.keys.lists.get r.group)
    (haway : ∀ m, r.location = .compartment m → (s.comp m).contents ≠ [.key k]) (named : CompId) :
    s.tellEnded n ⟨.pickup d.number k, o⟩ .cancelled named = { s.noted (handoutFailed s.present named k d 2) with
      contracts := { s.contracts with slots := s.contracts.slots.set sl (some (fellBack d)) }
      kiosk := s.kioskAfter n } := by
  have hstate : s.contractState d.number = some .picking :=
    (State.contractState_iff hn).mpr ⟨sl, d, hsl, rfl, hst⟩
  have hf := State.fallBack_eq (k := k) (n := named) (x := ReleaseOutcome.cancelled.reason) hn hsl hst
  have hkf : (s.fallBack d.number k named ReleaseOutcome.cancelled.reason).key k = some r := by
    rw [hf]
    exact hk
  have hin : (s.fallBack d.number k named ReleaseOutcome.cancelled.reason).inList k = false :=
    Bool.eq_false_iff.mpr fun e => hlist (by rw [State.inList_iff hkf, hf] at e; exact e)
  have hav : (s.fallBack d.number k named ReleaseOutcome.cancelled.reason).available k = false :=
    Bool.eq_false_iff.mpr fun e => by
      obtain ⟨m, hm, -, -, hcm⟩ := State.available_located e
      rw [State.loc, hkf] at hm
      rw [hf] at hcm
      exact haway m (Option.some.inj hm) hcm
  have hre : ∀ j, (s.fallBack d.number k named ReleaseOutcome.cancelled.reason).reexamine j k
      = s.fallBack d.number k named ReleaseOutcome.cancelled.reason := fun j => by
    obtain ⟨-, e⟩ | ⟨-, e, -⟩ | ⟨e, -⟩ := State.reexamine_cases hkf j
    · exact e
    · rw [hin] at e; cases e
    · rw [hav] at e; cases e
  unfold State.tellEnded
  dsimp only
  rw [State.pickupFailed, if_pos hstate, State.clearPromise_none hkf hp, hre, hf]
  rfl

/-! ### The key taken from the other compartment (R2, R49) -/

/-- The key has left compartment `m` for `n`, and the scan of `m` is queued. -/
def State.displaced (s : State) (n m : CompId) (k : KeyId) : State :=
  ((s.withdrawEntry n).moveKey k (.compartment n)).requestSweep m

section
variable {s : State} {n m : CompId} {k : KeyId} {r : KeyRecord}

theorem State.displaced_eq (hk : s.key k = some r) (hl : r.location = .compartment m) (hmn : m ≠ n) :
    SweepQueued ((s.withdrawEntry n).withoutKey m k) (s.displaced n m k)
        (if (s.scanner.list.filter (·.comp != n)).any (·.comp == m) then [] else [m])
      ∧ ∃ tb, s.displaced n m k = { s with
        keys := s.keys.put k { r with location := .compartment n }
        scanner := { s.scanner with list := s.scanner.list.filter (·.comp != n)
          ++ if (s.scanner.list.filter (·.comp != n)).any (·.comp == m) then [] else [⟨m, .sweep, .nothing, false⟩] }
        compartments := { s.compartments with table := tb } } := by
  have hmove : s.displaced n m k = (((s.withdrawEntry n).withoutKey m k).withKeys
      (s.keys.put k { r with location := .compartment n })).requestSweep m :=
    congrArg (State.requestSweep · m) (State.moveKey_fromOther (s := s.withdrawEntry n) hk hl hmn)
  obtain ⟨hq, l, tb, he⟩ := State.requestSweep_spec (((s.withdrawEntry n).withoutKey m k).withKeys
    (s.keys.put k { r with location := .compartment n })) m
  have hsc := State.requestSweep_scanner (((s.withdrawEntry n).withoutKey m k).withKeys
    (s.keys.put k { r with location := .compartment n })) m
  rw [hmove]
  rw [he] at hsc
  obtain rfl := congrArg Scanner.list hsc
  exact ⟨hq, tb, he⟩

/-- The request for the scan writes a door at most. -/
theorem State.displaced_comp (hk : s.key k = some r) (hl : r.location = .compartment m) (hmn : m ≠ n) (i : CompId) :
    (s.displaced n m k).comp i = { (s.withoutKey m k).comp i with door := .scanning }
      ∨ (s.displaced n m k).comp i = (s.withoutKey m k).comp i := by
  obtain ⟨⟨-, -, hc⟩, -⟩ := State.displaced_eq hk hl hmn
  rw [hc]
  exact ite_eq_or_eq _ _ _

theorem State.displaced_release (hk : s.key k = some r) (hl : r.location = .compartment m) (hmn : m ≠ n) (i : CompId) :
    ((s.displaced n m k).comp i).release = (s.comp i).release := by
  obtain e | e := State.displaced_comp hk hl hmn i <;> rw [e, State.withoutKey_comp]

theorem State.displaced_known (hk : s.key k = some r) (hl : r.location = .compartment m) (hmn : m ≠ n) (i : CompId) :
    ((s.displaced n m k).comp i).known = (s.comp i).known := by
  obtain e | e := State.displaced_comp hk hl hmn i <;> rw [e, State.withoutKey_comp]

theorem State.displaced_contents (hk : s.key k = some r) (hl : r.location = .compartment m) (hmn : m ≠ n) :
    ((s.displaced n m k).comp m).contents = (s.comp m).contents.filter (· != Item.key k) := by
  obtain e | e := State.displaced_comp hk hl hmn m <;> rw [e, State.withoutKey_comp] <;> exact if_pos rfl

theorem State.displaced_door (hk : s.key k = some r) (hl : r.location = .compartment m) (hmn : m ≠ n) {d : DoorState}
    (hd : (s.comp m).door ≠ d) (h : d ≠ .scanning) : ((s.displaced n m k).comp m).door ≠ d := by
  obtain e | e := State.displaced_comp hk hl hmn m
  · rw [e]
    exact Ne.symm h
  · rwa [e, State.withoutKey_comp]

theorem not_mem_queued (hmn : m ≠ n) (b : Bool) : n ∉ if b then [] else [m] := fun hn => by
  split at hn
  · cases hn
  · exact hmn (List.mem_singleton.mp hn).symm

theorem State.displaced_self (hk : s.key k = some r) (hl : r.location = .compartment m) (hmn : m ≠ n) :
    (s.displaced n m k).comp n = s.comp n := by
  obtain ⟨⟨-, -, hc⟩, -⟩ := State.displaced_eq hk hl hmn
  rw [hc, if_neg fun hq => not_mem_queued hmn _ hq.1, State.withoutKey_comp, if_neg hmn]
  rfl

/-- Behind a door that is not LOCKED the request for the scan moves no door (R17, R41). -/
theorem State.displaced_compartments (hk : s.key k = some r) (hl : r.location = .compartment m) (hmn : m ≠ n)
    (hd : (s.comp m).door ≠ .locked) : (s.displaced n m k).compartments = (s.withoutKey m k).compartments := by
  obtain ⟨⟨-, -, hc⟩, tb, he⟩ := State.displaced_eq hk hl hmn
  have ht : (s.displaced n m k).compartments.table = (s.withoutKey m k).compartments.table := Table.ext_get fun i => by
    refine (hc i).trans (if_neg fun ⟨hi, hdi⟩ => hd ?_)
    obtain rfl : i = m := by
      split at hi
      · cases hi
      · exact List.mem_singleton.mp hi
    rwa [State.withoutKey_comp] at hdi
  rw [he] at ht ⊢
  change tb = _ at ht
  rw [ht]
  rfl

/-- The key with its promise cleared. -/
theorem State.displaced_clearPromise (hk : s.key k = some r) (hl : r.location = .compartment m) (hmn : m ≠ n) :
    (s.displaced n m k).clearPromise k = (s.displaced n m k).withKeys
      (s.keys.put k { r with location := .compartment n, promisedTo := none }) := by
  obtain ⟨-, tb, he⟩ := State.displaced_eq hk hl hmn
  have hkey : (s.displaced n m k).key k = some { r with location := .compartment n } := by
    rw [he]
    exact Table.get_set_self _ _ _
  refine (State.modifyKey_put hkey fun r => { r with promisedTo := none }).trans (congrArg _ ?_)
  rw [he]
  exact KeyTable.put_put _ _ _ _

/-- The pickup that the key was promised to is found by its contract (R73). -/
theorem State.displaced_pickupComp (hb : s.Booked fun _ => True) (hk : s.key k = some r)
    (hl : r.location = .compartment m) (hmn : m ≠ n) {c : Nat} {o : Origin}
    (h : (s.comp m).release = some ⟨.pickup c k, o⟩) : (s.displaced n m k).pickupComp c = some m :=
  State.pickupComp_of ((State.displaced_release hk hl hmn m).trans h) fun i j o hi =>
    State.pickups_alone hb h i j o ((State.displaced_release hk hl hmn i).symm.trans hi)

/-- Without a pickup whose door waits to open the promise alone goes (R3, R73). -/
theorem State.displaced_unpromised (hb : s.Booked fun _ => True) (hk : s.key k = some r)
    (hl : r.location = .compartment m) (hmn : m ≠ n)
    (hp : r.promisedTo = none ∨ ∃ c, r.promisedTo = some c ∧ (∃ o, (s.comp m).release = some ⟨.pickup c k, o⟩)
      ∧ ¬ ((s.comp m).door = .waiting ∨ (s.comp m).door = .unlatched)) :
    (s.displaced n m k).withdrawPromise k (some n) = (s.displaced n m k).clearPromise k := by
  obtain ⟨-, tb, he⟩ := State.displaced_eq hk hl hmn
  have hkey : (s.displaced n m k).key k = some { r with location := .compartment n } := by
    rw [he]
    exact Table.get_set_self _ _ _
  obtain hno | ⟨c, hc, ⟨o, hr⟩, hd⟩ := hp
  · rw [State.withdrawPromise_unpromised hkey hno, State.clearPromise_none hkey hno]
  · obtain ⟨hw, hu⟩ := not_or.mp hd
    rw [State.withdrawPromise_promised hkey hc (State.displaced_pickupComp hb hk hl hmn hr),
      (State.cancelRelease_cases ((s.displaced n m k).clearPromise k) m n).1
        (State.displaced_door hk hl hmn hw (by decide)) (State.displaced_door hk hl hmn hu (by decide)),
      Option.getD_none]

/-- A pickup whose door waits to open is cancelled, and its contract falls back (R72, R73; log 19). -/
theorem State.displaced_promised (hb : s.Booked fun _ => True) (hk : s.key k = some r) (hl : r.location = .compartment m)
    (hmn : m ≠ n) {sl : Slot} {d : Contract} (hsl : s.slot sl = some d) (hp : r.promisedTo = some d.number) {o : Origin}
    (hr : (s.comp m).release = some ⟨.pickup d.number k, o⟩)
    (hd : (s.comp m).door = .waiting ∨ (s.comp m).door = .unlatched) (hlist : k ∉ s.keys.lists.get r.group)
    (hempty : (s.comp n).contents = []) {u : State} (hu : (s.displaced n m k).withdrawPromise k (some n) = u)
    (hself : u.comp n = s.comp n) :
    ((s.displaced n m k).clearPromise k).cancelRelease m n = some u
      ∧ u = { s.noted (handoutFailed s.present n k d 2) with
        keys := s.keys.put k { r with location := .compartment n, promisedTo := none }
        kiosk := s.kioskAfter m, scanner := (s.displaced n m k).scanner, compartments := u.compartments
        contracts := { s.contracts with slots := s.contracts.slots.set sl (some (fellBack d)) } } := by
  obtain ⟨-, tb, he⟩ := State.displaced_eq hk hl hmn
  have hkey : (s.displaced n m k).key k = some { r with location := .compartment n } := by
    rw [he]
    exact Table.get_set_self _ _ _
  have hlocked : (s.comp m).door ≠ .locked := by obtain e | e := hd <;> rw [e] <;> decide
  have hdoor : ((s.displaced n m k).comp m).door = (s.comp m).door := by
    rw [State.comp, State.displaced_compartments hk hl hmn hlocked]
    exact (congrArg Compartment.door (State.withoutKey_comp s m k m)).trans rfl
  have hget := State.withdrawPromise_promised hkey hp (State.displaced_pickupComp hb hk hl hmn hr) n
  have hcancel : ((s.displaced n m k).clearPromise k).cancelRelease m n = some u := by
    obtain ⟨-, hw, hun⟩ := State.cancelRelease_cases ((s.displaced n m k).clearPromise k) m n
    have hsome : ∃ v, ((s.displaced n m k).clearPromise k).cancelRelease m n = some v := by
      obtain e | e := hd
      · exact ⟨_, hw (hdoor.trans e)⟩
      · exact ⟨_, hun (hdoor.trans e)⟩
    obtain ⟨v, hv⟩ := hsome
    rw [hv, Option.getD_some, hu] at hget
    rw [hv, hget]
  refine ⟨hcancel, ?_⟩
  obtain ⟨i, c, hc, hnum, hst, -⟩ := hb.rented.pickups m d.number k trivial (Compartment.pickup?_eq_some.mpr ⟨o, hr⟩)
  obtain rfl := hb.index.numbered i sl c d hc hsl hnum
  obtain rfl := Option.some.inj (hc.symm.trans hsl)
  obtain ⟨y, hy⟩ := State.cancelRelease_told hcancel ((State.displaced_release hk hl hmn m).trans hr)
  obtain rfl : y = u.compartments := by
    rw [hy, State.tellEnded_frame]
    rfl
  rw [State.displaced_clearPromise hk hl hmn] at hy
  have hnum' : (((s.displaced n m k).withKeys (s.keys.put k { r with
      location := .compartment n, promisedTo := none })).withCompartments u.compartments).Numbered := by
    rw [he]
    exact hb.index.numbered
  have hc' : (((s.displaced n m k).withKeys (s.keys.put k { r with
      location := .compartment n, promisedTo := none })).withCompartments u.compartments).slot i = some c := by
    rw [he]
    exact hc
  refine hy.trans ((State.tellEnded_pickup_unlisted hnum' hc' hst (Table.get_set_self _ _ _) rfl hlist
    (fun j hj => ?_) n).trans ?_)
  · obtain rfl := Location.compartment.inj hj
    change (u.comp n).contents ≠ _
    rw [hself, hempty]
    simp
  · rw [he]
    rfl

end

/-! ### The scan of the other compartment's key (R49) -/

section
variable {s : State} {x : ScanEntry} {m : CompId} {k : KeyId} {r : KeyRecord}

/-- The scan list after the scan of compartment `n`, with the entry of compartment `m` that lost the key. -/
def State.listAfter (s : State) (n m : CompId) : List ScanEntry :=
  s.scanner.list.filter (·.comp != n)
    ++ if (s.scanner.list.filter (·.comp != n)).any (·.comp == m) then [] else [⟨m, .sweep, .nothing, false⟩]

theorem ReadIn.other (h : ReadIn s x) (hc : (s.comp x.comp).contents = []) (hk : s.key k = some r)
    (hl : r.location = .compartment m) : m ≠ x.comp := by
  rintro rfl
  have hin := (h.location.2.1 k x.comp).mpr (by rw [hk, Option.map_some, hl])
  rw [hc] at hin
  cases hin

/-- The compartment being read stands as it was (R22, R30). -/
theorem ReadIn.displaced_comp (h : ReadIn s x) (hk : s.key k = some r) (hl : r.location = .compartment m)
    (hmn : m ≠ x.comp) :
    ((s.displaced x.comp m k).withdrawPromise k (some x.comp)).comp x.comp = s.comp x.comp := by
  have hread : (s.displaced x.comp m k).Scanned (some x.comp) :=
    ((h.cabinet.reading h.listed h.reading).undisturbed (State.moveKey_undisturbed _ _ _)).requestSweep
      fun e => hmn (Option.some.inj e).symm
  exact (hread.withdrawPromise_comp k _).trans (State.displaced_self hk hl hmn)

/-- The scan of a key that another compartment, which holds no further key, had listed: `u` is what the withdrawal of its
promise leaves. -/
theorem ReadIn.elsewhere (h : ReadIn s x) (hc : (s.comp x.comp).contents = []) (hk : s.key k = some r)
    (hplain : ∀ q, (s.comp x.comp).release = some q → q.purpose.key? = none) (hl : r.location = .compartment m)
    (halone : ∀ j, j ≠ k → Item.key j ∉ (s.comp m).contents) {u : State} {kiosk : Kiosk} {z : ContractTable}
    {bs : List NoticeBody} (hu : (s.displaced x.comp m k).withdrawPromise k (some x.comp) = u)
    (he : u = { s.noted bs with
      keys := s.keys.put k { r with location := .compartment x.comp, promisedTo := none }
      kiosk := kiosk, scanner := { s.scanner with list := s.listAfter x.comp m }, compartments := u.compartments
      contracts := z }) :
    ∃ t, exec (.scanCompletion ⟨x.comp, [r.tag]⟩) s = .next t
      ∧ FoundEnded s { s with
          kiosk := kiosk, scanner := { s.scanner with list := s.listAfter x.comp m }, compartments := u.compartments }
        x.comp k (s.listAfter x.comp m) bs z { r with location := .compartment x.comp, promisedTo := none } t := by
  have hmn := h.other hc hk hl
  have hself := h.displaced_comp hk hl hmn
  have hcalm := State.withdrawPromise_calm (s.displaced x.comp m k) k (some x.comp)
  rw [hu] at hself hcalm
  have hkept : ∀ i, (u.comp i).known = (s.comp i).known := fun i =>
    (hcalm.known i).trans (State.displaced_known hk hl hmn i)
  have hcontents : (u.comp m).contents = (s.comp m).contents.filter (· != Item.key k) :=
    (hcalm.contents m).trans (State.displaced_contents hk hl hmn)
  refine h.foundPlain (c := s.comp x.comp) (log := ⟨[], [m]⟩) hc hk hplain rfl rfl hkept rfl hplain ?_
    (fun _ => rfl) (fun i hi => ?_)
    (y := s.keys.put k { r with location := .compartment x.comp, promisedTo := none })
  · have hfound : (s.withdrawEntry x.comp).keyFound (s.readInput x [r.tag]) ⟨[], []⟩ k
        = ((s.displaced x.comp m k).withdrawPromise k (some x.comp), ⟨[], [m]⟩) := by
      rw [State.keyFound, show (s.withdrawEntry x.comp).key k = some r from hk, Option.map_some, hl]
      exact if_neg hmn
    have hd := State.reconciling_same { s with
      kiosk := kiosk, scanner := { s.scanner with list := s.listAfter x.comp m }, compartments := u.compartments }
      x.comp (s.keys.put k { r with location := .compartment x.comp, promisedTo := none }) z bs
    rw [hfound, hu, ← hself]
    exact congrArg (·, _) (he.trans hd.symm)
  · obtain rfl := List.mem_singleton.mp hi
    refine ⟨hmn, List.eq_nil_iff_forall_not_mem.mpr fun j hj => ?_⟩
    have hin : Item.key j ∈ (u.comp i).contents := mem_keysOf.mp hj
    rw [hcontents, List.mem_filter] at hin
    obtain ⟨hin, hne⟩ := hin
    exact halone j (fun e => by rw [e] at hne; simp at hne) hin

/-- No pickup's door waited to open (R49, R73). -/
theorem ReadIn.elsewhereUnpromised (h : ReadIn s x) (hc : (s.comp x.comp).contents = []) (hk : s.key k = some r)
    (hplain : ∀ q, (s.comp x.comp).release = some q → q.purpose.key? = none) (hl : r.location = .compartment m)
    (halone : ∀ j, j ≠ k → Item.key j ∉ (s.comp m).contents)
    (hp : r.promisedTo = none ∨ ∃ c, r.promisedTo = some c ∧ (∃ o, (s.comp m).release = some ⟨.pickup c k, o⟩)
      ∧ ¬ ((s.comp m).door = .waiting ∨ (s.comp m).door = .unlatched)) :
    ∃ t, exec (.scanCompletion ⟨x.comp, [r.tag]⟩) s = .next t
      ∧ FoundEnded s { s with
          scanner := { s.scanner with list := s.listAfter x.comp m }
          compartments := (s.displaced x.comp m k).compartments }
        x.comp k (s.listAfter x.comp m) [] s.contracts
        { r with location := .compartment x.comp, promisedTo := none } t := by
  have hmn := h.other hc hk hl
  obtain ⟨-, tb, he⟩ := State.displaced_eq hk hl hmn
  obtain ⟨u, hu⟩ : ∃ u, (s.displaced x.comp m k).withKeys
      (s.keys.put k { r with location := .compartment x.comp, promisedTo := none }) = u := ⟨_, rfl⟩
  have hcomps : u.compartments = (s.displaced x.comp m k).compartments := by
    rw [← hu]
    rfl
  rw [← hcomps]
  refine h.elsewhere hc hk hplain hl halone (kiosk := s.kiosk)
    (((State.displaced_unpromised h.booked hk hl hmn hp).trans (State.displaced_clearPromise hk hl hmn)).trans hu) ?_
  rw [hcomps, ← hu, he]
  rfl

/-- What that leaves of the other compartment (R2, R41). -/
theorem State.displaced_queued (hk : s.key k = some r) (hl : r.location = .compartment m) (hmn : m ≠ x.comp)
    {q : Compartment} {t : State}
    (hkept : ListKept { s with scanner := { s.scanner with list := s.listAfter x.comp m } } t)
    (ht : t.compartments = { (s.displaced x.comp m k).compartments with
      table := (s.displaced x.comp m k).compartments.table.set x.comp q }) :
    let moved := (s.withdrawEntry x.comp).withoutKey m k
    SweepQueued { moved with
        compartments := { moved.compartments with table := moved.compartments.table.set x.comp q } } t
      (if (s.scanner.list.filter (·.comp != x.comp)).any (·.comp == m) then [] else [m]) := by
  obtain ⟨hq, tb, he⟩ := State.displaced_eq hk hl hmn
  refine SweepQueued.kept (t := { s with
      scanner := { s.scanner with list := s.listAfter x.comp m }, compartments := t.compartments })
    (hq.wrote (not_mem_queued hmn _) rfl rfl ?_ ?_) hkept rfl
  · exact congrArg Compartments.table ht
  · rw [he]
    rfl

/-- A pickup's door waited to open: its release is cancelled (R72, R73; log 19). -/
theorem ReadIn.elsewherePromised (h : ReadIn s x) (hc : (s.comp x.comp).contents = []) (hk : s.key k = some r)
    (hplain : ∀ q, (s.comp x.comp).release = some q → q.purpose.key? = none) (hl : r.location = .compartment m)
    (halone : ∀ j, j ≠ k → Item.key j ∉ (s.comp m).contents) {sl : Slot} {d : Contract} (hsl : s.slot sl = some d)
    (hp : r.promisedTo = some d.number) (hr : ∃ o, (s.comp m).release = some ⟨.pickup d.number k, o⟩)
    (hd : (s.comp m).door = .waiting ∨ (s.comp m).door = .unlatched) (hlist : k ∉ s.keys.lists.get r.group) :
    ∃ u, ReleaseDropped (((s.withdrawEntry x.comp).withoutKey m k).withScanner
        { s.scanner with list := s.listAfter x.comp m }) u m
      ∧ ∃ t, exec (.scanCompletion ⟨x.comp, [r.tag]⟩) s = .next t
        ∧ FoundEnded s { s with
            kiosk := s.kioskAfter m, scanner := { s.scanner with list := s.listAfter x.comp m }
            compartments := u.compartments }
          x.comp k (s.listAfter x.comp m) (handoutFailed s.present x.comp k d 2)
          { s.contracts with slots := s.contracts.slots.set sl (some (fellBack d)) }
          { r with location := .compartment x.comp, promisedTo := none } t := by
  obtain ⟨o, hr⟩ := hr
  have hmn := h.other hc hk hl
  obtain ⟨u, hu⟩ : ∃ u, (s.displaced x.comp m k).withdrawPromise k (some x.comp) = u := ⟨_, rfl⟩
  have hself := h.displaced_comp hk hl hmn
  rw [hu] at hself
  obtain ⟨hcancel, he⟩ := State.displaced_promised h.booked hk hl hmn hsl hp hr hd hlist hc hu hself
  obtain ⟨-, tb, hdisp⟩ := State.displaced_eq hk hl hmn
  have hsc : (s.displaced x.comp m k).scanner = { s.scanner with list := s.listAfter x.comp m } := by
    rw [hdisp]
    rfl
  rw [hsc] at he
  have hlocked : (s.comp m).door ≠ .locked := by obtain e | e := hd <;> rw [e] <;> decide
  have hcab := State.displaced_compartments hk hl hmn hlocked
  obtain ⟨hlat, -⟩ := h.cabinet
  have hcab' : ((s.displaced x.comp m k).clearPromise k).compartments = (s.withoutKey m k).compartments := hcab
  refine ⟨u, ?_, h.elsewhere hc hk hplain hl halone hu he⟩
  refine (State.cancelRelease_dropped ((State.withoutKey_latchOk hlat m k).of_eq hcab') hcancel).congr ?_ ?_ ?_ ?_
  · exact hcab'
  · exact congrArg (fun sc : Scanner => sc.list.any (·.comp == m)) hsc
  · change (s.displaced x.comp m k).store = s.store
    rw [hdisp]
  · rfl

end

/-! ### O37 -/

/-- Settles O37, one lemma per prior location of the key, and for another compartment one per promise that is withdrawn. -/
theorem scanFindsAReturnedKey : Obligations.ScanFindsAReturnedKey := by
  intro s x k r hp hcab hcon hloc hx hr hc hk
  have h : ReadIn s x := ⟨hp, hcab, hcon, hloc, hx, hr⟩
  refine ⟨fun sl c final hsl hout hf => ⟨fun hcar hst hrel => ?_, fun hplain _ => ?_⟩, fun hplain hl => ?_,
    fun m hplain hl halone => ⟨fun hpromise => ?_, fun sl d hsl hpromise hpickup hshut hlist => ?_⟩⟩
  · obtain ⟨t, hexec, hend⟩ := h.returned hc hk hsl hout hf hcar hst hrel
    exact ⟨t, hexec, ⟨hend.settled, hend.kept⟩, hend.compartments, hend.reexamined⟩
  · obtain ⟨u, hgiven, t, hexec, hend⟩ := h.strayed hc hk hsl hout hf hplain
    exact ⟨t, u, hexec, ⟨hend.settled, hend.kept⟩, hgiven, hend.compartments, hend.reexamined⟩
  · obtain ⟨t, hexec, hend⟩ := h.arrived hc hk hplain hl
    exact ⟨t, hexec, ⟨hend.settled, hend.kept⟩, hend.compartments, hend.reexamined⟩
  · obtain ⟨t, hexec, hend⟩ := h.elsewhereUnpromised hc hk hplain hl halone hpromise
    exact ⟨t, hexec, ⟨hend.settled, hend.kept⟩,
      State.displaced_queued hk hl (h.other hc hk hl) hend.kept hend.compartments, hend.reexamined⟩
  · obtain ⟨u, hdrop, t, hexec, hend⟩ := h.elsewherePromised hc hk hplain hl halone hsl hpromise hpickup hshut hlist
    exact ⟨t, u, hexec, ⟨hend.settled, hend.kept⟩, hdrop, hend.compartments, hend.reexamined⟩

end Sys2Proof.Machine
end
